-- ==== Sys2Proof/Machine/Tab.lean ====
section
/-! DEFINITION. Sparse tables in one canonical form: keys strictly rising, no entry equal to the value that an
unlisted key reads as. Memory, the register file and every array of like things of the device use them. -/

namespace Sys2Proof.Machine

/-- A sparse table from numbers to values of one type. -/
abbrev Tab (β : Type) := List (Nat × β)

/-- The value a table holds for a key; `d` is what an unlisted key reads as. -/
def tget {β : Type} (d : β) : Tab β → Nat → β
  | [], _ => d
  | (k, v) :: r, q => if k = q then v else tget d r q

/-- Put an entry before the first entry of a greater key. -/
def tins {β : Type} (k : Nat) (v : β) : Tab β → Tab β
  | [] => [(k, v)]
  | a :: r => if k < a.1 then (k, v) :: a :: r else a :: tins k v r

/-- Remove every entry of a key. -/
def tdel {β : Type} (k : Nat) : Tab β → Tab β
  | [] => []
  | a :: r => if a.1 = k then tdel k r else a :: tdel k r

/-- Write one key. Writing the default removes the entry, so equal tables are equal lists. -/
def tput {β : Type} [DecidableEq β] (d : β) (k : Nat) (v : β) (t : Tab β) : Tab β :=
  if v = d then tdel k t else tins k v (tdel k t)

/-- Change one key's value. -/
def tmod {β : Type} [DecidableEq β] (d : β) (k : Nat) (f : β → β) (t : Tab β) : Tab β :=
  tput d k (f (tget d t k)) t

/-- The canonical form: keys strictly rising and no entry holding the default. -/
def tabWf {β : Type} [DecidableEq β] (d : β) : Tab β → Bool
  | [] => true
  | [a] => decide (a.2 ≠ d)
  | a :: b :: r => decide (a.2 ≠ d) && decide (a.1 < b.1) && tabWf d (b :: r)

/-- The numbers from `a` up, `n` of them. -/
def upFrom (a : Nat) : Nat → List Nat
  | 0 => []
  | n + 1 => a :: upFrom (a + 1) n

/-- The numbers below `n`. -/
def below (n : Nat) : List Nat := upFrom 0 n

end Sys2Proof.Machine
end

