-- ==== Sys2Proof/Word.lean ====
section
/-! DEFINITION. The word types of the LF2048 (spec/00_scope.md, R5 to R11): bytes, 32-bit register
words, 64-bit bus words, and byte sequences. -/

namespace Sys2Proof

/-- One byte. -/
abbrev Byte := BitVec 8

/-- A 32-bit register word, or the 32-bit Q0.31 word of a lane (R7, R11, R97). -/
abbrev Word := BitVec 32

/-- A 64-bit word: a Q15.48 bus word or a basin word (R98, R454). -/
abbrev DWord := BitVec 64

/-- A sequence of bytes, lowest address or first received first. -/
abbrev Bytes := List (BitVec 8)

end Sys2Proof
end

