-- ==== Sys2Proof/Machine/Parts/Spindle.lean ====
section
/-! DEFINITION. The pieces of state of the spindles and the creel (spec/05_spindle_core.md to
spec/07_creel_placement.md). -/

namespace Sys2Proof.Machine

/-- What ECC finds in the words an access reads (R147, R155, R170). -/
inductive Ecc where
  | ok
  | corr
  | uncorr
  deriving DecidableEq, Repr

/-- A kernel descriptor (R168). -/
structure Desc where
  valid : Bool := false
  k : Nat := 0
  l2 : Bool := false
  dom : Nat := 0
  tier : Nat := 0
  nIn : Nat := 0
  nOut : Nat := 0
  pBase : Nat := 0
  pLen : Nat := 0
  xBase : Nat := 0
  yBase : Nat := 0
  cycles : Nat := 0
  xSize : Nat := 0
  ySize : Nat := 0
  sSize : Nat := 0
  sHome : Nat := 0
  area : Nat := 0
  first : Nat := 0
  last : Nat := 0
  deriving DecidableEq, Repr

/-- A spindle: the registers of R151, the loop stack of R182 (innermost first: start and end), and where it stands in
its block (R159). Cycles count from the release (R202, SPN_CYC_LAST). -/
structure Spindle where
  d : Tab (BitVec 32) := []
  a : Tab (BitVec 24) := []
  m : Tab (BitVec 24) := []
  l : Tab (BitVec 24) := []
  lc : Tab (BitVec 16) := []
  /-- Accumulator parts: 0 ACC0 real, 1 ACC0 imaginary, 2 ACC1 real, 3 ACC1 imaginary, in units of 2^-71. -/
  acc : Tab Int := []
  bxd : Nat := 31
  loops : List (Nat × Nat) := []
  pc : Nat := 0
  run : Bool := false
  isol : Bool := false
  entry : Nat := 0
  blk : Nat := 0
  desc : Desc := {}
  /-- Due entries still to start in this block: the position of each in the run list, and its descriptor as the release read it
  (R159). -/
  todo : List (Nat × Desc) := []
  /-- The release at which this block's work began. -/
  rel : Nat := 0
  cyc : Nat := 0
  kStart : Nat := 0
  /-- The spin cycle before which a D register, an A, M or L register (by its code of R174 less 0x10), or an accumulator is
  not ready (R153). -/
  dRdy : Tab Nat := []
  aRdy : Tab Nat := []
  accRdy : Tab Nat := []
  /-- The cycles at which the posted basin writes still in the write buffer leave it, the next one first (R152). -/
  posted : List Nat := []
  aov : Bool := false
  sov : Bool := false
  aovLast : Bool := false
  sovLast : Bool := false
  /-- 64-byte lines, as physical address / 64, that the running kernel has written in this block (R164, R221). -/
  wrote : List Nat := []
  deriving DecidableEq, Repr

/-- A kernel at a running place (R213, R216): its header, where it runs, and from which block to which. -/
structure Place where
  k : Nat := 0
  dom : Nat := 0
  l2 : Bool := false
  nIn : Nat := 0
  nOut : Nat := 0
  cycles : Nat := 0
  progWords : Nat := 0
  xSize : Nat := 0
  ySize : Nat := 0
  sSize : Nat := 0
  inLane : Nat := 0
  outLane : Nat := 0
  s : Nat := 0
  tier : Nat := 0
  pBase : Nat := 0
  xBase : Nat := 0
  yBase : Nat := 0
  area : Nat := 0
  sHome : Nat := 0
  entry : Nat := 0
  first : Nat := 0
  last : Option Nat := none
  /-- The first block whose outtake words KOUT cards take from this place (R76, R223). -/
  outFrom : Nat := 0
  /-- The block from which its outtake reads 0 (R170). -/
  zeroFrom : Option Nat := none
  /-- Runs no further block until a commit replaces it (R170, ILLEGAL). -/
  dead : Bool := false
  /-- A migration destination that has not switched (R222). -/
  dest : Bool := false
  /-- Its entry stands in run lists; false for a destination before its shadow (R222). -/
  listed : Bool := true
  /-- The destination of an aborted migration: its entry and its intake end at the next release (R224). -/
  ended : Bool := false
  /-- A migration source that has switched: its areas stay until R223's release. -/
  moved : Bool := false
  /-- Blocks whose stage-in is complete, and blocks whose stage-out is owed (R164, R165). -/
  staged : List Nat := []
  outOwed : List Nat := []
  /-- Lines written by recent blocks: (block, lines). -/
  wrote : List (Nat × List Nat) := []
  /-- Blocks for which WAITB has been executed, for verdicts (R222). -/
  doneBlks : List Nat := []
  deriving DecidableEq, Repr

/-- A place of the computed placement (R203). -/
structure CPlace where
  k : Nat := 0
  s : Nat := 0
  tier : Nat := 0
  pBase : Nat := 0
  xBase : Nat := 0
  yBase : Nat := 0
  area : Nat := 0
  sHome : Nat := 0
  entry : Nat := 0
  deriving DecidableEq, Repr

/-- The states of a migration in progress (R220). -/
inductive MigState where
  | copy
  | catchup
  | shadow
  deriving DecidableEq, Repr

/-- A migration (R220 to R224). TRIGGER and retries as CRL_MIG_LAST and R224 state them. -/
structure Mig where
  k : Nat := 0
  src : Nat := 0
  dst : Nat := 0
  st : MigState := .copy
  /-- Shadow block c. -/
  c : Nat := 0
  fails : Nat := 0
  /-- 64-byte lines of the source's areas, as physical address / 64, that K has written since they were copied; in COPY, in the
  last block (R221). -/
  dirty : List Nat := []
  /-- The last catch-up: none before it ends. -/
  caught : Option Bool := none
  /-- The blocks with a verdict, MATCH when true. -/
  verdicts : List (Nat × Bool) := []
  trigger : Nat := 0
  retries : Nat := 0
  /-- A fault of R224 hit either spindle in a shadow block. -/
  faulted : Bool := false
  deriving DecidableEq, Repr

/-- The creel (R203 to R226). -/
structure Creel where
  computed : List CPlace := []
  run : List Place := []
  migs : List Mig := []
  /-- The fault map and the causes that keep a spindle in it. -/
  fmap : List Nat := []
  /-- Times, in ns, of each spindle's corrected errors of the last second (R214). -/
  eccAt : Tab (List Nat) := []
  /-- Kernels waiting for a retry: (kernel, retries done, block due, trigger). -/
  retry : List (Nat × Nat × Nat × Nat) := []
  /-- Kernels that no place fits (R215). -/
  noPlace : List Nat := []
  /-- Kernels that stay where they are until a commit or REPACK: after MISMATCH, or after their third failed retry (R224). -/
  pinned : List Nat := []
  /-- Restarts whose loading is in progress: the kernel and its new place (R215). -/
  restarts : List Place := []
  /-- Restarts whose place has no room yet beside the kernels that run (R146, R205): their loading has not begun. -/
  waits : List Place := []
  /-- Bobbins whose wake in progress has been reported late (R463). -/
  late : List Nat := []
  stuck : Bool := false
  converged : Bool := true
  /-- The trigger of the placement in progress (CRL_MIG_LAST.TRIGGER). -/
  trigger : Nat := 0
  /-- A validated draft's places: where its new and changed kernels start at block N, and the computed placement (R218). -/
  staged : List CPlace := []
  stagedComputed : List CPlace := []
  /-- Target places of kernels that are to migrate (R215, R219). -/
  want : List CPlace := []
  /-- A commit has been accepted and not yet reached: no migration starts (R219). -/
  held : Bool := false
  deriving DecidableEq, Repr

end Sys2Proof.Machine
end

