-- ==== Sys2Proof/Config.lean ====
section
/-! DEFINITION. What one device or one installation fixes, and the free values that the spec leaves open.
A free value has no body: nothing can be proved of it but that it is a value. -/

namespace Sys2Proof.Config

/-- FREE VALUE (log entry 1): the `n`th open value that a run draws. It is applied to the counter `free`
of the state, so that each draw is a fresh value. -/
opaque freeValue : Nat → Nat

/-- FREE VALUE (log entry 2): the bytes of the boot ROM (R24 gives it an address range, no content). -/
opaque bootRom : Nat → BitVec 8

/-- FREE VALUE (log entry 3): what FBS_SEED derives from the fused serial number of the device (R280: "device-specific"). -/
opaque fusedSerial : Nat

/-- The fused reset value of FBS_SEED: any state of the LFSR but 0. -/
def fusedSeed : BitVec 32 := BitVec.ofNat 32 (1 + fusedSerial % (2 ^ 32 - 1))

/-- FREE VALUE (log entry 42): the form of T0's back-off LFSR, of which R278 gives the polynomial: bit 0 set for Fibonacci,
clear for Galois; bit 1 set for a shift toward bit 0, clear for one toward bit 31. -/
opaque lfsrForm : BitVec 2

/-- FREE VALUE (log entry 42): the integer that R278 takes from the state of the LFSR, before it is limited to its bits. -/
opaque lfsrTake : Nat → Nat → Nat

/-- FREE VALUE (log entry 4): the sluice interpolation filters, whose shape R103 gives and whose coefficients it does not: the
converted output word, of FILTER, the source and destination rates, the ratio and phase, and the source words, each with its
distance in seconds from the instant that the output reconstructs. -/
opaque sluiceFilter : Nat → Nat → Nat → Nat × Int → List (Rat × Int) → Int

/-- FREE VALUE (log entry 4): one update of a sluice's ratio estimator, a second-order loop whose order and bandwidth R102 gives
and whose arithmetic it does not: the ratio and phase, of the bandwidth in mHz, the time in 125 ps for which it has narrowed to
it, the ratio and phase before, and the stamps of the last two source and destination ticks. -/
opaque sluiceLoop : Nat → Nat → Nat × Int → List Nat → List Nat → Nat × Int

/-- FREE VALUE (log entry 43): one update of the clock that an X source recovers from RTP time, a second-order loop whose order and
bandwidth R299 gives and whose arithmetic it does not: the position, in 2^-32 samples, and the rate, in 2^-16 samples a second, of
the position and rate before, the error in 2^-32 samples and the time since the last packet in 125 ps. -/
opaque rtpLoop : Nat → Nat → Int → Nat → Nat × Nat

/-- FREE VALUE (log entry 41): the rate code, modulo 3, whose training the words of a shadow set are (R242 leaves their form to
firmware). -/
opaque tsetRate : List Nat → Nat

/-- FREE VALUE (log entry 5): the level of the SIDE strap (R412). -/
opaque strapSide : Bool

/-- FREE VALUE (log entry 5): the reset level of the strap MGMT_DRAFT_EN (R504). -/
opaque strapDraftEn : Bool

/-- FREE VALUE (log entry 5): the levels of the straps BOOT_SRC[1:0] (R478, R504). -/
opaque strapBootSrc : BitVec 2

/-- FREE VALUE (log entry 3): the fused hash of the firmware key, and the fused rollback count (R480, R523). -/
opaque fusedKeyHash : BitVec 384
opaque fusedRollback : BitVec 8

/-- FREE VALUE (log entry 8): whether a register shows an exact value that is no integer rounded up (else down), by the
register's offset and the value. -/
opaque viewRound : Nat → Rat → Bool

/-- FREE VALUE (log entry 46): a quotient of the jets' models whose divisor, a constant of a draft, is 0, by its dividend. -/
opaque quotByZero : Rat → Rat

end Sys2Proof.Config
end

