-- ==== Sys2Proof/Machine/Parts/System.lean ====
section
/-! DEFINITION. The pieces of state of the matrix, the host port, the control protocol, and power (spec/16_control_ports.md,
spec/17_matrix_basins.md, spec/18_power_boot.md). -/

namespace Sys2Proof.Machine

/-- A burst that a master presents at a target port (R442): its first address, and for a write its beats, each with its
byte strobes. `len` is the number of bytes of a read; `bar2` marks a burst of the host that came through its window BAR2 (R28). -/
structure Burst where
  master : Nat := 0
  addr : Nat := 0
  write : Bool := false
  len : Nat := 0
  beats : List (Bytes × Nat) := []
  bar2 : Bool := false
  deriving DecidableEq, Repr

/-- A target port (R443): the burst it has granted, the beats of it that have run, whether its master was reset (R447),
and the bursts that wait, in the order in which they came. -/
structure MPort where
  cur : Option Burst := none
  done : Nat := 0
  cut : Bool := false
  queue : List Burst := []
  deriving DecidableEq, Repr

/-- A service request (R432, R436) that firmware has taken in and not yet answered. `port` is the port of R413, `box` the
mailbox that carried it, if one did; `relayed` marks one that the twin's driving unit has checked (R438). -/
structure Req where
  port : Nat := 0
  box : Option Nat := none
  v6 : Bool := false
  peer : Nat := 0
  sport : Nat := 0
  tag : Nat := 0
  op : Nat := 0
  twin : Bool := false
  pay : Bytes := []
  relayed : Bool := false
  /-- Its header or first words hold something that a request may not. -/
  odd : Bool := false
  deriving DecidableEq, Repr

/-- An answer that is kept for duplicates (R437): its key, its instant in ns, and its bytes. -/
structure Ans where
  peer : Nat := 0
  sport : Nat := 0
  tag : Nat := 0
  at' : Nat := 0
  bytes : Bytes := []
  deriving DecidableEq, Repr

/-- A request carried to the twin (R438): the request, the TAG of its mailbox message, the instant in ns at which it went,
the part of the answer that has come, and whether it has been answered TWIN and its answer is only awaited. -/
structure Relay where
  req : Req := {}
  tag : Nat := 0
  at' : Nat := 0
  got : Bytes := []
  dead : Bool := false
  deriving DecidableEq, Repr

/-- The leaving sequence of R467: none, waiting for its block tick, or waiting for the jets. -/
inductive Leaving where
  | none
  | asked
  | muted
  deriving DecidableEq, Repr

/-! ## What commands carry from outside -/

/-- What a port's physical layer found up to the end of a frame: whether the frame holds a code error; the errored blocks, or code
groups on C0; and the uncorrectable codewords of a media port (R253, R270, R276). -/
structure PhyErr where
  code : Bool := false
  pcs : Nat := 0
  fec : Nat := 0
  deriving DecidableEq, Repr

/-- The WS edge that starts a right half-frame, and the frame-start edge after it, each in 125 ps units since the frame-start edge
before (R360). -/
structure WsEdges where
  mid : Nat := 0
  dt : Nat := 0
  deriving DecidableEq, Repr

/-- How a frequency change ends: `ns` after its block, with the drift of each channel's DQS oscillator and whether a retrain
passes (R240, R244). -/
structure FchgEnd where
  ns : Nat := 0
  dqs : List (Int × Bool) := []
  deriving DecidableEq, Repr

/-- What firmware knows of its node: the wake budget of the PMIC, what the node has fitted as CST_CFG has it, and the second rate
that it names (R241, R462, R483). -/
structure NodeFit where
  budget : Nat := 0
  cfg : Nat := 0
  second : Nat := 0
  deriving DecidableEq, Repr

/-- The matrix, the host port, the control protocol, power and boot. -/
structure Sys where
  /-- Level of ERR_N that has been logged: low. -/
  errLow : Bool := false
  /-- Level of GW_SHUT that has been logged (R403). -/
  shutHigh : Bool := false
  /-- Disarmed vectors, and vectors whose PBA bit is set (R424). -/
  disarmed : List Nat := []
  pba : List Nat := []
  /-- The MSI-X table: word 4v + i is message word i of vector v, and word 4v + 3 holds 1 while v is unmasked. -/
  msix : Tab (BitVec 32) := []
  /-- Target ports of R441: 0 boot ROM, 1 distaff SRAM, 2 to 9 basins, 10 to 17 local memories of bobbins, 18 loom
  stores, 19 register space, 20 cistern, 21 any other address. -/
  ports : Tab MPort := []
  /-- Words of the basins, the spindles' memories and the cistern in error, by address / 8: 1 a single-bit error, 2 a double-bit
  error (R147, R231, R455). -/
  memErr : Tab Nat := []
  /-- Requests that wait, oldest first; requests begun whose answer is owed; stored answers of each port; relays. -/
  waiting : List Req := []
  owed : List Req := []
  stored : Tab (List Ans) := []
  relays : List Relay := []
  relayTag : Nat := 0
  /-- Messages that wait for a mailbox to become free, oldest first (R432). -/
  msgs : Tab (List Bytes) := []
  /-- The filtered level of strap MGMT_DRAFT_EN (R504). -/
  draftEn : Bool := Config.strapDraftEn
  /-- Straps sampled at the last reset (R504). -/
  side : Bool := Config.strapSide
  bootSrc : BitVec 2 := Config.strapBootSrc
  /-- Domains that have been granted a wake, and domains that switch off, with the power clock's instants in ns at which they are done;
  domains with a wake to request when their switch-off is done (R458 to R461). -/
  waking : Tab Nat := []
  offing : Tab Nat := []
  later : List Nat := []
  /-- Pending wakes that have waited through a window start (R461). -/
  deferred : List Nat := []
  /-- MODEL: ticks of the time clock counted before PD_WLH last lost its tick count; the two together time what PD_AON times. -/
  tickBase : Nat := 0
  leaving : Leaving := .none
  /-- The block tick at which LEAVING begins on a unit that resigns first (R467). -/
  leaveAt : Nat := 0
  /-- Entry to DORMANT: the instant in ns at which PMIC_REQ fell; a wake event latched since (R470). -/
  dormAt : Nat := 0
  latched : Bool := false
  /-- PMIC_REQ rose, and PMIC_ACK rose, at these instants in ns (R472); the PMIC was lost (R473). -/
  reqAt : Nat := 0
  ackAt : Option Nat := none
  pmicLost : Bool := false
  /-- PCIE_WAKE_N driven low (R472). -/
  hostWake : Bool := false
  /-- Boot began with a wake reset (R466). -/
  wakeBoot : Bool := false
  /-- The coarse time in 1/32,768 s (R474), and the values written to SEC_LO and SUB for the next write of SEC_HI. -/
  coarse : Nat := 0
  coarseLo : Nat := 0
  coarseSub : Nat := 0
  /-- The power clock's instant in ns of the last restart of the watchdog. -/
  wdogAt : Nat := 0
  /-- Which distaffs run (R480). -/
  distaff0 : Bool := false
  distaff1 : Bool := false
  /-- Firmware has started since the last reset (R483). -/
  firmware : Bool := false
  /-- Bobbins that firmware wakes to test their memories and then switches off (R483). -/
  testing : List Nat := []
  deriving DecidableEq, Repr

end Sys2Proof.Machine
end

