-- ==== Sys2Proof/Syntax.lean ====
section
/-! DEFINITION. The commands of the LF2048, one constructor per row of spec/opcode_table.json, in its order.

Operands, where a row has them: `m` a matrix master (R29); `a` an offset in register space or an address; `v` the word that is
written; `n`, `i`, `k`, `h`, `w` an index of the thing the row names; `dom` 0 F, 1 B, 2 X; `p` a port (0 to 3 M0 to M3, 4 C0, 5 T0; of
a service or an ECP datagram, a control port of R413); `q` a queue; `l` a Gweast lane; `f`, `d` the bytes that arrive; `e`, `ecc` what
ECC finds in the words that are read; `tap` the interpolator's tap of a stamp; `blk`, `r`, `s`, `t` a block, release, sample or tick
number. What a physical measurement or another device decides is an operand, since no state of the LF2048 decides it. -/

namespace Sys2Proof
open Machine

inductive Instr where
  /-- REGISTER_WRITE (R7): A write to a register that has no row of its own updates its RW, W1C and W1S fields under the access types and ignores reserved fields. -/
  | registerWrite (m : Nat) (a : Nat) (n : Nat) (v : Nat)
  /-- RC_READ (R11): A read of a register that holds RC fields returns them and then returns every RC field to its reset value. -/
  | rcRead (m : Nat) (a : Nat) (n : Nat)
  /-- OFF_ISLAND (R15): A register access to a block whose island is powered down completes with zeros or no effect and records a class N fault. -/
  | offIsland (m : Nat) (a : Nat) (write : Bool) (v : Nat)
  /-- UNMAPPED (R25): An access to an unmapped address, to cistern space above capacity or a write to boot ROM completes without effect and records a class N fault. -/
  | unmapped (m : Nat) (a : Nat) (write : Bool)
  /-- OPEN (R69): SYS_DFT_CMD OPEN claims the staging buffer for its source and moves EMPTY or REJECTED to LOADING. -/
  | open_ (m : Nat)
  /-- VALIDATE (R67): SYS_DFT_CMD VALIDATE copies SYS_DFT_LEN staged bytes into the held copy and starts the checks. -/
  | validate (m : Nat)
  /-- VALIDATION_DONE (R70): The validation phases end, setting STATE to VALID with COLD and PREP, or REJECTED with the failure's code and location. -/
  | validationDone
  /-- COMMIT (R72): SYS_DFT_CMD COMMIT arms the valid draft at block N or is refused with a code. -/
  | commit (m : Nat)
  /-- ABORT (R69): SYS_DFT_CMD ABORT empties the staging buffer or returns an armed draft to VALID. -/
  | abort (m : Nat)
  /-- STORE (R81): SYS_DFT_CMD STORE starts writing the held effective draft to the flash slot that is not the default. -/
  | store (m : Nat)
  /-- STORE_DONE (R81): The flash write ends, the slot record is written with the next GEN, and the state returns to VALID. -/
  | storeDone (ok : Bool) (n : Nat)
  /-- COMMIT_DECISION (R73): At block tick N−1 the device decides whether every prepared part is ready and abandons the commit if not. -/
  | commitDecision (ready : Bool)
  /-- COMMIT_BLOCK (R74): At block tick N the new draft takes effect, muting affected plies for a cold commit and discarding later edits. -/
  | commitBlock
  /-- COLD_RELEASE (R78): An affected ply is released at the first block tick at which its blocks are ready. -/
  | coldRelease (n : Nat) (ps : List Nat)
  /-- SETTLE_TIMEOUT (R79): 100 ms after block tick N with an affected ply still muted, the staging state leaves SETTLING and a class D fault is raised. -/
  | settleTimeout
  /-- BLOCK_NUMBER_READ (R68): A read of SYS_BLK_LO returns the current block number [31:0] and latches [63:32] into SYS_BLK_HI. -/
  | blockNumberRead (m : Nat)
  /-- BOOT_COMMIT (R82): At boot firmware tries the flash draft slots and commits the first that passes, with no mute sequence. -/
  | bootCommit (n : Nat)
  /-- FAMILY_SWITCH (R92): A change of family mutes every F and B ply from the next block tick, abandons an armed commit, relocks the audio master and converts pending block numbers. -/
  | familySwitch (f : Nat)
  /-- FAMILY_RELEASE (R92): The muted plies are released at the first block tick after the audio master reports lock. -/
  | familyRelease
  /-- X_SKEIN_STOP (R96): A skein X source that presents no sample for 2 nominal X periods stops the X ticks and the X deck. -/
  | xSkeinStop
  /-- SLUICE_TICK (R106): At each destination tick a sluice evaluates its state machine, ratio and phase and outputs the converted or faded signal. -/
  | sluiceTick (n : Nat) (sample : Nat) (lateS : Nat) (lateD : Nat)
  /-- SLUICE_SOURCE_TIMEOUT (R106): No source tick for 2 nominal source periods moves the sluice to HOLD with a fade. -/
  | sluiceSourceTimeout (n : Nat)
  /-- SLUICE_LOCK (R106): A ratio error below 1 ppm for 64 ms moves ACQUIRE to LOCKED and starts the 32-sample ramp. -/
  | sluiceLock (n : Nat)
  /-- SLUICE_HOLD_EXIT (R106): 8 consecutive source ticks at nominal spacing move HOLD to ACQUIRE. -/
  | sluiceHoldExit (n : Nat)
  /-- SLUICE_RANGE_EXIT (R106): A ratio within ±0.9 % of nominal for 1 s moves RANGE to ACQUIRE. -/
  | sluiceRangeExit (n : Nat)
  /-- RESYNC (R106): A write of 1 to a SLU_RESYNC bit requests RESYNC of that sluice at its next destination tick. -/
  | resync (i : Nat) (v : Nat)
  /-- LOOM_PASS (R123): At the ready tick of a sample the loom clears its domain's accumulators and unwritten lanes, loads KOUT words, runs the courses and updates meters and slots. -/
  | loomPass (dom : Nat) (sample : Nat) (n : Option Nat) (slack : Nat)
  /-- PASS_RESUME (R124): A pass suspended at a course boundary resumes when no pass with an earlier deadline is ready. -/
  | passResume (dom : Nat) (n : Option Nat) (slack : Nat)
  /-- PASS_DEADLINE (R126): A pass not ended at its deadline is ended there, unrun cards hold their previous words, and the overrun is counted. -/
  | passDeadline (dom : Nat)
  /-- OVERLOAD (R500): Overruns in each of 4 consecutive block periods of one domain raise class D fault OVERLOAD on that domain. -/
  | overload (dom : Nat)
  /-- CARD_NOP (R113): Card NOP does nothing. -/
  | cardNop (dom : Nat) (img : Nat)
  /-- CARD_MOV (R113): Card MOV writes the source word to the destination lane. -/
  | cardMov (dom : Nat) (img : Nat)
  /-- CARD_GAIN (R113): Card GAIN writes the source times its operand gain, rounded once. -/
  | cardGain (dom : Nat) (img : Nat)
  /-- CARD_MACZ (R113): Card MACZ writes the source times the coefficient. -/
  | cardMacz (dom : Nat) (img : Nat)
  /-- CARD_MAC (R113): Card MAC adds the source times the coefficient to the destination's visible value. -/
  | cardMac (dom : Nat) (img : Nat)
  /-- CARD_CLR (R113): Card CLR writes 0 to the destination lane. -/
  | cardClr (dom : Nat) (img : Nat)
  /-- CARD_SUM (R117): Card SUM adds the rounded product of source and coefficient to the bus accumulator exactly. -/
  | cardSum (dom : Nat) (img : Nat)
  /-- CARD_FADE (R135): Card FADE ramps its slot gain toward the target coefficient over 2^K samples and writes source times gain. -/
  | cardFade (dom : Nat) (img : Nat)
  /-- CARD_GLIDE (R136): Card GLIDE moves its slot gain toward the coefficient by a shift of the error and writes source times gain. -/
  | cardGlide (dom : Nat) (img : Nat)
  /-- CARD_WEIR (R138): Card WEIR limits a pre-gained bus value to its ceiling with instant attack, hold and release. -/
  | cardWeir (dom : Nat) (img : Nat)
  /-- CARD_DLY (R140): Card DLY writes a cubic Lagrange read of a delay line at delay D plus FRAC. -/
  | cardDly (dom : Nat) (img : Nat)
  /-- CARD_DLW (R139): Card DLW writes the source word into its delay line at the write index. -/
  | cardDlw (dom : Nat) (img : Nat)
  /-- CARD_TRIM (R142): Card TRIM writes a fractional-sample delayed source using its three-word slot. -/
  | cardTrim (dom : Nat) (img : Nat)
  /-- CARD_KIN (R143): Card KIN writes the source to an into-kernel port lane and into the kernel's intake buffer. -/
  | cardKin (dom : Nat) (img : Nat)
  /-- CARD_KOUT (R143): Card KOUT writes the kernel's outtake word for this sample to its destination. -/
  | cardKout (dom : Nat) (img : Nat)
  /-- CARD_METER (R145): Card METER feeds the source word to its meter's peak and mean square. -/
  | cardMeter (dom : Nat) (img : Nat)
  /-- CARD_SLU (R144): Card SLU writes the source to a sluice input lane as that sluice's source sample. -/
  | cardSlu (dom : Nat) (img : Nat)
  /-- CARD_END (R119): Card END ends the deck and its last course. -/
  | cardEnd (dom : Nat)
  /-- COEFFICIENT_EDIT (R131): A write of LOM_EDIT_CVAL queues a coefficient edit at LOM_EDIT_CIDX, with auto-increment when AINC is set. -/
  | coefficientEdit (v : Nat)
  /-- CARD_EDIT (R133): A write of LOM_EDIT_CARD3 queues a card edit after checking it, or refuses and discards it. -/
  | cardEdit (v : Nat)
  /-- HOLD_RELEASE (R132): Writing LOM_EDIT_CTRL.HOLD from 1 to 0 releases the held edits together. -/
  | holdRelease (v : Nat)
  /-- EDIT_DUE (R132): At the block tick at which released edits fall due, they apply from the pass of the sample at that tick. -/
  | editDue (n : Nat)
  /-- DELAY_LINE_POST (R139): At the end of a block the loom posts the DLW words held in the basin to the cistern. -/
  | delayLinePost (dom : Nat) (blk : Nat)
  /-- DELAY_LINE_FETCH (R140): During block b the loom fetches from the cistern the delay-line words that the passes of block b+1 need. -/
  | delayLineFetch (dom : Nat) (blk : Nat) (missing : List Nat)
  /-- RELEASE (R159): At each release of its domain every enabled spindle reads its run list, starts its due kernels, and rotates buffers, switches run lists and evaluates migrations. -/
  | release (dom : Nat) (r : Nat) (copied : List Nat)
  /-- STAGE_IN (R164): The staging engine copies an L2 kernel's whole segment from home into the free staging copy, after any stage-out it waits for. -/
  | stageIn (k : Nat) (blk : Nat)
  /-- STAGE_OUT (R164): The staging engine copies home the 64-byte lines that the block wrote. -/
  | stageOut (k : Nat) (blk : Nat)
  /-- NOP (R179): Instruction NOP does nothing for one issue cycle. -/
  | nop (n : Nat) (e : Ecc)
  /-- WAITB (R185): Instruction WAITB ends the kernel for the block, empties the loop stack and moves to the next due entry or gates the spindle. -/
  | waitb (n : Nat) (e : Ecc)
  /-- BR (R181): Instruction BR continues at TARGET when its condition on DN holds. -/
  | br (n : Nat) (e : Ecc)
  /-- LOOP (R182): Instruction LOOP pushes a zero-overhead loop with its count, or skips past END when the count is 0. -/
  | loop (n : Nat) (e : Ecc)
  /-- BREAK (R184): A taken BREAK pops the innermost loop and continues after its END. -/
  | break_ (n : Nat) (e : Ecc)
  /-- ADD (R187): ALU ADD writes DA plus b, wrapping. -/
  | add (n : Nat) (e : Ecc)
  /-- SUB (R187): ALU SUB writes DA minus b, wrapping. -/
  | sub (n : Nat) (e : Ecc)
  /-- ADDS (R187): ALU ADDS writes DA plus b, saturated. -/
  | adds (n : Nat) (e : Ecc)
  /-- SUBS (R187): ALU SUBS writes DA minus b, saturated. -/
  | subs (n : Nat) (e : Ecc)
  /-- AND (R187): ALU AND writes the bitwise AND. -/
  | and (n : Nat) (e : Ecc)
  /-- OR (R187): ALU OR writes the bitwise OR. -/
  | or (n : Nat) (e : Ecc)
  /-- XOR (R187): ALU XOR writes the bitwise XOR. -/
  | xor (n : Nat) (e : Ecc)
  /-- SHL (R187): ALU SHL shifts DA left by b[5:0]. -/
  | shl (n : Nat) (e : Ecc)
  /-- ASR (R187): ALU ASR shifts DA right arithmetically by b[5:0]. -/
  | asr (n : Nat) (e : Ecc)
  /-- LSR (R187): ALU LSR shifts DA right with zero fill by b[5:0]. -/
  | lsr (n : Nat) (e : Ecc)
  /-- MIN (R187): ALU MIN writes the lesser of DA and b. -/
  | min (n : Nat) (e : Ecc)
  /-- MAX (R187): ALU MAX writes the greater of DA and b. -/
  | max (n : Nat) (e : Ecc)
  /-- ABS (R187): ALU ABS writes the magnitude of DA, saturating −2^31. -/
  | abs (n : Nat) (e : Ecc)
  /-- NEG (R187): ALU NEG writes −DA, saturating −2^31. -/
  | neg (n : Nat) (e : Ecc)
  /-- MULF (R187): ALU MULF writes the Q0.31 product rounded half-even and saturated. -/
  | mulf (n : Nat) (e : Ecc)
  /-- MULI (R187): ALU MULI writes the low 32 bits of the integer product. -/
  | muli (n : Nat) (e : Ecc)
  /-- MAC_COMPLEX (R189): A MAC of complex form adds or loads the exact complex product of the X and Y words into the accumulator. -/
  | macComplex (n : Nat) (e : Ecc)
  /-- MAC_CONJUGATE (R189): A MAC of conjugate form accumulates x times the conjugate of y. -/
  | macConjugate (n : Nat) (e : Ecc)
  /-- MAC_DUAL_REAL (R189): A MAC of dual-real form accumulates the two real products ac and bd. -/
  | macDualReal (n : Nat) (e : Ecc)
  /-- LD (R191): Instruction LD loads a 32-bit word into D from any space. -/
  | ld (n : Nat) (e : Ecc)
  /-- ST (R191): Instruction ST stores D, updating BXD when BX is set. -/
  | st (n : Nat) (e : Ecc)
  /-- LDC (R191): Instruction LDC loads a complex word into D and D+1. -/
  | ldc (n : Nat) (e : Ecc)
  /-- STC (R191): Instruction STC stores D and D+1 as a complex word. -/
  | stc (n : Nat) (e : Ecc)
  /-- STA (R192): Instruction STA scales, rounds and saturates an accumulator part and stores it. -/
  | sta (n : Nat) (e : Ecc)
  /-- LDI (R193): Instruction LDI writes an immediate into the named register. -/
  | ldi (n : Nat) (e : Ecc)
  /-- MOV (R193): Instruction MOV copies one named register into another. -/
  | mov (n : Nat) (e : Ecc)
  /-- LDACC (R194): Instruction LDACC loads both accumulator parts from two D registers. -/
  | ldacc (n : Nat) (e : Ecc)
  /-- AUPD (R194): Instruction AUPD updates an address register under its group without a memory access. -/
  | aupd (n : Nat) (e : Ecc)
  /-- EXP (R196): Instruction EXP writes the redundant sign bits of DS. -/
  | exp (n : Nat) (e : Ecc)
  /-- EXPA (R196): Instruction EXPA writes the accumulator exponent e. -/
  | expa (n : Nat) (e : Ecc)
  /-- NORM (R196): Instruction NORM shifts both accumulator parts left by max(0, e) and writes the shift. -/
  | norm (n : Nat) (e : Ecc)
  /-- BXDR (R197): Instruction BXDR writes BXD to DD and resets BXD to 31. -/
  | bxdr (n : Nat) (e : Ecc)
  /-- ACLR (R197): Instruction ACLR clears both accumulator parts. -/
  | aclr (n : Nat) (e : Ecc)
  /-- BFLY (R199): Instruction BFLY reads two complex words, forms a radix-2 butterfly with a twiddle and stores both results scaled and rounded. -/
  | bfly (n : Nat) (e : Ecc)
  /-- FORCE (R214): Setting a CRL_FORCE bit puts that spindle into the fault map. -/
  | force (i : Nat) (v : Nat)
  /-- RETIRE (R214): A spindle whose corrected ECC errors reach CRL_ECC_THR within 1 s is retired into the fault map. -/
  | retire (n : Nat)
  /-- RETURN (R214): Writing 1 to a CRL_RETURN bit requests the memory test for that spindle's return. -/
  | return_ (i : Nat) (v : Nat)
  /-- RETURN_TEST_DONE (R214): The memory test ends and a passing spindle with FORCE 0 leaves the fault map. -/
  | returnTestDone (n : Nat) (pass : Bool)
  /-- RESTART_LOAD (R215): Loading of a restarted kernel into its new place completes and it processes the block of the next release. -/
  | restartLoad (k : Nat)
  /-- REPACK_REQUEST (R219): Writing CRL_CTRL.REPACK makes the migration engine move kernels toward the computed placement of the draft in force. -/
  | repackRequest
  /-- MIGRATION_START (R219): A migration starts in COPY once its target passes the placement tests against the running occupancy. -/
  | migrationStart
  /-- CATCH_UP (R221): After the source's WAITB the engine copies the remaining dirty lines for the shadow block. -/
  | catchUp (k : Nat) (ok : Bool)
  /-- MIGRATION_RETRY (R224): 16 blocks after an abort the migration is retried, up to 3 times. -/
  | migrationRetry (k : Nat)
  /-- BOBBIN_POWER_GATE (R217): A bobbin with no kernel in the running occupancy is power-gated at the block tick after its last kernel ends. -/
  | bobbinPowerGate (n : Nat)
  /-- INIT (R241): CST_CMD INIT brings the memory devices out of reset and trains both shadow sets. -/
  | init (second : Nat)
  /-- INIT_DONE (R241): Training ends and the cistern enters SERVICE, or FAILED with TRAIN_FAIL. -/
  | initDone (ok : Bool) (chan : Nat)
  /-- FCHG (R243): CST_CMD FCHG requests a data-rate change at block tick CST_FCHG_AT or refuses it. -/
  | fchg
  /-- FREQUENCY_CHANGE (R244): At the change block the cistern holds requests, drains, enters self-refresh and relocks at the target rate. -/
  | frequencyChange
  /-- FCHG_DONE (R244): The cistern resumes SERVICE at the new rate and sets CST_INT.FCHG_DONE. -/
  | fchgDone (e : FchgEnd)
  /-- ENTER_RETENTION (R465): CST_CMD enter retention puts the cistern into RETENTION. -/
  | enterRetention
  /-- LEAVE_RETENTION (R468): CST_CMD leave retention returns the cistern to SERVICE. -/
  | leaveRetention
  /-- CISTERN_READ (R236): A read request is served from the read queue in priority and age order, checking inline ECC. -/
  | cisternRead (reqs : List (Nat × Nat × Nat)) (ecc : Ecc) (w : Nat)
  /-- CISTERN_WRITE (R238): A write request enters the write queue, or waits at the matrix while it is full. -/
  | cisternWrite (m : Nat) (a : Nat) (data : Bytes) (ecc : Ecc)
  /-- WRITE_BATCH (R237): The controller drains writes from the high watermark or an empty read queue down to the low watermark. -/
  | writeBatch (served : Nat)
  /-- REFRESH (R239): A bank's per-bank refresh is issued in a gap between its accesses. -/
  | refresh (bank : Nat) (elapsed : Nat)
  /-- TEMP_CHECK (R239): Every 16 ms the controller reads the device temperature and scales refresh. -/
  | tempCheck (scale : Nat) (above : Bool)
  /-- ZQ_LATCH (R240): Every 32 ms the controller issues the ZQ latch in a refresh gap. -/
  | zqLatch
  /-- DQS_CHECK (R240): Every 4 ms the DQS oscillator count is compared and delays adjusted or a channel retrained. -/
  | dqsCheck (chan : Nat) (drift : Int) (ok : Bool)
  /-- BANKHASH_WRITE (R230): A write of a CST_BANKHASH register applies in state OFF, otherwise has no effect and raises REGION. -/
  | bankhashWrite (i : Nat) (v : Nat)
  /-- RESERVOIR_START (R249): Writing CST_RSV_CTRL.EN = 1 starts a reservoir or refuses it and sets REFUSED. -/
  | reservoirStart (n : Nat) (v : Nat)
  /-- RESERVOIR_STOP (R249): Writing EN = 0 stops the reservoir after the sample in progress. -/
  | reservoirStop (n : Nat) (v : Nat)
  /-- RESERVOIR_BEGIN (R248): At block tick CST_RSV_AT the reservoir records its first sample. -/
  | reservoirBegin (n : Nat)
  /-- FRAME_RECEIVE (R253): A frame arriving at a port is checked, time-stamped, looked up for forwarding, accepted locally and filtered into a receive queue. -/
  | frameReceive (p : Nat) (f : Bytes) (err : PhyErr) (age : Nat)
  /-- CUT_THROUGH (R266): Once 64 bytes of a forwarded frame have arrived at an idle egress port, its cut-through copy starts. -/
  | cutThrough (p : Nat) (e : Nat) (f : Bytes) (tap : Nat)
  /-- FRAME_TRANSMIT (R261): At a frame boundary a port starts the next frame from its highest-priority ready queue, appending FCS and PTP insertions. -/
  | frameTransmit (p : Nat) (tap : Nat) (fw : Option (Nat × Bytes))
  /-- TX_UNDERRUN (R263): A host frame that runs out of data after starting is ended with a complemented FCS, counted and THR raised in mode U. -/
  | txUnderrun (p : Nat) (sent : Nat)
  /-- LINK_UP (R252): A port whose lock conditions hold continuously for 10 ms reports LINK up. -/
  | linkUp (p : Nat) (speed : Nat)
  /-- LINK_DOWN (R252): A port whose lock conditions fail for 100 µs reports LINK down and flushes its transmit queues. -/
  | linkDown (p : Nat) (why : Nat)
  /-- FEC_WRITE (R252): A write to NET_CFG.FEC drops the link, which then requalifies. -/
  | fecWrite (p : Nat) (v : Nat)
  /-- RXQ_WRITE (R258): A write to NET_RXQ resizes or redirects a receive queue, discarding its frames, or is refused when sizes overflow. -/
  | rxqWrite (p : Nat) (q : Nat) (v : Nat)
  /-- TABLE_READ (R269): FWD_TBL_CMD READ copies an entry into FWD_TBL_D0 to D2. -/
  | tableRead (i : Nat)
  /-- TABLE_WRITE (R269): FWD_TBL_CMD WRITE writes FWD_TBL_D0 to D2 into an entry. -/
  | tableWrite (i : Nat)
  /-- TABLE_DELETE (R269): FWD_TBL_CMD DELETE removes an entry. -/
  | tableDelete (i : Nat)
  /-- TABLE_FIND (R269): FWD_TBL_CMD FIND searches for the key and sets HIT and INDEX. -/
  | tableFind (i : Nat)
  /-- FLUSH_DYNAMIC (R269): FWD_TBL_CMD flushes all dynamic entries. -/
  | flushDynamic (i : Nat)
  /-- FLUSH_ALL (R269): FWD_TBL_CMD flushes all entries. -/
  | flushAll (i : Nat)
  /-- AGE_SWEEP (R268): Every AGE/2 seconds the table removes dynamic entries with HIT 0 and clears HIT in the rest. -/
  | ageSweep
  /-- FIELD_BUS_TRANSMIT (R278): T0 starts sending a frame once deferral ends, under CSMA/CD. -/
  | fieldBusTransmit (clear : Bool) (crsLost : Bool)
  /-- DEFERRAL (R278): T0 waits while CRS is present and then 96 bit times before transmitting. -/
  | deferral (fw : Option Bytes)
  /-- COLLISION (R278): A collision during transmission sends jam and either ends the frame or schedules a back-off. -/
  | collision (bits : Nat)
  /-- BACKOFF (R278): The random back-off wait expires and T0 attempts the frame again. -/
  | backoff
  /-- MDIO_GO (R513): Writing FBS_MDIO.GO starts one MDIO frame. -/
  | mdioGo (v : Nat)
  /-- MDIO_DONE (R513): The MDIO frame ends, GO clears and read data appears in DATA. -/
  | mdioDone (data : Nat)
  /-- PACKET_RELEASE (R286): At the output instant of a packet's last sample the flow engine forms its RTP packet and enters it into queue 1 of each path's port. -/
  | packetRelease (j : Nat) (t : Nat) (hopA : Option Bytes) (hopB : Option Bytes)
  /-- SKEIN_FRAME (R290): The flow engine matches a delivered frame to a receive skein, checks it and writes its samples into the jitter buffer. -/
  | skeinFrame (p : Nat) (q : Nat)
  /-- PRESENTATION (R297): At each presentation instant the skein delivers its lane words and advances WAIT, RUN and GAP with ramps and fades. -/
  | presentation (i : Nat) (t : Nat)
  /-- SKEIN_GAP_TIMEOUT (R297): No valid packet on any path for 250 ms moves GAP to WAIT and releases the SSRC lock. -/
  | skeinGapTimeout (i : Nat)
  /-- PATH_DOWN (R296): A path without a valid packet for max(2 ms, 4 packet times) goes DOWN and raises PATH_DOWN. -/
  | pathDown (i : Nat) (path : Nat)
  /-- SPILL_FETCH (R301): The flow engine reads a spilled skein's next block of samples back into its window. -/
  | spillFetch (i : Nat) (blk : Nat)
  /-- INCREMENT_WRITE (R305): A write of TSU_INCR_HI applies the increment pair at the next tick or is ignored outside range. -/
  | incrementWrite (m : Nat) (v : Nat)
  /-- SLEW (R306): A write of TSU_ADJ_CNT starts a slew with TSU_ADJ_FRAC, replacing any in progress. -/
  | slew (m : Nat) (v : Nat)
  /-- SLEW_END (R306): The slew count reaches 0 and the slew ends. -/
  | slewEnd
  /-- STEP_REQUEST (R310): Writing TSU_STEP_CMD.GO requests a time step, accepted or refused against TSU_JUMP_LIM. -/
  | stepRequest (m : Nat) (v : Nat)
  /-- STEP_APPLY (R310): At the 16th tick the step adds Δ to TSU time and the ticks absorb or realign. -/
  | stepApply
  /-- ABSORB_DONE (R311): The tick generator reaches TSU time again and TSU_STAT.ABSORB clears. -/
  | absorbDone
  /-- REALIGN_RELEASE (R311): The muted plies are released at the first block tick with the ticks on TSU time and TSU_INT.REALIGN sets. -/
  | realignRelease
  /-- NOW_READ (R308): A read of TSU_NOW_NS returns the nanoseconds and latches seconds and fraction of the same tick. -/
  | nowRead
  /-- TXS_READ (R316): A read of TSU_TXS_NS removes the oldest transmit stamp entry. -/
  | txsRead
  /-- SPOUT_ARM (R320): Writing EN = 1 arms a spout or refuses the arming and raises SPOUT. -/
  | spoutArm (n : Nat) (v : Nat)
  /-- SPOUT_DISARM (R319): Writing EN = 0 disarms the spout after any pulse in progress. -/
  | spoutDisarm (n : Nat) (v : Nat)
  /-- SPOUT_EDGE (R319): At START plus k periods the spout drives its leading edge. -/
  | spoutEdge (n : Nat)
  /-- SPOUT_TRAILING_EDGE (R319): WIDTH × 64 ns after the leading edge the spout drives its trailing edge and a one-shot clears EN. -/
  | spoutTrailingEdge (n : Nat)
  /-- CAPTURE (R322): An edge on CATCHn is stamped and entered in the FIFO and windows, or dropped as a glitch or overflow. -/
  | capture (n : Nat) (falling : Bool) (tap : Nat)
  /-- CAPTURE_READ (R322): A read of TSU_CAP_NS removes the oldest capture entry. -/
  | captureRead (n : Nat)
  /-- WINDOW_ARM (R323): Writing EN = 1 arms a window or refuses the arming. -/
  | windowArm (w : Nat) (v : Nat)
  /-- WINDOW_CLOSE (R323): At close + 100 ns a window's cycle ends, reporting MISS for EXPECT and re-arming by PERIOD. -/
  | windowClose (w : Nat)
  /-- MEASUREMENT_UPDATE (R338): Every second the wellhead measures and averages each candidate's offset and advances the qualification machines. -/
  | measurementUpdate (ms : List (Nat × Int))
  /-- CANDIDATE_LOST (R329): A candidate meeting its loss condition goes to ABSENT from that instant. -/
  | candidateLost (c : Nat)
  /-- QUALITY_FRAME (R333): A quality frame received on QLINn updates the level in force and staleness, or is discarded. -/
  | qualityFrame (n : Nat) (f : Bytes) (err : Nat)
  /-- QUALITY_STALE (R334): 2.5 s without a refreshing quality makes the candidate's quality stale, level 15. -/
  | qualityStale (c : Nat)
  /-- ANNOUNCE (R335): An accepted Announce sets a PTP candidate's level from clockClass and clockAccuracy. -/
  | announce (c : Nat) (cls : Nat) (acc : Nat)
  /-- CHANNEL_STATUS (R336): An AES3 channel-status block with good CRCC sets DARS0's level. -/
  | channelStatus (byte4 : Nat) (crcc : Bool)
  /-- XO_ESTIMATE_UPDATE (R339): At the end of a qualifying 256 s window e_XO is moved toward the XO offset within its limit. -/
  | xoEstimateUpdate (off : Int)
  /-- RESELECT (R344): Writing WLH_CTRL.RESELECT forces a selection that may change the selected candidate. -/
  | reselect (v : Nat)
  /-- FAMILY_WRITE (R345): A write of WLH_CTRL.FAMILY changes family while the selection is family-neutral or none, starting a family switch. -/
  | familyWrite (v : Nat)
  /-- DPLL_UPDATE (R346): Each millisecond the DPLL updates y_out and advances FREERUN, LOCKING, LOCKED and HOLDOVER. -/
  | dpllUpdate (err : Int)
  /-- HOLDOVER_UPDATE (R349): Each whole second in holdover the predicted error bound E grows and may reach the budget. -/
  | holdoverUpdate
  /-- XO_LOST (R350): XO_HOLD absent or over 100 ppm off moves both PLLs to REFCLK_NET and raises XO_LOST. -/
  | xoLost
  /-- XO_RETURN (R350): XO_HOLD within 100 ppm for 10 s returns the PLLs to it. -/
  | xoReturn
  /-- PLL_UNLOCK (R351): Loss of lock of PLL A or T mutes F and B plies and raises PLL_UNLOCK. -/
  | pllUnlock
  /-- PLL_LOCK_RELEASE (R351): Both PLLs locked for 1 ms release the muted plies at the next block tick. -/
  | pllLockRelease
  /-- RILL_FRAME (R363): At each frame-start edge a rill moves its words and advances SEEK, RUN and HELD, handling glitches and slips. -/
  | rillFrame (n : Nat) (left : List Bool) (right : List Bool) (next : List Bool) (e : WsEdges)
  /-- RILL_LOST (R363): No frame-start edge for 2 nominal frames moves the rill to LOST, fades input and counts LOSS. -/
  | rillLost (n : Nat)
  /-- REARM (R363): Writing RIL_CMD.REARM moves a HELD rill to SEEK. -/
  | rearm (n : Nat) (v : Nat)
  /-- MASK_WRITE (R368): A write of RIL_HANK_MASK queues a new slot mask or is refused for a non-uniform hank. -/
  | maskWrite (h : Nat) (v : Nat)
  /-- MASK_APPLY (R368): At the lead rill's next frame-start edge, or block tick, the written mask takes effect as a step. -/
  | maskApply (h : Nat)
  /-- JET_SAMPLE (R373): For each sample a jet forms protected, interpolated, limited and noise-shaped values and places the leg edges per carrier period. -/
  | jetSample (n : Nat) (smp : Nat)
  /-- CUT (R378): FLT_N low for 20 ns or the fast detector above I_TRIP holds both legs low within 40 ns and counts limited periods. -/
  | cut (n : Nat) (cause : Nat)
  /-- CUT_END (R378): A cut ends at the next carrier edge after both causes clear. -/
  | cutEnd (n : Nat) (cause : Nat)
  /-- SHORT (R379): The 8th consecutive limited period moves the jet to SHORT, deasserts JETn_EN and raises SHORT. -/
  | short (n : Nat)
  /-- THERMAL_UPDATE (R377): At each block tick the coil and magnet temperature model and the coil and fold-back gains update. -/
  | thermalUpdate (t : Nat)
  /-- PILOT_MEASURE (R377): Once per second the jet demodulates the pilot to estimate Re and the coil temperature. -/
  | pilotMeasure (n : Nat) (vr : Int) (vi : Int) (ir : Int) (ii : Int)
  /-- STAGE_TEMP_WRITE (R380): A write of JET_STAGE_T sets the stage temperature and refreshes its staleness. -/
  | stageTempWrite (m : Nat) (n : Nat) (v : Nat)
  /-- TEMP_STALE (R380): JET_STAGE_T unwritten for 2 s becomes stale, limits g_fold to ½ and raises TEMP_STALE. -/
  | tempStale (n : Nat)
  /-- SENSE_LOST (R382): A sense bitstream without transitions for 64 SNS_CLK periods is lost, its lane delivers 0 and a modulating jet trips. -/
  | senseLost (i : Nat)
  /-- BUS_LOST (R382): A BUSV bitstream without transitions is lost and sets V = 0 for its jets. -/
  | busLost (k : Nat)
  /-- SENSE_LIVE (R382): An input with transitions for 1,024 periods becomes live again. -/
  | senseLive (i : Nat)
  /-- BANK_START (R383): Writing JET_BANK_CMD.START starts the bank's start sequence at the next block tick. -/
  | bankStart (k : Nat) (v : Nat)
  /-- BANK_STOP (R383): Writing JET_BANK_CMD.STOP starts the bank's stop sequence at the next block tick. -/
  | bankStop (k : Nat) (v : Nat)
  /-- START_SEQUENCE (R383): At a block tick enabled OFF jets enter PRECHARGE, assert EN one tick later and ramp in. -/
  | startSequence (k : Nat)
  /-- STOP_SEQUENCE (R383): At a block tick jets fade over 32 samples and then deassert EN and enter OFF or TRIP. -/
  | stopSequence (k : Nat)
  /-- JET_RESTART (R385): Writing JET_CMD.RESTART restarts a jet from SHORT or TRIP at the next block tick and clears RETRIES. -/
  | jetRestart (n : Nat) (v : Nat)
  /-- RETRY (R386): RETRY ms after SHORT or TRIP the jet increments RETRIES and attempts a restart. -/
  | retry (n : Nat)
  /-- RETRY_CLEAR (R386): After 1 s in RUN a jet's RETRIES returns to 0. -/
  | retryClear (n : Nat)
  /-- LANE_UP (R390): A Gweast lane with block lock, no HI_BER and a valid frame becomes UP. -/
  | laneUp (l : Nat)
  /-- LANE_DOWN (R390): A Gweast lane that loses lock or receives no valid frame for 20 µs goes DOWN and traffic moves to the other lane. -/
  | laneDown (l : Nat)
  /-- LEASE_REQUEST (R397): A received LEASE REQUEST is answered by the standby with a GRANT carrying the new expiry. -/
  | leaseRequest (l : Nat) (f : Bytes)
  /-- LEASE_GRANT (R397): A received GRANT extends the holder's expiry E, or makes the requester HOLDER. -/
  | leaseGrant (l : Nat) (f : Bytes)
  /-- LEASE_RESIGN (R400): A received RESIGN makes the standby take the shuttle at tick F, or the next tick if late. -/
  | leaseResign (l : Nat) (f : Bytes)
  /-- DIGEST (R407): A received DIGEST frame stores the twin's per-ply digests of a block. -/
  | digest (l : Nat) (f : Bytes)
  /-- DIGEST_SEND (R407): After the last pass of a block ends the unit sends its DIGEST frame. -/
  | digestSend (n : Nat)
  /-- STATE (R409): A received STATE frame updates twin role, readiness and level, and the standby adopts its mirror records. -/
  | state (l : Nat) (f : Bytes)
  /-- MBX_FRAME (R431): A received MBX frame delivers into a twin mailbox or reports its TAKEN or ABORTED outcome. -/
  | mbxFrame (l : Nat) (f : Bytes)
  /-- DRAFT_FRAME_DATA (R410): A received DRAFT DATA frame stages draft bytes at its offset, or boot image bytes in WAIT_TWIN. -/
  | draftFrameData (l : Nat) (f : Bytes)
  /-- PROPOSE (R410): A received PROPOSE is answered with agreement or a refusal code for the commit block. -/
  | propose (l : Nat) (f : Bytes)
  /-- ANSWER (R410): A received ANSWER arms the agreed commit at N or refuses it. -/
  | answer (l : Nat) (f : Bytes)
  /-- DECIDE (R411): A received DECIDE gives the twin's go or abandons the paired commit, or ends a twin boot image. -/
  | decide (l : Nat) (f : Bytes)
  /-- SYNC (R394): A received SYNC frame yields four stamps from which the twin offset θ is computed. -/
  | sync (l : Nat) (f : Bytes) (tap : Nat)
  /-- IDLE (R390): A received IDLE frame keeps the lane alive. -/
  | idle (l : Nat) (f : Bytes)
  /-- RETRANSMIT (R396): An unacknowledged reliable frame after 10 µs is resent with every later frame. -/
  | retransmit (l : Nat)
  /-- SHUTTLE_TICK (R398): At each block tick the unit sends its lease and state frames, fences or takes the shuttle, reaches digest verdicts and advances the pairing state. -/
  | shuttleTick (t : Nat) (peer : Bool) (tap : Nat)
  /-- HANDOVER (R400): Writing PAR_CMD.HANDOVER makes a holder resign when its twin is ready. -/
  | handover
  /-- TAKE (R404): Writing PAR_CMD.TAKE with the link down moves the unit to SOLO. -/
  | take
  /-- ECP_REQUEST (R436): An ECP datagram is checked in order, answered from the duplicate store, or passed to execution. -/
  | ecpRequest (p : Nat) (v6 : Bool) (peer : Nat) (sport : Nat) (uni : Bool) (d : Bytes)
  /-- IDENT (R439): Service IDENT returns identity, serials, pair state and node name. -/
  | ident (p : Nat)
  /-- STATUS (R439): Service STATUS returns modes and every block's fault record. -/
  | status (p : Nat)
  /-- REG_READ (R439): Service REG_READ returns the values of listed registers. -/
  | regRead (p : Nat)
  /-- REG_WRITE (R439): Service REG_WRITE writes listed registers in order as master 13. -/
  | regWrite (p : Nat)
  /-- METER_READ (R439): Service METER_READ returns meters' peak and RMS and restarts the peaks. -/
  | meterRead (p : Nat)
  /-- FAULT_ACK (R439): Service FAULT_ACK writes ACK to a block's fault record. -/
  | faultAck (p : Nat)
  /-- DRAFT_OPEN (R439): Service DRAFT_OPEN opens the staging buffer. -/
  | draftOpen (p : Nat)
  /-- DRAFT_DATA (R439): Service DRAFT_DATA writes draft bytes at an offset for the owner. -/
  | draftData (p : Nat)
  /-- DRAFT_VALIDATE (R439): Service DRAFT_VALIDATE validates the staged draft and answers its status. -/
  | draftValidate (p : Nat)
  /-- DRAFT_COMMIT (R439): Service DRAFT_COMMIT commits the valid draft at N. -/
  | draftCommit (p : Nat)
  /-- DRAFT_ABORT (R439): Service DRAFT_ABORT aborts the staged draft. -/
  | draftAbort (p : Nat)
  /-- DRAFT_STORE (R439): Service DRAFT_STORE stores the draft to flash. -/
  | draftStore (p : Nat)
  /-- EDIT_COEF (R439): Service EDIT_COEF queues coefficient edits with AT and HOLD. -/
  | editCoef (p : Nat)
  /-- EDIT_CARD (R439): Service EDIT_CARD queues one card edit. -/
  | editCard (p : Nat)
  /-- EDIT_RELEASE (R439): Service EDIT_RELEASE releases held edits. -/
  | editRelease (p : Nat)
  /-- TIME_READ (R439): Service TIME_READ returns TSU time, wellhead state and twin offset. -/
  | timeRead (p : Nat)
  /-- TIME_STEP (R439): Service TIME_STEP requests a TSU time step. -/
  | timeStep (p : Nat)
  /-- TIME_SLEW (R439): Service TIME_SLEW starts a TSU slew. -/
  | timeSlew (p : Nat)
  /-- PLY_RELEASE (R439): Service PLY_RELEASE releases a ply left muted by R79. -/
  | plyRelease (p : Nat)
  /-- JET_CMD (R439): Service JET_CMD restarts a jet or starts or stops a bank. -/
  | jetCmd (p : Nat)
  /-- RILL_REARM (R439): Service RILL_REARM rearms a held rill. -/
  | rillRearm (p : Nat)
  /-- PAIR_CMD (R439): Service PAIR_CMD performs HANDOVER or TAKE. -/
  | pairCmd (p : Nat)
  /-- REPACK (R439): Service REPACK requests a creel repack. -/
  | repack (p : Nat)
  /-- MODE (R439): Service MODE requests DORMANT, STANDBY or ACTIVE. -/
  | mode (p : Nat)
  /-- TWIN_TIMEOUT (R438): A relayed twin request unanswered within 100 ms is answered TWIN. -/
  | twinTimeout
  /-- MAILBOX_GO (R429): A sender's GO makes the mailbox BUSY and rings the receiver's doorbell, or is refused. -/
  | mailboxGo (m : Nat) (n : Nat) (v : Nat)
  /-- MAILBOX_TAKE (R429): A receiver's TAKE makes the mailbox TAKEN and sets the sender's event bit. -/
  | mailboxTake (m : Nat) (n : Nat)
  /-- DOORBELL_SET (R430): A write to MBX_DB_SET sets doorbell bits of a receiver. -/
  | doorbellSet (m : Nat) (e : Nat) (v : Nat)
  /-- PRIV_WRITE (R415): A write to MBX_PRIV sets port levels up to their ceilings, or is refused. -/
  | privWrite (m : Nat) (v : Nat)
  /-- HOST_RESET (R422): A PCIe reset or link loss resets HST and the host's mailboxes, cuts its bursts and releases its semaphores. -/
  | hostReset (why : Nat)
  /-- VECTOR_REARM (R424): Writing HST_IACK re-arms MSI-X vectors, sending a new message if a source is still asserted. -/
  | vectorRearm (m : Nat) (i : Nat) (v : Nat)
  /-- RING_TAIL_WRITE (R426): A write of a ring's TAIL hands descriptor entries to the device. -/
  | ringTailWrite (m : Nat) (tx : Bool) (p : Nat) (v : Nat)
  /-- RX_DESCRIPTOR (R426): The device copies the frame at the head of a receive queue into the HEAD entry and advances HEAD. -/
  | rxDescriptor (p : Nat) (q : Nat)
  /-- TX_DESCRIPTOR (R426): The device sends the frame of the HEAD transmit entry, stamps it if asked and advances HEAD. -/
  | txDescriptor (p : Nat) (n : Nat)
  /-- RING_DISABLE (R426): Writing HST_RING_CTRL.EN = 0 takes the ring out of service and zeroes HEAD and TAIL. -/
  | ringDisable (m : Nat) (tx : Bool) (p : Nat)
  /-- RING_CONFIG_WRITE (R426): A write of a ring's BASE or SIZE applies while disabled or sets RING_REFUSED. -/
  | ringConfigWrite (m : Nat) (tx : Bool) (p : Nat) (i : Nat) (v : Nat)
  /-- MATRIX_BURST (R443): A target port grants the lowest-numbered requesting master and runs its burst to the last beat. -/
  | matrixBurst (t : Nat) (new : List Burst) (n : Nat) (ups : List (Nat × Nat))
  /-- BIT_SET_WRITE (R454): A write to the basin bit-set alias ORs data into the word atomically. -/
  | bitSetWrite (m : Nat) (n : Nat) (ofs : Nat) (data : Nat) (strb : Nat)
  /-- BIT_CLEAR_WRITE (R454): A write to the basin bit-clear alias clears data bits in the word atomically. -/
  | bitClearWrite (m : Nat) (n : Nat) (ofs : Nat) (data : Nat) (strb : Nat)
  /-- ECC_WRITEBACK (R455): A basin bank writes back a corrected word in its next free cycle. -/
  | eccWriteback (n : Nat) (ofs : Nat)
  /-- REMAP (R446): A distaff's write of SYS_REMAP.REMAP = 1 maps distaff SRAM at address 0. -/
  | remap (m : Nat) (v : Nat)
  /-- SEMAPHORE_READ (R448): A read of a free SYS_SEM acquires it; a read of a held one returns its holder. -/
  | semaphoreRead (m : Nat) (i : Nat)
  /-- SEMAPHORE_RELEASE (R448): The holder's write of 0 releases a semaphore; any other write records SEM_WRITE. -/
  | semaphoreRelease (m : Nat) (i : Nat) (v : Nat)
  /-- REQUEST_DORMANT (R466): A mode request for DORMANT from ACTIVE or STANDBY starts leaving or enters DORMANT. -/
  | requestDormant
  /-- REQUEST_STANDBY (R466): A mode request for STANDBY from ACTIVE starts the leaving sequence. -/
  | requestStandby
  /-- REQUEST_ACTIVE (R468): A mode request for ACTIVE from STANDBY resumes the cistern and wakes domains. -/
  | requestActive
  /-- LEAVE_QUIESCE (R467): At the first block tick with every jet stopped the loom stops, spindles disable, CST enters RETENTION and audio domains switch off. -/
  | leaveQuiesce (n : Nat)
  /-- RESUME_START (R468): At the first block tick at which everything is ready the draft restarts and the mode becomes ACTIVE. -/
  | resumeStart (n : Nat)
  /-- WAKE_EVENT (R471): A wake source holding for 2 XT32 periods sets PWR_WAKE_SRC and, if enabled, starts leaving DORMANT. -/
  | wakeEvent (i : Nat)
  /-- PMIC_ACK (R472): PMIC_ACK rising after PMIC_REQ starts the 100 µs wait before the wake reset. -/
  | pmicAck
  /-- WAKE_RESET (R472): 100 µs after PMIC_ACK the device performs a wake reset and begins boot. -/
  | wakeReset
  /-- ACK_TIMEOUT (R472): No PMIC_ACK within PWR_ACK_TO lowers PMIC_REQ, stays DORMANT and raises ACK_TIMEOUT. -/
  | ackTimeout
  /-- PMIC_LOST (R473): PMIC_ACK low for 10 µs while PMIC_REQ is high isolates every domain and raises class S PMIC_LOST. -/
  | pmicLost
  /-- WAKE_WINDOW (R461): At each 10 µs window start the governor grants pending wakes in domain order within the budget. -/
  | wakeWindow (ns : Nat)
  /-- DOMAIN_WAKE_DONE (R458): A granted domain becomes usable after its wake time. -/
  | domainWakeDone (d : Nat)
  /-- DOMAIN_SWITCH_OFF (R460): A domain's 2 µs switch-off completes and any pending wake then joins the queue. -/
  | domainSwitchOff (d : Nat)
  /-- WAKE_BUDGET_WRITE (R462): A write of PWR_WAKE_BUDGET sets the per-window charge unless below 400 nC. -/
  | wakeBudgetWrite (m : Nat) (v : Nat)
  /-- WDOG_KICK (R476): A write of PWR_WDOG_KICK restarts the watchdog. -/
  | wdogKick (m : Nat) (v : Nat)
  /-- WDOG (R476): Watchdog expiry resets both distaffs and raises WDOG. -/
  | wdog
  /-- XT_LOST (R475): XT32 stopped or more than 1 % off switches PD_AON to the backup oscillator and raises XT_LOST. -/
  | xtLost
  /-- XT_RETURN (R475): XT32 within 1 % for 2 s switches back from the backup oscillator. -/
  | xtReturn
  /-- COARSE_TIME_WRITE (R474): A write of PWR_AON_SEC_HI applies the three coarse-time registers at the next XT32 tick. -/
  | coarseTimeWrite (m : Nat) (v : Nat) (d : Nat)
  /-- COARSE_TIME_READ (R474): A read of PWR_AON_SUB latches both coarse-time seconds registers. -/
  | coarseTimeRead (d : Nat)
  /-- POWER_ON_RESET (R477): 2 ms after VDD_AON enters range the power-on reset releases and resets everything. -/
  | powerOnReset
  /-- DEV_RESET (R477): SYS_RST_N low or PWR_CMD.DEV_RESET resets every island including RWS fields. -/
  | devReset (pin : Bool)
  /-- BLOCK_RESET (R477): A write of PWR_BLK_RST resets a named block or distaff. -/
  | blockReset (m : Nat) (v : Nat)
  /-- IMAGE_READ_DONE (R480): The boot ROM finishes reading an image and checks it, starting firmware or trying the next source. -/
  | imageReadDone (ok : Bool)
  /-- BOOT_GO (R481): The host's write of PWR_BOOT_GO starts verification of its image. -/
  | bootGo (m : Nat) (v : Nat)
  /-- TWIN_BOOT_PROPOSE (R482): In WAIT_TWIN the boot ROM sends a PROPOSE of SERIAL 0 every 1 ms. -/
  | twinBootPropose
  /-- FIRMWARE_START (R483): Started firmware tests basins and bobbins, initialises the cistern, sets the wake budget and loads the default draft. -/
  | firmwareStart (bad : Nat) (spns : List Nat) (fit : NodeFit)
  /-- ACK (R487): Writing ACK to a block's FLT clears PEND and MERGE and stops its grace timer. -/
  | ack (k : Nat)
  /-- GRACE_EXPIRY (R490): A block's grace timer expires and it applies each held error's escalation in order. -/
  | graceExpiry (k : Nat)
  /-- SEVER_KEY (R495): A write of 0x5345_5645 to SYS_SEVER_CMD severs the device as a class S SYS fault. -/
  | severKey (m : Nat) (v : Nat)
  /-- ERRN_RELEASE (R496): 20 µs after a class I or S record opened, ERR_N rises if no other condition holds. -/
  | errnRelease
  /-- SENSE_DELIVERY (R381): At each sample tick of its lane's domain the sense block delivers the decimated current, voltage or DC-bus word into its lane. -/
  | senseDelivery (i : Nat) (smp : Nat) (v : Nat)
  /-- WCKO_EDGE (R352): A word-clock output places its edge at every (DIV+1)-th source event plus OFFSET, or holds idle while an input source is lost. -/
  | wckoEdge (n : Nat) (k : Nat) (dt : Nat) (tap : Nat) (lost : Bool)
  /-- ESCALATION_MUTE_RELEASE (R491): Plies muted by a grace escalation are released at the first block tick after ACK. -/
  | escalationMuteRelease
  /-- LEAVING_BLOCK_TICK (R467): At the first block tick after a request to leave ACTIVE every ply is muted, jet banks begin their stop, an armed commit is abandoned and reservoirs stop. -/
  | leavingBlockTick
  /-- LATCHED_WAKE (R470): A wake event latched during entry to DORMANT begins the wake once PMIC_REQ has been low for 1 ms. -/
  | latchedWake
  /-- HOST_LINK_UP (R422): The PCI Express data link becomes active, setting HST_STAT.LINK and HST_INT.LINK_UP. -/
  | hostLinkUp (speed : Nat) (width : Nat)
  /-- VECTOR_UNMASK (R424): The host unmasks an MSI-X vector, or enables MSI-X, and a pending vector whose PBA bit is set sends its message. -/
  | vectorUnmask (v : Option Nat)
  /-- GWEAST_IDLE_SEND (R390): A unit that has sent nothing else on a Gweast lane for 2 µs sends an IDLE frame. -/
  | gweastIdleSend (l : Nat)
  /-- MGMT_DRAFT_EN_CHANGE (R504): The 1 ms filtered level of strap MGMT_DRAFT_EN changes, updating MBX_STRAP and whether C0 may issue draft commands. -/
  | mgmtDraftEnChange (lvl : Bool)
  deriving DecidableEq, Repr

end Sys2Proof
end

