-- ==== Sys2Proof/Machine/Arith.lean ====
section
/-! DEFINITION. The arithmetic that every chapter shares: rounding, saturation, bit fields, byte order, CRCs,
and the two real-valued functions the loom uses (raised cosine, decibels), computed to more bits than they are
rounded to. -/

namespace Sys2Proof.Machine

/-- The lowest value of a two's complement number of `n` bits. -/
def minS (n : Nat) : Int := -(2 ^ (n - 1) : Int)

/-- The greatest value of a two's complement number of `n` bits. -/
def maxS (n : Nat) : Int := (2 ^ (n - 1) : Int) - 1

/-- Saturation to `n` bits, two's complement. -/
def satS (n : Nat) (x : Int) : Int :=
  if x < minS n then minS n else if maxS n < x then maxS n else x

/-- Wrap modulo 2^n into the two's complement range of `n` bits. -/
def wrapS (n : Nat) (x : Int) : Int := (x + 2 ^ (n - 1)) % 2 ^ n - 2 ^ (n - 1)

/-- Saturation of a count at a greatest value. -/
def satN (top x : Nat) : Nat := if top < x then top else x

/-- `num / den` rounded to the nearest integer, ties to even (`den` positive). -/
def divHE (num : Int) (den : Nat) : Int :=
  let q := num / (den : Int)
  let r := num % (den : Int)
  if 2 * r < den then q
  else if (den : Int) < 2 * r then q + 1
  else if q % 2 = 0 then q else q + 1

/-- `x / 2^s` rounded to the nearest integer, ties to even. -/
def rndHE (s : Nat) (x : Int) : Int := divHE x (2 ^ s)

/-- `num / den` truncated toward zero. -/
def divT (num : Int) (den : Nat) : Int :=
  if num < 0 then -((-num) / (den : Int)) else num / (den : Int)

/-- Round a rational to the nearest integer, ties to even. -/
def ratHE (q : Rat) : Int := divHE q.num q.den

/-- The least integer not below `a / b`, for naturals. -/
def ceilDiv (a b : Nat) : Nat := (a + b - 1) / b

/-- The bits [lo+n-1:lo] of a number. -/
def fld (w lo n : Nat) : Nat := (w >>> lo) % 2 ^ n

/-- A number with bits [lo+n-1:lo] replaced. -/
def setFld (w lo n v : Nat) : Nat :=
  w - (fld w lo n) * 2 ^ lo + (v % 2 ^ n) * 2 ^ lo

/-- Bit `i` of a number. -/
def bit (w i : Nat) : Bool := w.testBit i

/-- 1 for true, 0 for false. -/
def b2n (b : Bool) : Nat := if b then 1 else 0

/-- The signed value of the low `n` bits of a number. -/
def toS (n w : Nat) : Int := wrapS n (w : Int)

/-- The low `n` bits of an integer, as a number. -/
def ofS (n : Nat) (x : Int) : Nat := (x % 2 ^ n).toNat

/-- The number a little-endian byte sequence spells (R11, R38). -/
def leNat : Bytes → Nat
  | [] => 0
  | b :: r => b.toNat + 256 * leNat r

/-- The number a big-endian byte sequence spells. -/
def beNat (bs : Bytes) : Nat := bs.foldl (fun a b => 256 * a + b.toNat) 0

/-- `n` bytes of a number, little-endian. -/
def leBytes : Nat → Nat → Bytes
  | 0, _ => []
  | n + 1, v => BitVec.ofNat 8 v :: leBytes n (v / 256)

/-- `n` bytes of a number, big-endian. -/
def beBytes (n v : Nat) : Bytes := (leBytes n v).reverse

/-- `n` bytes of a sequence from offset `o`, missing bytes read as 0. -/
def slice (o n : Nat) (bs : Bytes) : Bytes :=
  let t := (bs.drop o).take n
  t ++ List.replicate (n - t.length) 0

/-- Little-endian fields of a byte sequence, missing bytes read as 0. -/
def u8 (bs : Bytes) (o : Nat) : Nat := (bs.getD o 0).toNat
def u16 (bs : Bytes) (o : Nat) : Nat := leNat (slice o 2 bs)
def u32 (bs : Bytes) (o : Nat) : Nat := leNat (slice o 4 bs)
def u64 (bs : Bytes) (o : Nat) : Nat := leNat (slice o 8 bs)

/-- Big-endian fields of a byte sequence, missing bytes read as 0. -/
def be16 (bs : Bytes) (o : Nat) : Nat := beNat (slice o 2 bs)
def be32 (bs : Bytes) (o : Nat) : Nat := beNat (slice o 4 bs)
def be48 (bs : Bytes) (o : Nat) : Nat := beNat (slice o 6 bs)
def be64 (bs : Bytes) (o : Nat) : Nat := beNat (slice o 8 bs)

/-- One bit step of a reflected CRC with the reflected polynomial `p`. -/
def crcBit (p c : Nat) : Nat := if c % 2 = 1 then (c / 2) ^^^ p else c / 2

/-- One byte of a reflected CRC. -/
def crcByte (p c : Nat) (b : Byte) : Nat :=
  let x := c ^^^ b.toNat
  crcBit p (crcBit p (crcBit p (crcBit p (crcBit p (crcBit p (crcBit p (crcBit p x)))))))

/-- A reflected 32-bit CRC, initial value and final XOR all ones. -/
def crc32With (p : Nat) (bs : Bytes) : Nat := (bs.foldl (crcByte p) 0xFFFFFFFF) ^^^ 0xFFFFFFFF

/-- CRC-32C (R39): Castagnoli polynomial 0x1EDC_6F41, reflected. -/
def crc32c (bs : Bytes) : Nat := crc32With 0x82F63B78 bs

/-- The Ethernet frame check sequence: IEEE 802.3 polynomial 0x04C1_1DB7, reflected. -/
def crc32e (bs : Bytes) : Nat := crc32With 0xEDB88320 bs

/-- One byte of an MSB-first 8-bit CRC. -/
def crc8Step (p c : Nat) (b : Byte) : Nat :=
  let s := fun (x : Nat) => if x / 128 % 2 = 1 then ((x * 2) % 256) ^^^ p else (x * 2) % 256
  s (s (s (s (s (s (s (s (c ^^^ b.toNat))))))))

/-- pi times 2^200, rounded down. -/
def piQ200 : Int := 5048344754617993871973410141242436836214643421488662971535368

/-- One term after another of the cosine series, `n` terms, at scale 2^200: `t` is the current term, `x2` the square
of the argument, `i` the index of the term. -/
def cosTerms : Nat → Int → Int → Int → Int → Int
  | 0, _, _, _, acc => acc
  | n + 1, x2, t, i, acc => cosTerms n x2 (-(t * x2 / 2 ^ 200) / ((2 * i + 1) * (2 * i + 2))) (i + 1) (acc + t)

/-- 2^200 cos(pi num / 2^k), for 0 ≤ num ≤ 2^k. -/
def cosPi (num k : Nat) : Int :=
  let flip := 2 * num > 2 ^ k
  let m := if flip then 2 ^ k - num else num
  let x := piQ200 * (m : Int) / 2 ^ k
  let c := if 2 * m = 2 ^ k then 0 else cosTerms 40 (x * x / 2 ^ 200) (2 ^ 200) 0 0
  if flip then -c else c

/-- 2^200 cos(pi num / den), for 0 ≤ num ≤ den. -/
def cosTurn (num den : Nat) : Int :=
  let flip := den < 2 * num
  let m := if flip then den - num else num
  let x := piQ200 * (m : Int) / (max 1 den : Nat)
  let c := if 2 * m = den then 0 else cosTerms 40 (x * x / 2 ^ 200) (2 ^ 200) 0 0
  if flip then -c else c

/-- 2^200 sin(2 pi num / den). -/
def sinTurn (num den : Nat) : Int :=
  let q := ((4 * (num % den) : Nat) - (den : Int)).natAbs
  cosTurn (if 2 * den < q then 4 * den - q else q) (2 * den)

/-- The raised-cosine weight of R135, rounded half-even from the exact value: 2^30 (1 - cos(pi num / 2^k)) / 2. -/
def raisedCos (num k : Nat) : Int :=
  if num = 0 then 0 else if num = 2 ^ k then 2 ^ 30 else rndHE 171 (2 ^ 200 - cosPi num k)

/-- Fractional bits of a base-2 logarithm by repeated squaring of a mantissa `m` in [2^120, 2^121). -/
def log2Frac : Nat → Nat → Nat → Nat
  | 0, _, acc => acc
  | n + 1, m, acc =>
      let s := m * m / 2 ^ 120
      if 2 ^ 121 ≤ s then log2Frac n (s / 2) (2 * acc + 1) else log2Frac n s (2 * acc)

/-- 2^48 log2(v), for v > 0. -/
def log2Q48 (v : Nat) : Nat :=
  let e := Nat.log2 v
  let m := if e ≤ 120 then v * 2 ^ (120 - e) else v / 2 ^ (e - 120)
  e * 2 ^ 48 + log2Frac 48 m 0

/-- `c` log10(num / 2^s) in signed Q8.8 decibels, rounded to the nearest 1/256 and limited to [-128, 128) (R145);
`c` is 10 or 20. 1/log2(10) is 84732411018728 / 2^48, and 256 of its units make one decibel. -/
def dbQ88 (c num s : Nat) : Int :=
  if num = 0 then -32768
  else
    let l : Int := (log2Q48 num : Int) - (s : Int) * 2 ^ 48
    let d := divHE (l * (84732411018728 * 256 * c)) (2 ^ 96)
    if d < -32768 then -32768 else if 32767 < d then 32767 else d

end Sys2Proof.Machine
end

