-- ==== Sys2Proof/Machine/Parts/Draft.lean ====
section
/-! DEFINITION. The pieces of state of the draft (spec/02_draft.md): chunks, a parsed draft, the staging state. -/

namespace Sys2Proof.Machine

/-- One chunk (R41). `off` is the offset of its header in the staged draft; none for a chunk that a patch inherits
from the draft in force (R525). -/
structure Chunk where
  tag : Nat := 0
  inst : Nat := 0
  cflags : Nat := 0
  off : Option Nat := none
  pay : Bytes := []
  deriving DecidableEq, Repr

/-- A draft as its header and chunks (R40, R41). -/
structure Draft where
  serial : Nat := 0
  base : Nat := 0
  flags : Nat := 0
  chunks : List Chunk := []
  deriving DecidableEq, Repr

/-- The sources of a draft (R65); `none` is no owner. -/
inductive Source where
  | none
  | host
  | pair
  | mgmt
  | flash
  deriving DecidableEq, Repr

/-- The staging states (R69). -/
inductive StgState where
  | empty
  | loading
  | validating
  | valid
  | rejected
  | armed
  | settling
  | storing
  deriving DecidableEq, Repr

/-- The staging and commit machinery (R66 to R82, R525). -/
structure Staging where
  st : StgState := .empty
  owner : Source := .none
  err : Nat := 0
  errInst : Nat := 0
  errTag : Nat := 0
  errOfs : Nat := 0
  cold : Bool := false
  prep : Nat := 0
  /-- The held copy (R67). -/
  held : Bytes := []
  /-- SYS_DFT_LEN as VALIDATE found it (R67, R70). -/
  heldLen : Nat := 0
  /-- The effective draft of a validated held copy (R63). -/
  eff : Option Draft := none
  /-- The commit block of an armed commit (R72). -/
  armedAt : Nat := 0
  /-- A firmware boot commit: the flash slot being committed, 0 for none, 1 A, 2 B (R82). -/
  bootSlot : Nat := 0
  /-- The block of a cold commit that is settling (R78, R79). -/
  settleN : Nat := 0
  /-- Plies muted by a cold commit and not yet released (R78). -/
  affected : List Nat := []
  /-- Plies left muted by R79. -/
  unsettled : List Nat := []
  /-- The draft in force. -/
  force : Option Draft := none
  /-- The latched high half of the block number (R68). -/
  blkHi : Nat := 0
  /-- Bytes of the quad-SPI flash (R80). -/
  flash : Tab (BitVec 8) := []
  /-- Slots that failed at boot, tried no more (R82). -/
  bootTried : List Nat := []
  deriving DecidableEq, Repr

end Sys2Proof.Machine
end

