-- ==== Sys2Proof/Machine/DraftFmt.lean ====
section
/-! DEFINITION. The bytes of a draft (spec/02_draft.md): the tags, the fields of each chunk's payload, and the
serialisation of a full draft. -/

namespace Sys2Proof.Machine

/-- Tags as little-endian words (R41, R43). -/
def tagDOMN : Nat := 0x4E4D4F44
def tagLANE : Nat := 0x454E414C
def tagPLYS : Nat := 0x53594C50
def tagSKIN : Nat := 0x4E494B53
def tagSLUC : Nat := 0x43554C53
def tagDECK : Nat := 0x4B434544
def tagCOEF : Nat := 0x46454F43
def tagKERN : Nat := 0x4E52454B
def tagPLCE : Nat := 0x45434C50
def tagDLAY : Nat := 0x59414C44
def tagRILL : Nat := 0x4C4C4952
def tagJETS : Nat := 0x5354454A
def tagPROT : Nat := 0x544F5250
def tagWELL : Nat := 0x4C4C4557
def tagTIME : Nat := 0x454D4954
def tagPAIR : Nat := 0x52494150
def tagPORT : Nat := 0x54524F50
def tagNAME : Nat := 0x454D414E
def tagENDD : Nat := 0x44444E45

/-- The chunk catalogue of R43: tag, number of instances, required, structural. -/
def tagTable : List (Nat × Nat × Bool × Bool) := [
  (tagDOMN, 1, true, true), (tagLANE, 16, true, true), (tagPLYS, 1, true, true),
  (tagSKIN, 256, false, true), (tagSLUC, 256, false, true), (tagDECK, 3, false, false),
  (tagCOEF, 256, false, false), (tagKERN, 2048, false, false), (tagPLCE, 1, false, false),
  (tagDLAY, 1, false, false), (tagRILL, 6, false, true), (tagJETS, 4, false, true),
  (tagPROT, 32, false, false), (tagWELL, 1, false, false), (tagTIME, 1, false, false),
  (tagPAIR, 1, false, false), (tagPORT, 1, false, true), (tagNAME, 2, false, false),
  (tagENDD, 1, true, false)]

/-- Whether a tag is one of R43. -/
def tagKnown (t : Nat) : Bool := tagTable.any (fun r => r.1 == t)

/-- The number of instances of a tag. -/
def tagInsts (t : Nat) : Nat := (tagTable.find? (fun r => r.1 == t)).elim 0 (fun r => r.2.1)

/-- Whether a tag is structural (R43, R78). -/
def tagStructural (t : Nat) : Bool := (tagTable.find? (fun r => r.1 == t)).elim false (fun r => r.2.2.2)

/-- The payload of a chunk of a draft. -/
def Draft.chunk? (d : Draft) (tag inst : Nat) : Option Chunk :=
  d.chunks.find? (fun c => c.tag == tag && c.inst == inst)

def Draft.pay? (d : Draft) (tag inst : Nat) : Option Bytes := (d.chunk? tag inst).map (·.pay)

/-- The chunks of one tag, in draft order. -/
def Draft.ofTag (d : Draft) (tag : Nat) : List Chunk := d.chunks.filter (fun c => c.tag == tag)

/-- The consecutive records of `n` bytes of a payload, with the payload offset of each. -/
def recsFrom (n : Nat) : Nat → Nat → Bytes → List (Nat × Bytes)
  | 0, _, _ => []
  | fuel + 1, o, bs => if bs.isEmpty then [] else (o, bs.take n) :: recsFrom n fuel (o + n) (bs.drop n)

def recs (n : Nat) (bs : Bytes) : List (Nat × Bytes) := recsFrom n (bs.length / n + 1) 0 bs

/-- DOMN fields (R45). -/
structure Domn where
  fMult : Nat := 2
  xEn : Bool := false
  xKind : Nat := 0
  xIdx : Nat := 0
  xRate : Nat := 0
  deriving DecidableEq, Repr

def domnOf (p : Bytes) : Domn :=
  { fMult := u8 p 0, xEn := u8 p 1 == 1, xKind := u8 p 2, xIdx := u8 p 3, xRate := u32 p 4 }

def Draft.domn (d : Draft) : Domn := (d.pay? tagDOMN 0).elim {} domnOf

/-- One LANE record (R46), with the chunk that holds it and its payload offset. -/
structure LaneRec where
  lane : Nat
  dom : Nat
  dir : Nat
  rsv : Nat
  inst : Nat
  ofs : Nat
  deriving DecidableEq, Repr

def laneRecOf (inst : Nat) (r : Nat × Bytes) : LaneRec :=
  let w := u32 r.2 0
  { lane := fld w 0 13, dom := fld w 13 2, dir := fld w 15 1, rsv := fld w 16 16, inst := inst, ofs := r.1 }

def Draft.lanes (d : Draft) : List LaneRec :=
  (d.ofTag tagLANE).flatMap (fun c => (recs 4 c.pay).map (laneRecOf c.inst))

/-- The record of a lane, if the draft lists it. -/
def Draft.lane? (d : Draft) (l : Nat) : Option LaneRec := d.lanes.find? (fun r => r.lane == l)

/-- The domain of a lane (0 F, 1 B, 2 X), if listed. -/
def Draft.laneDom? (d : Draft) (l : Nat) : Option Nat := (d.lane? l).map (·.dom)

/-- One PLYS record (R47). -/
structure PlyRec where
  first : Nat
  count : Nat
  ply : Nat
  rsv : Nat
  ofs : Nat
  deriving DecidableEq, Repr

def plyRecOf (r : Nat × Bytes) : PlyRec :=
  let w := u32 r.2 0
  { first := fld w 0 13, count := fld w 13 6 + 1, ply := fld w 19 9, rsv := fld w 28 4, ofs := r.1 }

def Draft.plies (d : Draft) : List PlyRec := (d.pay? tagPLYS 0).elim [] (fun p => (recs 4 p).map plyRecOf)

/-- The ply of a lane. -/
def Draft.plyOf? (d : Draft) (l : Nat) : Option PlyRec :=
  d.plies.find? (fun r => decide (r.first ≤ l) && decide (l < r.first + r.count))

def Draft.ply? (d : Draft) (p : Nat) : Option PlyRec := d.plies.find? (fun r => r.ply == p)

/-- SKIN fields (R48). -/
structure Skin where
  inst : Nat := 0
  firstLane : Nat := 0
  lanes : Nat := 1
  enc : Nat := 0
  ptime : Nat := 0
  portA : Nat := 0
  portB : Nat := 0xFF
  dscp : Nat := 0
  pt : Nat := 96
  hops : Nat := 0
  af : Nat := 4
  ssrc : Nat := 0
  dstA : Bytes := []
  dstB : Bytes := []
  srcFilt : Bytes := []
  udpA : Nat := 0
  udpB : Nat := 0
  linkOfs : Nat := 0
  rtpOfs : Nat := 0
  deriving DecidableEq, Repr

def skinOf (inst : Nat) (p : Bytes) : Skin :=
  { inst := inst, firstLane := u16 p 0, lanes := u8 p 2, enc := u8 p 3, ptime := u8 p 4, portA := u8 p 5,
    portB := u8 p 6, dscp := fld (u8 p 7) 0 6, pt := u8 p 8, hops := u8 p 9, af := u8 p 0xA, ssrc := u32 p 0xC,
    dstA := slice 0x10 16 p, dstB := slice 0x20 16 p, srcFilt := slice 0x30 16 p, udpA := u16 p 0x40,
    udpB := u16 p 0x42, linkOfs := u32 p 0x44, rtpOfs := u32 p 0x48 }

def Draft.skin? (d : Draft) (i : Nat) : Option Skin := (d.pay? tagSKIN i).map (skinOf i)

def Draft.skins (d : Draft) : List Skin := (d.ofTag tagSKIN).map (fun c => skinOf c.inst c.pay)

/-- SLUC fields (R49). -/
structure Sluc where
  src : Nat := 0
  dst : Nat := 0
  filt : Nat := 0
  bw : Nat := 0
  deriving DecidableEq, Repr

def slucOf (p : Bytes) : Sluc := { src := u8 p 0, dst := u8 p 1, filt := u8 p 2, bw := u8 p 3 }

def Draft.sluc? (d : Draft) (n : Nat) : Option Sluc := (d.pay? tagSLUC n).map slucOf

/-- A card image (R50): bits [7:0] in byte 0. -/
def cardOf (bs : Bytes) : BitVec 128 := BitVec.ofNat 128 (leNat (bs.take 16))

/-- The cards of a domain's deck. -/
def Draft.deck (d : Draft) (dom : Nat) : List (BitVec 128) :=
  (d.pay? tagDECK dom).elim [] (fun p => (recs 16 p).map (fun r => cardOf r.2))

/-- COEF segments (R51): (instance, first index, words). -/
def Draft.coefSegs (d : Draft) : List (Nat × Nat × List (BitVec 32)) :=
  (d.ofTag tagCOEF).map (fun c => (c.inst, u32 c.pay 0, (recs 4 (c.pay.drop 4)).map (fun r => BitVec.ofNat 32 (u32 r.2 0))))

/-- The coefficient of an index (R51): an index that no segment covers holds 0. -/
def Draft.coef (d : Draft) (i : Nat) : BitVec 32 :=
  (d.coefSegs.find? (fun s => decide (s.2.1 ≤ i) && decide (i < s.2.1 + s.2.2.length))).elim 0
    (fun s => s.2.2.getD (i - s.2.1) 0)

/-- KERN fields (R52). -/
structure Kern where
  id : Nat := 0
  dom : Nat := 0
  cls : Nat := 1
  nIn : Nat := 0
  nOut : Nat := 1
  cycles : Nat := 1
  inLane : Nat := 0
  outLane : Nat := 0
  progWords : Nat := 1
  xSize : Nat := 0
  ySize : Nat := 0
  sSize : Nat := 0
  xInit : Nat := 0
  yInit : Nat := 0
  sInit : Nat := 0
  prog : List (BitVec 64) := []
  xImg : Bytes := []
  yImg : Bytes := []
  sImg : Bytes := []
  deriving DecidableEq, Repr

/-- Round up to a multiple of `m`. -/
def upTo (m n : Nat) : Nat := (n + m - 1) / m * m

def kernOf (id : Nat) (p : Bytes) : Kern :=
  let pw := u16 p 0x0C
  let xi := u32 p 0x1C
  let yi := u32 p 0x20
  let si := u32 p 0x24
  let xo := 0x30 + 8 * pw
  let yo := xo + upTo 4 xi
  let so := yo + upTo 4 yi
  { id := id, dom := u8 p 0, cls := u8 p 1, nIn := u8 p 2, nOut := u8 p 3, cycles := u32 p 4, inLane := u16 p 8,
    outLane := u16 p 0xA, progWords := pw, xSize := u32 p 0x10, ySize := u32 p 0x14, sSize := u32 p 0x18,
    xInit := xi, yInit := yi, sInit := si,
    prog := (recs 8 ((p.drop 0x30).take (8 * pw))).map (fun r => BitVec.ofNat 64 (u64 r.2 0)),
    xImg := (p.drop xo).take xi, yImg := (p.drop yo).take yi, sImg := (p.drop so).take si }

def Draft.kern? (d : Draft) (k : Nat) : Option Kern := (d.pay? tagKERN k).map (kernOf k)

def Draft.kerns (d : Draft) : List Kern := (d.ofTag tagKERN).map (fun c => kernOf c.inst c.pay)

/-- PLCE records (R53). -/
structure Plce where
  kernel : Nat
  kind : Nat
  bobbin : Nat
  spindle : Nat
  ofs : Nat
  deriving DecidableEq, Repr

def Draft.plces (d : Draft) : List Plce :=
  (d.pay? tagPLCE 0).elim [] (fun p => (recs 8 p).map (fun r =>
    { kernel := u16 r.2 0, kind := u8 r.2 2, bobbin := u8 r.2 3, spindle := u8 r.2 4, ofs := r.1 }))

/-- DLAY records (R54). -/
structure Dlay where
  line : Nat
  dom : Nat
  len : Nat
  ofs : Nat
  deriving DecidableEq, Repr

def Draft.dlays (d : Draft) : List Dlay :=
  (d.pay? tagDLAY 0).elim [] (fun p => (recs 8 p).map (fun r =>
    { line := u16 r.2 0, dom := u8 r.2 2, len := u32 r.2 4, ofs := r.1 }))

def Draft.dlay? (d : Draft) (l : Nat) : Option Dlay := d.dlays.find? (fun r => r.line == l)

/-- One rill record of a RILL chunk (R55). -/
structure RillRec where
  fmt : Nat := 0
  word : Nat := 16
  frame : Nat := 32
  role : Nat := 2
  rate : Nat := 0
  deriving DecidableEq, Repr

def rillRecOf (p : Bytes) (k : Nat) : RillRec :=
  let o := 4 + 8 * k
  { fmt := u8 p o, word := u8 p (o + 1), frame := u8 p (o + 2), role := u8 p (o + 3), rate := u32 p (o + 4) }

/-- The record of rill n; a rill of an absent hank is off (R44). -/
def Draft.rill (d : Draft) (n : Nat) : RillRec := (d.pay? tagRILL (n / 8)).elim {} (fun p => rillRecOf p (n % 8))

def Draft.hankMask (d : Draft) (h : Nat) : Nat := (d.pay? tagRILL h).elim 0xFFFF (fun p => u16 p 0)

/-- JETS fields (R56). -/
structure JetRec where
  carrier : Nat := 0
  en : Bool := false
  minPulse : Nat := 0
  retry : Nat := 0
  iFs : Nat := 0
  vFs : Nat := 0
  busv : Nat := 0
  deriving DecidableEq, Repr

def Draft.jet (d : Draft) (n : Nat) : JetRec :=
  (d.pay? tagJETS (n / 8)).elim {} (fun p =>
    let o := 8 + 8 * (n % 8)
    { carrier := u8 p 0, en := bit (u8 p 1) (n % 8), minPulse := u16 p 2, retry := u16 p 4, iFs := u16 p o,
      vFs := u16 p (o + 2), busv := u8 p (o + 4) })

/-- PROT fields (R57). -/
structure Prot where
  sagKnee : Nat := 0
  sagFloor : Nat := 0
  reNom : Nat := 0
  pilot : Nat := 0
  tauCoil : Nat := 0
  tauMag : Nat := 0
  rthCoil : Nat := 0
  rthMag : Nat := 0
  tCoilMax : Nat := 0
  tFold : Nat := 0
  tTrip : Nat := 0
  iTrip : Nat := 0
  attack : Nat := 0
  release : Nat := 0
  deriving DecidableEq, Repr

def protOf (p : Bytes) : Prot :=
  { sagKnee := u16 p 0, sagFloor := u16 p 2, reNom := u16 p 4, pilot := u16 p 6, tauCoil := u16 p 8,
    tauMag := u16 p 0xA, rthCoil := u16 p 0xC, rthMag := u16 p 0xE, tCoilMax := u16 p 0x10, tFold := u16 p 0x12,
    tTrip := u16 p 0x14, iTrip := u16 p 0x16, attack := u16 p 0x18, release := u16 p 0x1A }

def Draft.prot (d : Draft) (n : Nat) : Prot := (d.pay? tagPROT n).elim {} protOf

/-- PAIR fields (R60); LEASE 0 means 4. -/
structure PairCfg where
  en : Bool := false
  pref : Nat := 0
  lease : Nat := 4
  policy : Nat := 0
  pairId : Nat := 0
  deriving DecidableEq, Repr

def pairOf (p : Bytes) : PairCfg :=
  { en := u8 p 0 == 1, pref := u8 p 1, lease := if u8 p 2 = 0 then 4 else u8 p 2, policy := u8 p 3,
    pairId := u32 p 4 }

def Draft.pair? (d : Draft) : Option PairCfg := (d.pay? tagPAIR 0).map pairOf

def Draft.pairEn (d : Draft) : Bool := (d.pair?).elim false (·.en)

/-- TIME fields (R59). -/
structure TimeCfg where
  profile : Nat := 0
  ptpDomain : Nat := 0
  prio1 : Nat := 128
  prio2 : Nat := 128
  modes : List Nat := []
  tcEn : Bool := false
  logSync : Nat := 0
  logAnn : Nat := 0
  jumpLim : Nat := 0
  deriving DecidableEq, Repr

def timeOf (p : Bytes) : TimeCfg :=
  { profile := u8 p 0, ptpDomain := u8 p 1, prio1 := u8 p 2, prio2 := u8 p 3,
    modes := [u8 p 4, u8 p 5, u8 p 6, u8 p 7, u8 p 8], tcEn := u8 p 9 == 1, logSync := u8 p 0xA,
    logAnn := u8 p 0xB, jumpLim := u32 p 0xC }

def Draft.time? (d : Draft) : Option TimeCfg := (d.pay? tagTIME 0).map timeOf

/-- One address record of PORT (R61): `k` is 0 to 3 for M0 to M3 and 4 for C0. -/
structure AddrRec where
  ipv4 : Bytes := [0, 0, 0, 0]
  v4Prefix : Nat := 0
  mode : Nat := 0
  v6Prefix : Nat := 0
  ipv6 : Bytes := []
  gw4 : Bytes := [0, 0, 0, 0]
  vlan : Nat := 0
  deriving DecidableEq, Repr

def addrOf (p : Bytes) (k : Nat) : AddrRec :=
  let o := 0x10 + 32 * k
  { ipv4 := slice o 4 p, v4Prefix := u8 p (o + 4), mode := u8 p (o + 5), v6Prefix := u8 p (o + 6),
    ipv6 := slice (o + 8) 16 p, gw4 := slice (o + 24) 4 p, vlan := u16 p (o + 28) }

def Draft.addr (d : Draft) (k : Nat) : AddrRec := (d.pay? tagPORT 0).elim {} (fun p => addrOf p k)

/-- The bytes of a chunk, with its CCRC (R41). -/
def chunkBytes (c : Chunk) : Bytes :=
  let h := leBytes 4 c.tag ++ leBytes 4 c.pay.length ++ leBytes 2 c.cflags ++ leBytes 2 c.inst
  h ++ leBytes 4 (crc32c (h ++ c.pay)) ++ c.pay

/-- A draft serialised as a full draft (R40, R63, R81). -/
def draftBytes (d : Draft) : Bytes :=
  let body := d.chunks.flatMap chunkBytes
  let h := [0x4C, 0x44, 0x46, 0x54] ++ leBytes 2 3 ++ leBytes 2 0x2048 ++ leBytes 8 d.serial
    ++ leBytes 4 (64 + body.length) ++ leBytes 4 d.chunks.length ++ leBytes 8 0
    ++ leBytes 4 (d.flags / 2 * 2) ++ List.replicate 24 0
  h ++ leBytes 4 (crc32c h) ++ body

end Sys2Proof.Machine
end

