-- ==== Sys2Proof/Machine/Parts/Cistern.lean ====
section
/-! DEFINITION. The pieces of state of the cistern (spec/08_cistern.md). -/

namespace Sys2Proof.Machine

/-- A request in a queue of the cistern, or waiting for one at the matrix (R236): the master, the address, the number of
bytes, the data of a write, and when it arrived, in ns. -/
structure CReq where
  master : Nat := 0
  addr : Nat := 0
  len : Nat := 0
  data : Bytes := []
  /-- A read of a burst that has been cut: its data is discarded (R447). -/
  cut : Bool := false
  arrived : Nat := 0
  deriving DecidableEq, Repr

/-- A reservoir (R247 to R249). `acc` holds from an accepted start to its stop, `run` from its first recorded sample. -/
structure Rsv where
  acc : Bool := false
  run : Bool := false
  /-- The block at whose tick it begins. -/
  begin : Nat := 0
  /-- PLY and MODE as the start found them (R248). -/
  ply : Nat := 0
  once : Bool := false
  /-- The first sample recorded. -/
  first : Nat := 0
  wptr : Nat := 0
  /-- The offset at the last block tick before the block `atBlk` in which it last recorded, or at the last 64th sample of X: what WPTR shows
  (R248). -/
  shown : Nat := 0
  atBlk : Nat := 0
  stopping : Bool := false
  /-- Samples recorded since WPTR was last shown, in domain X. -/
  cnt : Nat := 0
  deriving DecidableEq, Repr

/-- The cistern. `st`: 0 OFF, 1 TRAINING, 2 SERVICE, 3 FCHG, 4 RETENTION, 5 FAILED. -/
structure Cistern where
  st : Nat := 0
  rate : Nat := 0
  /-- The active shadow set, and the rate each set holds (R242). -/
  set : Nat := 0
  held0 : Option Nat := none
  held1 : Option Nat := none
  /-- Inline ECC in force. -/
  ecc : Bool := false
  /-- An INIT in progress: the target rate. -/
  target : Nat := 0
  /-- The second rate that firmware names, and CST_CFG as firmware writes it before INIT (R241). -/
  second : Nat := 1
  fwCfg : Option Nat := none
  rdq : List CReq := []
  wrq : List CReq := []
  /-- Requests that wait at the matrix. -/
  rdWait : List CReq := []
  wrWait : List CReq := []
  /-- A write batch in progress: true when the write queue had reached HIGH, false when the read queue was empty (R237). -/
  drain : Option Bool := none
  /-- An accepted frequency change: its block and target (R243). -/
  fchg : Option (Nat × Nat) := none
  /-- Refreshes owed by each bank (channel * 32 + rank * 16 + bank), at most 8 (R239). -/
  refOwed : Tab Nat := []
  /-- The refresh rate in force, as the devices' report scales it, and its highest value when above range (R239, R250). -/
  refScale : Nat := 1
  hot : Bool := false
  /-- Read and write delay adjustment of each channel, in 1/1024 UI (R240). -/
  delays : Tab Int := []
  /-- Times of the last temperature check and ZQ latch, and of each channel's oscillator check, in ns. -/
  tempAt : Nat := 0
  zqAt : Nat := 0
  dqsAt : Tab Nat := []
  rsv : Tab Rsv := []
  deriving DecidableEq, Repr

end Sys2Proof.Machine
end

