-- ==== Sys2Proof/Machine/Parts/Fault.lean ====
section
/-! DEFINITION. The pieces of state of fault records and of what leaves the device (spec/19_faults.md). -/

namespace Sys2Proof.Machine

/-- An error held in a record: its code and the unit on which it was detected (R490). -/
structure HeldErr where
  code : Nat := 0
  unit : Nat := 0
  deriving DecidableEq, Repr

/-- A fault record (R487): xxx_FLT, xxx_FLT_BLK, and the grace timer with the GRACE it started from, at an instant of the power
clock in ns (R490). `held` lists the record's errors in the order in which they arose. -/
structure FltRec where
  pend : Bool := false
  code : Nat := 0
  cls : Nat := 0
  spec : Nat := 0
  merge : Nat := 0
  blk : Nat := 0
  timer : Bool := false
  grace : Nat := 0
  at' : Nat := 0
  held : List HeldErr := []
  deriving DecidableEq, Repr

/-- What the device gives to the world outside it, one entry for each event, newest first in the state's log. -/
inductive Output where
  /-- A frame leaves a port (0 to 3 M0 to M3, 4 C0, 5 T0), FCS included, with its transmit stamp if it is stamped. -/
  | frame (port : Nat) (bytes : Bytes) (stamp : Option Nat)
  /-- A Gweast frame leaves on a lane: TYPE and all its bytes. -/
  | gweast (lane type : Nat) (bytes : Bytes)
  /-- An MSI-X message. -/
  | msix (vector : Nat)
  /-- The data of a read: address, number of bytes, little-endian value. -/
  | read (addr len data : Nat)
  /-- An ECP answer leaves a port of R413, to a peer's address and UDP port. -/
  | ecp (port peer sport : Nat) (bytes : Bytes)
  /-- A ball changes: its name's number (`pinSpout` and the like) and level. -/
  | pin (name : Nat) (level : Bool)
  /-- A ball goes high-impedance. -/
  | hiz (name : Nat)
  /-- An output edge placed at an instant, in 125 ps units. -/
  | edge (name : Nat) (level : Bool) (at125 : Int)
  /-- A rill's DO in a frame: its bits, one a BCK period from the frame-start edge (R355). -/
  | rill (n : Nat) (bits : List Bool)
  /-- A master rill's frame: the stamp of its frame-start edge on the tick count, in 125 ps units; the BCK periods from there,
  each with the length of its high part, in periods of the audio master; the level of WS in the left half-frame (R358). -/
  | frameClk (n stamp : Nat) (bck : List (Nat × Nat)) (ws : Bool)
  /-- A jet's leg times. -/
  | legs (n period : Nat) (aRise aFall bRise bFall : Int)
  /-- A transmission of T0 that a collision ended: its bit times from the start of the preamble, then a jam of 32 bits. -/
  | jam (bits : Nat)
  /-- An MDIO frame starts. -/
  | mdio (word : Nat)
  /-- Words written to host memory. -/
  | hostWrite (addr : Nat) (bytes : Bytes)
  deriving DecidableEq, Repr

end Sys2Proof.Machine
end

