-- ==== Sys2Proof/Machine/Parts/Jet.lean ====
section
/-! DEFINITION. The pieces of state of the jets and of the sense inputs (spec/14_jets.md). -/

namespace Sys2Proof.Machine

/-- A jet (R373 to R386). `st` is 0 OFF, 1 PRECHARGE, 2 RUN, 3 STOPPING, 4 SHORT, 5 TRIP. Gains, temperatures and the
shaper's errors are exact rationals. Block numbers stand in `startAt` (step 1 of a start), `seqAt` (where it happened),
`stopAt` (step 1 of a stop), `offAt` (its step 3). -/
structure Jet where
  st : Nat := 0
  cfg : JetRec := {}
  lvl : Nat := 0
  g : Rat := 0
  gSag : Rat := 1
  gCoil : Rat := 1
  gFold : Rat := 1
  fresh : Bool := false
  vPrev : Rat := 0
  /-- The last sample that went out, and the values of its carrier periods (R373, R375). -/
  sent : Option Nat := none
  ys : List (Nat × Int) := []
  errs : List Rat := []
  tMag : Rat := 25
  tCoil : Rat := 25
  /-- The sum of squares and number of the block's current words (R377). -/
  iSum : Nat := 0
  iCnt : Nat := 0
  /-- While the pilot measurement is valid: Re_p in ohms (R377). -/
  re : Option Rat := none
  reLast : Rat := 0
  /-- The conditions that hold a cut, one bit each: 0 FLT_N, 1 the fast detector (R378). -/
  cut : Nat := 0
  /-- One past the last limited carrier period, and how many were limited in a row (R378, R379). -/
  limNext : Nat := 0
  limCnt : Nat := 0
  stale : Bool := true
  /-- When the stage temperature was last written, in 125 ps units. -/
  wroteAt : Nat := 0
  tripPend : Nat := 0
  reason : Nat := 0
  retries : Nat := 0
  startAt : Option Nat := none
  seqAt : Nat := 0
  rampT : Nat := 0
  stopAt : Option Nat := none
  stopCnt : Nat := 0
  offAt : Option Nat := none
  /-- When the jet entered SHORT or TRIP or its retry timer restarted, and when it entered RUN, in 125 ps units. -/
  stoppedAt : Nat := 0
  runAt : Nat := 0
  deriving DecidableEq, Repr

/-- A jet bank. `st` is 0 OFF, 1 starting, 2 running, 3 stopping. -/
structure Bank where
  cfg : Bool := false
  st : Nat := 0
  en : Nat := 0
  dom : Nat := 0
  carrier : Nat := 0
  minPulse : Nat := 0
  retry : Nat := 0
  startAt : Option Nat := none
  startedAt : Nat := 0
  stopAt : Option Nat := none
  /-- Stopped by a hard stop while it ran: it starts again when its plies are released (R384). -/
  resume : Bool := false
  /-- A committed draft's configuration waits for the bank to stop (R383). -/
  reload : Bool := false
  deriving DecidableEq, Repr

/-- The jets and the sense inputs; inputs are numbered as in SNS_FLT. `meas` is the last measurement of an input (Q0.31),
`hardAt` the block tick of a hard stop to come. -/
structure Jets where
  jets : Tab Jet := []
  banks : Tab Bank := []
  live : Tab Bool := []
  meas : Tab Int := []
  hardAt : Option Nat := none
  deriving DecidableEq, Repr

end Sys2Proof.Machine
end

