-- ==== Sys2Proof/Machine/Parts/Loom.lean ====
section
/-! DEFINITION. The pieces of state of the lane store, the loom and the sluices (spec/03_lanes_domains_sluices.md,
spec/04_loom.md). -/

namespace Sys2Proof.Machine

/-- The kind of card that last initialised or updated a state slot (R121). -/
inductive SlotKind where
  | none
  | fade
  | glide
  | weir
  | trim
  deriving DecidableEq, Repr

/-- A state slot (R135, R136, R138, R142): FADE holds g, g0, the recorded target and n; GLIDE holds g; WEIR holds g
and h; TRIM holds the three previous source words. `fresh` asks the next card that names the slot to initialise it. -/
structure Slot where
  kind : SlotKind := .none
  g : Int := 0
  g0 : Int := 0
  tgt : Int := 0
  n : Nat := 0
  h : Nat := 0
  x1 : Int := 0
  x2 : Int := 0
  x3 : Int := 0
  fresh : Bool := true
  deriving DecidableEq, Repr

/-- A meter (R145): the peak and mean square, in the format of the value delivered (`bus` Q15.48, else Q0.31). -/
structure Meter where
  pk : Nat := 0
  ms : Nat := 0
  bus : Bool := false
  deriving DecidableEq, Repr

/-- A queued edit (R131, R132): a card edit or a coefficient edit of a store entry. -/
structure Edit where
  card : Bool := false
  dom : Nat := 0
  pos : Nat := 0
  entry : Nat := 0
  val : Nat := 0
  held : Bool := false
  due : Nat := 0
  deriving DecidableEq, Repr

/-- A pass in progress (R123, R124): its sample, the courses not yet run, the meters to update at its end, and the
buses whose saturation it has reported (R118). -/
structure Pass where
  active : Bool := false
  sample : Nat := 0
  course : Nat := 0
  meters : List (Nat × Nat × Nat × Nat) := []
  ovf : List Nat := []
  /-- Bus lanes that a card of this pass has written (R118). -/
  wrote : List Nat := []
  deriving DecidableEq, Repr

/-- A delay line (R139, R140). `hold` lists the words (index, word) held in the basin until the end of the block in
which they were written; `last` is the last word; `since` is the least index at which it holds a word: below it, and
everywhere with `none`, the line holds 0 (R77, R139, R233); `fetched` is the block whose words the last fetch brought,
plus 1 (R140). -/
structure Line where
  hold : List (Nat × Int) := []
  last : Int := 0
  since : Option Nat := none
  fetched : Nat := 0
  deriving DecidableEq, Repr

/-- A layout and running bank of one store (R127). -/
structure BankState where
  wide : Bool := false
  bank : Nat := 0
  deriving DecidableEq, Repr

/-- What the passes of domain X for samples before `upTick` still see after a commit or an edit (R74, R132): the draft, the
deck, and the coefficients with their layout; and the slots and meters that the first pass after them initialises. -/
structure XView where
  upTick : Nat := 0
  draft : Option Draft := none
  cards : List (BitVec 128) := []
  coefs : Tab (BitVec 32) := []
  bank : BankState := {}
  fresh : List Nat := []
  meters : List Nat := []
  deriving DecidableEq, Repr

/-- The loom. -/
structure Loom where
  /-- Stopped by R467, and not yet restarted by R468. -/
  stopped : Bool := false
  cardBank : BankState := {}
  coefBank : BankState := {}
  /-- Deck of domain 0 F, 1 B, 2 X: (base entry, cards). -/
  decks : Tab (Nat × Nat) := []
  cards : Tab (BitVec 128) := []
  /-- The coefficient store, by entry. -/
  coefs : Tab (BitVec 32) := []
  /-- What earlier passes of domain X still see, oldest first (R74, R132). -/
  xOld : List XView := []
  /-- The lane store (R122): of each lane the words of its last samples, newest first. The two copies of R122 are the words
  of the two newest samples; older ones serve reads across F and B (R97, R98). -/
  lanes : Tab (List (Nat × BitVec 64)) := []
  /-- The previous output word of each DLY card, keyed by domain, DST and LINE (R141). -/
  dlyOut : Tab Int := []
  /-- Words that output blocks have fetched: lane to (sample, word), newest first (R31). -/
  sent : Tab (List (Nat × Int)) := []
  /-- The sample index of the last pass that ended in each domain, plus 1 (R26). -/
  ended : Tab Nat := []
  /-- Bus accumulators, Q31.48 (R116). -/
  acc : Tab Int := []
  slots : Tab Slot := []
  meters : Tab Meter := []
  edits : List Edit := []
  /-- Queue entries reserved by an armed commit (R134). -/
  resv : Nat := 0
  passes : Tab Pass := []
  lines : Tab Line := []
  /-- For each domain: the last block with an overrun, and how many consecutive blocks had one (R500). -/
  overruns : Tab (Nat × Nat) := []
  /-- X sample ticks so far (R94). -/
  xTick : Nat := 0
  /-- The tick count of the 500 MHz clock at the last X tick (R94, R361), and the stamps of the last four X ticks on that
  clock in 125 ps, newest first (R102). -/
  xAt : Nat := 0
  xStamps : List Nat := []
  /-- The blocks of the last two X ticks, newest first (R406). -/
  xBlk : Nat := 0
  xBlkPrev : Nat := 0
  /-- The X source has stopped (R96). -/
  xStopped : Bool := false
  deriving DecidableEq, Repr

/-- The states of a sluice (R106). -/
inductive SluiceState where
  | off
  | acquire
  | locked
  | hold
  | range
  deriving DecidableEq, Repr

/-- A sluice (R101 to R109). `ramp` counts samples of the ramp-in done (32: full gain); `fade` counts samples of a
fade still to come; `valid` is the last valid reconstruction. -/
structure Sluice where
  src : Nat := 0
  dst : Nat := 0
  filt : Nat := 0
  bw : Nat := 0
  st : SluiceState := .off
  ratio : Nat := 0
  phase : Int := 0
  ramp : Nat := 0
  fade : Nat := 0
  valid : Int := 0
  fadeFrom : Int := 0
  resync : Bool := false
  /-- Destination ticks have stopped; the next one enters ACQUIRE (R106). -/
  dstStopped : Bool := false
  /-- Recent source words with the stamps of their input instants, newest first: the converter's input (R103, R104). -/
  hist : List (Nat × Int) := []
  /-- Stamps of the last two destination ticks, newest first, and of entry to the present state, all on the 500 MHz clock
  in 125 ps (R102). -/
  stamps : List Nat := []
  since : Nat := 0
  deriving DecidableEq, Repr

end Sys2Proof.Machine
end

