-- ==== Sys2Proof/Machine/Parts/Net.lean ====
section
/-! DEFINITION. The pieces of state of the Ethernet ports, the forwarding block and the flow engine
(spec/09_media_ports.md, spec/10_flows.md). Ports: 0 to 3 are M0 to M3, 4 is C0, 5 is T0. -/

namespace Sys2Proof.Machine

/-- A frame in a receive queue (R257): its bytes without FCS, arrival port, receive stamp, and the instant of the tick
generator at which its FCS was verified. `clk` is its arrival on the 500 MHz clock, in 125 ps (R299), `tick` the tick of that clock
at which its FCS was verified. `reading` when its consumer has begun to read it (R259). -/
structure RxFrame where
  port : Nat := 0
  bytes : Bytes := []
  stamp : Nat := 0
  checked : Nat := 0
  clk : Nat := 0
  tick : Nat := 0
  reading : Bool := false
  deriving DecidableEq, Repr

/-- A frame in a transmit queue: its bytes without FCS. `host` names the ring and entry of a host frame (R426), `present` the
bytes present when it is not whole; `rx` the ingress port and stamp of a forwarded frame, for its residence time. -/
structure TxFrame where
  bytes : Bytes := []
  present : Nat := 0
  whole : Bool := true
  host : Option (Nat × Nat) := none
  stampReq : Bool := false
  rx : Option (Nat × Nat) := none
  deriving DecidableEq, Repr

/-- A cut-through copy under way (R265, R266): its egress port, the egress stamp, and the residence time in 125 ps
units. -/
structure CutCopy where
  egress : Nat := 0
  stamp : Nat := 0
  residence : Int := 0
  deriving DecidableEq, Repr

/-- What T0 is doing (R278). -/
inductive FbsPhase where
  | idle
  | deferring
  | sending
  | backoff
  deriving DecidableEq, Repr

/-- A port. -/
structure Port where
  link : Bool := false
  /-- Receive queues. -/
  rx : Tab (List RxFrame) := []
  /-- Transmit queues. -/
  tx : Tab (List TxFrame) := []
  /-- A host frame that has started and is not yet whole, with its transmit stamp (R263). -/
  cur : Option (TxFrame × Nat) := none
  /-- Cut-through copies of the frame arriving at this port. -/
  cuts : List CutCopy := []
  /-- The ports that the lookup of the frame arriving at this port gave, once it has started (R269). -/
  look : Option (List Nat) := none
  /-- T0 only: phase, attempt, whether the frame has been counted in DEFERRED, the back-off in slots, and the instant, in ns of
  the time clock, at which the phase's wait or the transmission began. -/
  phase : FbsPhase := .idle
  attempt : Nat := 0
  deferred : Bool := false
  slots : Nat := 0
  since : Nat := 0
  deriving DecidableEq, Repr

/-- An entry of the forwarding table (R265, R268). -/
structure FwdEntry where
  valid : Bool := false
  static : Bool := false
  hit : Bool := false
  vid : Nat := 0
  /-- The MAC address, byte 0 in [47:40] as in the key K. -/
  mac : Nat := 0
  ports : Nat := 0
  deriving DecidableEq, Repr

/-- The recovered media clock of an X source (R299): at the stamp `stamp` it stood at `pos`, in 2^-32 samples of RTP time less
FLW_RX_OFS; it runs at `rate`, in 2^-16 samples a second; `shown` is the last instant presented. -/
structure XClk where
  stamp : Nat := 0
  pos : Nat := 0
  rate : Nat := 0
  shown : Nat := 0
  deriving DecidableEq, Repr

/-- A receive skein (R290 to R299). `st`: 0 OFF, 1 WAIT, 2 RUN, 3 GAP. -/
structure RxSkein where
  st : Nat := 0
  ssrc : Option Nat := none
  /-- The jitter buffer: the presentation tick of a sample and the words of its lanes. -/
  buf : List (Nat × List Int) := []
  /-- First copies, newest first: RTP timestamp, length and CRC-32C (R295). -/
  seen : List (Nat × Nat × Nat) := []
  /-- Instants, in 125 ps units, of the last valid packet of each path, and whether the path is UP (R296). -/
  aAt : Nat := 0
  bAt : Nat := 0
  aUp : Bool := false
  bUp : Bool := false
  /-- Ramp samples done (32: full gain), fade samples to come, and the last words delivered. -/
  ramp : Nat := 0
  fade : Nat := 0
  last : List Int := []
  fadeFrom : List Int := []
  spill : Bool := false
  /-- The blocks of a spilled buffer whose words the window holds, newest first (R300, R301). -/
  window : List Nat := []
  /-- The recovered media clock of an X source, once a first packet has set its phase (R299). -/
  xClk : Option XClk := none
  deriving DecidableEq, Repr

/-- A transmit skein (R285 to R289). -/
structure TxSkein where
  run : Bool := false
  seq : Nat := 0
  rtp : Nat := 0
  /-- The tick after the release of its last packet: packets leave in order of their ticks (R286). -/
  next : Nat := 0
  /-- The instants at which firmware last asked for each path's next hop (R287). -/
  askA : Option Nat := none
  askB : Option Nat := none
  /-- The next hops that firmware has resolved for a unicast path (R287), as MAC addresses in wire order. -/
  hopA : Option Bytes := none
  hopB : Option Bytes := none
  deriving DecidableEq, Repr

/-- The network blocks. -/
structure Net where
  ports : Tab Port := []
  /-- The forwarding table, by entry index. -/
  fwd : Tab FwdEntry := []
  rxs : Tab RxSkein := []
  txs : Tab TxSkein := []
  /-- An operation on the forwarding table in progress: OP and INDEX (R269). -/
  tbl : Option (Nat × Nat) := none
  /-- The tick of the time clock at which the back-off LFSR stood at the word of FBS_SEED (R278, R280). -/
  seedAt : Nat := 0
  /-- An MDIO frame in progress (R513). -/
  mdio : Bool := false
  deriving DecidableEq, Repr

end Sys2Proof.Machine
end

