-- ==== Sys2Proof/Machine/Parts/Pair.lean ====
section
/-! DEFINITION. The pieces of state of the PAR block (spec/15_pairing.md). -/

namespace Sys2Proof.Machine

/-- A reliable frame that has been sent on a lane and not yet acknowledged (R396). -/
structure GwFrame where
  seq : Nat := 0
  type : Nat := 0
  payload : Bytes := []
  /-- When it last left, in ns of the power clock (R396). -/
  sentAt : Nat := 0
  deriving DecidableEq, Repr

/-- A Gweast lane (R390, R396): whether it is UP, the SEQ of the next reliable frame to send, the SEQ of the last
reliable frame received in order, the unacknowledged frames, oldest first, and the resends in a row without progress. -/
structure GwLane where
  up : Bool := false
  txSeq : Nat := 1
  rxSeq : Nat := 0
  unacked : List GwFrame := []
  resends : Nat := 0
  deriving DecidableEq, Repr

/-- The digests of one block (R406 to R408): the block, FAULT, and DIG of each ply (0 where unlisted). -/
structure Digests where
  blk : Nat := 0
  fault : Bool := false
  digs : Tab Nat := []
  deriving DecidableEq, Repr

/-- What the last frames of the twin said (R393, R394). -/
structure Twin where
  seen : Bool := false
  serial : Nat := 0
  role : Nat := 0
  ready : Bool := false
  side : Bool := false
  level : Nat := 15
  wlh : Nat := 0
  fmap : Nat := 0
  lease : Nat := 0
  digests : List Digests := []
  /-- TX stamp of the twin's last SYNC and this unit's receive stamp of it, in 125 ps units. -/
  syncTx : Nat := 0
  syncRx : Nat := 0
  deriving DecidableEq, Repr

/-- The PAR block. `st`: 0 OFF, 1 WAIT, 2 HOLDER, 3 SOLO, 4 STANDBY, 5 FENCED (R401). -/
structure Par where
  st : Nat := 0
  lanes : Tab GwLane := []
  /-- E and G of R397. -/
  e : Nat := 0
  g : Nat := 0
  /-- A GRANT has been received, or sent, since the state was entered. -/
  gotGrant : Bool := false
  sentGrant : Bool := false
  /-- F of this unit's own RESIGN, and of a RESIGN received. -/
  resign : Option Nat := none
  twinResign : Option Nat := none
  takeReq : Bool := false
  /-- Level of GW_PEER, and the block tick since which it has been low. -/
  peer : Bool := false
  peerLow : Nat := 0
  /-- The instant, in 2^-32 ns, since which the link has been DOWN in WAIT. -/
  downAt : Nat := 0
  twin : Twin := {}
  /-- Running CRCs of output plies: block to ply to CRC register (R406). -/
  running : Tab (Tab Nat) := []
  /-- This unit's digests, newest first. -/
  sent : List Digests := []
  /-- The block and outcome of the last verdict, for R408's block b - 1. -/
  splitSeen : Bool := false
  sideSeen : Bool := false
  /-- A paired commit proposed and not yet answered: N (R410). -/
  proposed : Option Nat := none
  /-- A paired commit agreed: the twin's DECIDE, when it has come (R411). -/
  agreed : Bool := false
  twinGo : Option Bool := none
  decided : Bool := false
  /-- Mirror records as last sent, with the block (R409), keyed 256 KIND + INDEX; and group memberships by port. -/
  mirror : Tab (Nat × Bytes) := []
  groups : Tab Nat := []
  /-- The block of the last block tick at which the state machine ran (R401). -/
  tickAt : Option Nat := none
  deriving DecidableEq, Repr

end Sys2Proof.Machine
end

