-- ==== Sys2Proof/Machine/Parts/Rill.lean ====
section
/-! DEFINITION. The pieces of state of the rills (spec/13_rills.md). -/

namespace Sys2Proof.Machine

/-- A frame's words on their way to the lanes: the tick at which the rill hands them over, and the mask that maps them
(R361, R368). -/
structure RillWord where
  tick : Nat := 0
  left : Int := 0
  right : Int := 0
  mask : Nat := 0xFFFF
  deriving DecidableEq, Repr

/-- A rill (R355 to R368). `st` is 0 OFF, 1 SEEK, 2 RUN, 3 LOST, 4 HELD. Levels count 32nds of a ramp or fade (R105). -/
structure Rill where
  st : Nat := 0
  role : Nat := 2
  fmt : Nat := 0
  word : Nat := 16
  frame : Nat := 32
  rate : Nat := 0
  dom : Nat := 0
  /-- Consecutive good frames in SEEK, and off-rate frames in RUN. -/
  good : Nat := 0
  off : Nat := 0
  /-- The stamp of the last frame-start edge, in 125 ps of the tick count (R360). -/
  edge : Option Nat := none
  /-- The last 16 WS periods, newest first (RIL_PERIOD). -/
  periods : List Nat := []
  /-- The mask that maps the frame in progress (R368). -/
  mask : Nat := 0xFFFF
  /-- The elastic store of the input, the tick of the next word in it, and the sample of the next output word. -/
  store : List RillWord := []
  inNext : Nat := 0
  outNext : Nat := 0
  inLvl : Nat := 0
  outLvl : Nat := 0
  inSlip : Bool := false
  outSlip : Bool := false
  /-- The last words received and handed over, the last words sent. -/
  last : RillWord := {}
  handed : Nat := 0
  outLeft : Int := 0
  outRight : Int := 0
  /-- The bit of the last frame's word that DO still owes: in format 0 a word of FRAME/2 bits ends one BCK period late (R355). -/
  carry : Bool := false
  /-- The stamp of the last WS edge that starts a right half-frame (R360). -/
  mid : Option Nat := none
  /-- A master's accumulator of FRAC; the stamp of its first frame-start edge, and the audio-master periods since (R358). -/
  acc : Nat := 0
  base : Nat := 0
  am : Nat := 0
  /-- w and w' at the last frame, in 1/64 sample. -/
  wIn : Nat := 0
  wOut : Nat := 0
  deriving DecidableEq, Repr

/-- The rills: the rills, the hanks whose written mask awaits its edge, and the mute fades of their lanes (R365). -/
structure Ril where
  rills : Tab Rill := []
  pend : List Nat := []
  fades : Tab Nat := []
  deriving DecidableEq, Repr

end Sys2Proof.Machine
end

