-- ==== Sys2Proof/Machine/Parts/Time.lean ====
section
/-! DEFINITION. The pieces of state of the time unit and the wellhead (spec/11_network_time.md,
spec/12_wellhead.md). A stamp is a count of 125 ps units of TSU time (R312). -/

namespace Sys2Proof.Machine

/-- An entry of the TXS FIFO (R316). -/
structure Txs where
  port : Nat := 0
  type : Nat := 0
  seq : Nat := 0
  stamp : Nat := 0
  deriving DecidableEq, Repr

/-- A spout (R319): the values its arming captured, in 2^-32 ns, the next edge, and its level. -/
structure Spout where
  armed : Bool := false
  start : Nat := 0
  period : Nat := 0
  /-- WIDTH, in units of 64 ns. -/
  width : Nat := 0
  /-- Index k of the next leading edge. -/
  k : Nat := 0
  /-- The trailing edge of the pulse in progress, on the 500 MHz clock in 125 ps (R319). -/
  trail : Option Nat := none
  /-- The spout is disarmed when that pulse ends: it fires once, or EN was written 0. -/
  ending : Bool := false
  level : Bool := false
  deriving DecidableEq, Repr

/-- A capture input (R322): the FIFO, oldest first, of (stamp, falling edge), and the last edge, on the
500 MHz clock in 125 ps. -/
structure Cap where
  fifo : List (Nat × Bool) := []
  last : Option Nat := none
  deriving DecidableEq, Repr

/-- A window (R323): its open and close in 125 ps units while armed, and whether a stamp was inside. -/
structure Win where
  armed : Bool := false
  opn : Nat := 0
  cls : Nat := 0
  inside : Bool := false
  deriving DecidableEq, Repr

/-- The time unit. TSU time is `sec`, `ns` and `frac` (2^-32 ns) (R304). -/
structure Tsu where
  sec : Nat := 0
  ns : Nat := 0
  frac : Nat := 0
  /-- The increment in force, in 2^-32 ns a tick (R305). -/
  incr : Nat := 0x200000000
  /-- An increment that applies at the next tick. -/
  incrNext : Option Nat := none
  /-- The signed addition of the slew in progress, and its ticks left (R306). -/
  slewFrac : Int := 0
  slewCnt : Nat := 0
  /-- A pending step in ns, and the tick count at which it applies (R310). -/
  step : Option (Int × Nat) := none
  /-- R_a, in 2^-32 ns: TSU time less the time the tick generator stands at (R311). -/
  rem : Int := 0
  realign : Bool := false
  /-- The tick count (R309). -/
  ticks : Nat := 0
  /-- The last runs of ticks of one increment, newest first: the tick each began at, TSU time at it, and the increment in 2^-32 ns;
  a stamp of an event that lies back in time is taken from them (R312). -/
  segs : List (Nat × Int × Int) := []
  txs : List Txs := []
  spouts : Tab Spout := []
  caps : Tab Cap := []
  wins : Tab Win := []
  deriving DecidableEq, Repr

/-- A wellhead candidate (R329, R338, R341). Offsets are Q16.16 ppb; `hist` holds one measurement a second, newest
first. -/
structure Cand where
  st : Nat := 1
  present : Bool := false
  /-- The family the candidate carries, 0 48 kHz or 1 44.1 kHz; none for a family-neutral one or none measured. -/
  fam : Option Nat := none
  level : Nat := 15
  stale : Bool := true
  hist : List Int := []
  /-- y1, y16 and y256 of the last update (R338). -/
  y1 : Int := 0
  y16 : Int := 0
  y256 : Int := 0
  /-- Consecutive updates of the condition its state waits for. -/
  dur : Nat := 0
  disagree : Bool := false
  deriving DecidableEq, Repr

/-- A quality input (R333, R334). -/
structure Ql where
  good : Nat := 0
  prevLevel : Nat := 15
  lastLevel : Nat := 15
  seq : Nat := 0
  flags : Nat := 8
  badCode : Nat := 0
  stale : Bool := true
  deriving DecidableEq, Repr

/-- Values of OFFSET and DIV of a word-clock output, and when they were written: the TSU time and the tick count, both in
125 ps units (R353). -/
structure WckoSet where
  tsu : Nat := 0
  clk : Nat := 0
  ofs : Int := 0
  div : Nat := 0
  deriving DecidableEq, Repr

/-- A word-clock output (R352, R353). -/
structure Wcko where
  /-- Source events since EN was set. -/
  events : Nat := 0
  /-- Whether its input source is lost. -/
  idle : Bool := false
  /-- Tick-count stamps of the last 16 edges of its input source, newest first, in 125 ps units. -/
  stamps : List Nat := []
  /-- The event, from the first after EN was set, up to which output edges have been placed. -/
  reach : Option Int := none
  /-- OFFSET and DIV as written, newest first; the last entry is the oldest that an edge still falls under. -/
  sets : List WckoSet := []
  level : Bool := false
  deriving DecidableEq, Repr

/-- The wellhead. `st`: 0 FREERUN, 1 LOCKING, 2 LOCKED, 3 HOLDOVER (R346). `y` is y_out, Q16.16 ppb. -/
structure Wlh where
  st : Nat := 0
  sel : Option Nat := none
  /-- The candidate the DPLL follows, or followed last, and |y16 - y256| of it (R346, R349). -/
  cur : Option Nat := none
  selU : Nat := 0
  family : Nat := 0
  y : Int := 0
  /-- y_out of the last 18 s, one entry a millisecond, newest first (R348). -/
  yHist : List Int := []
  lockMs : Nat := 0
  everLocked : Bool := false
  /-- e_XO, Q16.16 ppb, and whether its first update has been made (R339). -/
  eXo : Int := 0
  eXoSet : Bool := false
  xoLost : Bool := false
  pllLock : Bool := false
  /-- A PLL lost lock and its mute is not yet released (R351). -/
  unlockMute : Bool := false
  holdK : Nat := 0
  /-- E and u, in units of 2^-16 / 864,000 ns (R349): exact for Q16.16 rates. -/
  holdE : Nat := 0
  holdU : Nat := 0
  holdT0 : Int := 0
  /-- The mean of y_out at which HOLDOVER holds it (R348). -/
  holdY : Int := 0
  holdExpired : Bool := false
  disagree : Bool := false
  cands : Tab Cand := []
  qls : Tab Ql := []
  wckos : Tab Wcko := []
  /-- A family switch is in progress: the audio master relocks (R92). -/
  famSwitch : Bool := false
  /-- Seconds of the 256 s window throughout which the wellhead was LOCKED to one candidate of level 6 or better. -/
  estSecs : Nat := 0
  /-- A window of R339 is in progress: that condition has held ever since the 1 s update that began it. -/
  estOn : Bool := false
  deriving DecidableEq, Repr

end Sys2Proof.Machine
end

