-- ==== Sys2Proof/Machine/RegMap.lean ====
section
/-! DEFINITION. The register map: one row per register of the LF2048, taken from the register tables of spec/,
with the reset value and one mask per access type of R7 (a bit in no mask is read only or reserved), and the
block of each page of register space (R27). -/

namespace Sys2Proof.Machine

/-- The weft blocks that own a register page (R14). -/
inductive Blk where
  | sys
  | pwr
  | mtx
  | bsn
  | spn
  | lom
  | crl
  | slu
  | cst
  | net
  | fwd
  | flw
  | tsu
  | wlh
  | ril
  | jet
  | sns
  | ctl
  | fbs
  | hst
  | mbx
  | par
  deriving DecidableEq, Repr

/-- One register of a block, or one array of registers: `dims` lists (count, stride) of each index, the widest
stride first. The masks say which bits have which access type (R7). -/
structure RegRow where
  off : Nat
  dims : List (Nat × Nat)
  reset : Nat
  rw : Nat
  w1c : Nat
  w1s : Nat
  rc : Nat
  wo : Nat
  rws : Nat
  deriving DecidableEq, Repr

/-- The block that a 64 KiB page of register space holds, with its instance (R27). -/
def pageBlk (page : Nat) : Option (Blk × Nat) :=
  if page = 0x0 then some (.sys, 0)
  else if page = 0x1 then some (.pwr, 0)
  else if page = 0x2 then some (.mtx, 0)
  else if page = 0x3 then some (.bsn, 0)
  else if 0x10 ≤ page ∧ page < 0x18 then some (.spn, page - 0x10)
  else if page = 0x20 then some (.lom, 0)
  else if page = 0x21 then some (.crl, 0)
  else if page = 0x22 then some (.slu, 0)
  else if page = 0x30 then some (.cst, 0)
  else if 0x40 ≤ page ∧ page < 0x44 then some (.net, page - 0x40)
  else if page = 0x44 then some (.fwd, 0)
  else if page = 0x45 then some (.flw, 0)
  else if page = 0x50 then some (.tsu, 0)
  else if page = 0x51 then some (.wlh, 0)
  else if page = 0x60 then some (.ril, 0)
  else if page = 0x61 then some (.jet, 0)
  else if page = 0x62 then some (.sns, 0)
  else if page = 0x70 then some (.ctl, 0)
  else if page = 0x71 then some (.fbs, 0)
  else if page = 0x72 then some (.hst, 0)
  else if page = 0x73 then some (.mbx, 0)
  else if page = 0x80 then some (.par, 0)
  else none

/-- The base, in register space, of instance `i` of a block's page (R27). -/
def blkBase : Blk → Nat → Nat
  | .sys, _ => 0x0
  | .pwr, _ => 0x10000
  | .mtx, _ => 0x20000
  | .bsn, _ => 0x30000
  | .spn, i => 0x100000 + 0x10000 * i
  | .lom, _ => 0x200000
  | .crl, _ => 0x210000
  | .slu, _ => 0x220000
  | .cst, _ => 0x300000
  | .net, i => 0x400000 + 0x10000 * i
  | .fwd, _ => 0x440000
  | .flw, _ => 0x450000
  | .tsu, _ => 0x500000
  | .wlh, _ => 0x510000
  | .ril, _ => 0x600000
  | .jet, _ => 0x610000
  | .sns, _ => 0x620000
  | .ctl, _ => 0x700000
  | .fbs, _ => 0x710000
  | .hst, _ => 0x720000
  | .mbx, _ => 0x730000
  | .par, _ => 0x800000

/-- Registers of SYS (17_matrix_basins.md, R457), part 1. -/
def rowsSys1 : List RegRow := [
  ⟨0, [], 0x4c462048, 0, 0, 0, 0, 0, 0⟩,  -- SYS_ID
  ⟨0x4, [], 0xa1, 0, 0, 0, 0, 0, 0⟩,  -- SYS_REV
  ⟨0x8, [], 0, 0, 0, 0x1, 0, 0, 0⟩,  -- SYS_REMAP
  ⟨0x10, [], 0, 0, 0, 0, 0, 0, 0⟩,  -- SYS_SEM_HELD_LO
  ⟨0x14, [], 0, 0, 0, 0, 0, 0, 0⟩,  -- SYS_SEM_HELD_HI
  ⟨0x20, [], 0, 0, 0, 0, 0, 0x2, 0⟩,  -- SYS_FLT
  ⟨0x24, [], 0, 0, 0, 0, 0, 0, 0⟩,  -- SYS_FLT_BLK
  ⟨0x28, [], 0x3e8, 0xffff, 0, 0, 0, 0, 0xffff⟩,  -- SYS_GRACE
  ⟨0x2c, [], 0, 0, 0, 0, 0, 0, 0⟩,  -- SYS_FLT_INFO
  ⟨0x30, [], 0x100, 0x101, 0, 0, 0, 0, 0⟩,  -- SYS_FCTL
  ⟨0x34, [], 0, 0, 0, 0, 0, 0, 0⟩,  -- SYS_SEVER
  ⟨0x38, [], 0, 0, 0x3, 0, 0, 0, 0⟩,  -- SYS_INT
  ⟨0x3c, [], 0, 0x3, 0, 0, 0, 0, 0⟩,  -- SYS_INT_EN
  ⟨0x40, [], 0, 0, 0, 0, 0, 0xffffffff, 0⟩,  -- SYS_SEVER_CMD
  ⟨0x100, [], 0, 0, 0, 0, 0, 0xf, 0⟩,  -- SYS_DFT_CMD
  ⟨0x104, [], 0, 0, 0, 0, 0, 0, 0⟩,  -- SYS_DFT_STAT
  ⟨0x108, [], 0, 0, 0, 0, 0, 0, 0⟩,  -- SYS_DFT_ERR_TAG
  ⟨0x10c, [], 0, 0, 0, 0, 0, 0, 0⟩,  -- SYS_DFT_ERR_OFS
  ⟨0x110, [], 0, 0, 0, 0, 0, 0, 0⟩,  -- SYS_DFT_BUF_LO
  ⟨0x114, [], 0, 0, 0, 0, 0, 0, 0⟩,  -- SYS_DFT_BUF_HI
  ⟨0x118, [], 0, 0x1ffffff, 0, 0, 0, 0, 0⟩,  -- SYS_DFT_LEN
  ⟨0x11c, [], 0, 0xffffffff, 0, 0, 0, 0, 0⟩,  -- SYS_DFT_CBLK_LO
  ⟨0x120, [], 0, 0xffffffff, 0, 0, 0, 0, 0⟩,  -- SYS_DFT_CBLK_HI
  ⟨0x124, [], 0, 0, 0, 0, 0, 0, 0⟩]  -- SYS_DFT_PREP

/-- Registers of SYS (02_draft.md, R67), part 2. -/
def rowsSys2 : List RegRow := [
  ⟨0x128, [], 0, 0, 0, 0, 0, 0, 0⟩,  -- SYS_DFT_SER_LO
  ⟨0x12c, [], 0, 0, 0, 0, 0, 0, 0⟩,  -- SYS_DFT_SER_HI
  ⟨0x130, [], 0, 0, 0, 0, 0, 0, 0⟩,  -- SYS_BLK_LO
  ⟨0x134, [], 0, 0, 0, 0, 0, 0, 0⟩,  -- SYS_BLK_HI
  ⟨0x138, [], 0, 0, 0x7f, 0, 0, 0, 0⟩,  -- SYS_DFT_INT
  ⟨0x13c, [], 0, 0x7f, 0, 0, 0, 0, 0⟩,  -- SYS_DFT_INT_EN
  ⟨0x200, [(64, 0x4)], 0, 0x80000000, 0, 0, 0, 0, 0⟩]  -- SYS_SEM

/-- Registers of PWR (18_power_boot.md, R484), part 1. -/
def rowsPwr1 : List RegRow := [
  ⟨0, [], 0x25, 0, 0, 0, 0, 0, 0⟩,  -- PWR_MODE
  ⟨0x4, [], 0, 0, 0, 0, 0, 0xf, 0⟩,  -- PWR_CMD
  ⟨0x8, [], 0, 0, 0x3f, 0, 0, 0, 0⟩,  -- PWR_INT
  ⟨0xc, [], 0, 0x3f, 0, 0, 0, 0, 0⟩,  -- PWR_INT_EN
  ⟨0x10, [], 0, 0, 0, 0, 0, 0x2, 0⟩,  -- PWR_FLT
  ⟨0x14, [], 0, 0, 0, 0, 0, 0, 0⟩,  -- PWR_FLT_BLK
  ⟨0x18, [], 0x3e8, 0xffff, 0, 0, 0, 0, 0xffff⟩,  -- PWR_GRACE
  ⟨0x20, [], 0x1, 0, 0, 0, 0, 0, 0⟩,  -- PWR_DOM_ON
  ⟨0x24, [], 0, 0, 0, 0, 0, 0, 0⟩,  -- PWR_DOM_PEND
  ⟨0x28, [], 0x1f4, 0xffff, 0, 0, 0, 0, 0xffff⟩,  -- PWR_WAKE_BUDGET
  ⟨0x2c, [], 0, 0, 0, 0, 0xffff, 0, 0⟩,  -- PWR_WAKE_DEFER
  ⟨0x30, [], 0xf, 0xff0f, 0, 0, 0, 0, 0xff0f⟩,  -- PWR_WAKE_EN
  ⟨0x34, [], 0, 0, 0xff0f, 0, 0, 0, 0⟩,  -- PWR_WAKE_SRC
  ⟨0x38, [], 0x1, 0x1, 0, 0, 0, 0, 0x1⟩,  -- PWR_WAKE_MODE
  ⟨0x3c, [], 0x1, 0, 0x1f, 0, 0, 0, 0⟩,  -- PWR_RST_CAUSE
  ⟨0x40, [], 0x1, 0, 0, 0, 0, 0, 0⟩,  -- PWR_AON_STAT
  ⟨0x44, [], 0, 0xffffffff, 0, 0, 0, 0, 0⟩,  -- PWR_AON_SEC_LO
  ⟨0x48, [], 0, 0xffffffff, 0, 0, 0, 0, 0⟩,  -- PWR_AON_SEC_HI
  ⟨0x4c, [], 0, 0xffffffff, 0, 0, 0, 0, 0⟩,  -- PWR_AON_SUB
  ⟨0x50, [], 0x3e8, 0x8000ffff, 0, 0, 0, 0, 0⟩,  -- PWR_WDOG
  ⟨0x54, [], 0, 0, 0, 0, 0, 0xffffffff, 0⟩,  -- PWR_WDOG_KICK
  ⟨0x58, [], 0, 0, 0, 0, 0, 0x3f, 0⟩,  -- PWR_BLK_RST
  ⟨0x5c, [], 0, 0, 0, 0, 0, 0, 0⟩,  -- PWR_BOOT
  ⟨0x60, [], 0, 0xffffffff, 0, 0, 0, 0, 0⟩]  -- PWR_BOOT_LEN

/-- Registers of PWR (18_power_boot.md, R484), part 2. -/
def rowsPwr2 : List RegRow := [
  ⟨0x64, [], 0, 0, 0, 0, 0, 0xffffffff, 0⟩,  -- PWR_BOOT_GO
  ⟨0x68, [], 0, 0xffff0001, 0, 0, 0, 0, 0xffff0001⟩,  -- PWR_CTRL
  ⟨0x6c, [], 0, 0xfffff, 0, 0, 0, 0, 0⟩]  -- PWR_CG_DIS

/-- Registers of MTX (17_matrix_basins.md, R457), part 1. -/
def rowsMtx1 : List RegRow := [
  ⟨0, [], 0, 0, 0x3f, 0, 0, 0, 0⟩,  -- MTX_INT
  ⟨0x4, [], 0, 0x3f, 0, 0, 0, 0, 0⟩,  -- MTX_INT_EN
  ⟨0x8, [], 0, 0, 0, 0, 0, 0x2, 0⟩,  -- MTX_FLT
  ⟨0xc, [], 0, 0, 0, 0, 0, 0, 0⟩,  -- MTX_FLT_BLK
  ⟨0x10, [], 0x3e8, 0xffff, 0, 0, 0, 0, 0xffff⟩,  -- MTX_GRACE
  ⟨0x20, [], 0, 0, 0, 0, 0, 0, 0⟩,  -- MTX_ERR_ADDR_LO
  ⟨0x24, [], 0, 0, 0, 0, 0, 0, 0⟩,  -- MTX_ERR_ADDR_HI
  ⟨0x28, [], 0, 0, 0, 0, 0, 0, 0⟩,  -- MTX_ERR_INFO
  ⟨0x2c, [], 0, 0, 0, 0, 0xffffffff, 0, 0⟩]  -- MTX_CNT

/-- Registers of BSN (17_matrix_basins.md, R457), part 1. -/
def rowsBsn1 : List RegRow := [
  ⟨0, [], 0, 0, 0x7, 0, 0, 0, 0⟩,  -- BSN_INT
  ⟨0x4, [], 0, 0x7, 0, 0, 0, 0, 0⟩,  -- BSN_INT_EN
  ⟨0x8, [], 0, 0, 0, 0, 0, 0x2, 0⟩,  -- BSN_FLT
  ⟨0xc, [], 0, 0, 0, 0, 0, 0, 0⟩,  -- BSN_FLT_BLK
  ⟨0x10, [], 0x3e8, 0xffff, 0, 0, 0, 0, 0xffff⟩,  -- BSN_GRACE
  ⟨0x14, [], 0, 0x1ff, 0, 0, 0, 0, 0⟩,  -- BSN_TEST
  ⟨0x100, [(8, 0x8)], 0, 0, 0, 0, 0xffffffff, 0, 0⟩,  -- BSN_ECC_CNT
  ⟨0x104, [(8, 0x8)], 0, 0, 0, 0, 0, 0, 0⟩]  -- BSN_ECC_ADDR

/-- Registers of SPN (05_spindle_core.md, R170), part 1. -/
def rowsSpn1 : List RegRow := [
  ⟨0, [], 0, 0, 0, 0, 0, 0, 0⟩,  -- SPN_BSTAT
  ⟨0x4, [], 0, 0, 0xff, 0, 0, 0, 0⟩,  -- SPN_INT
  ⟨0x8, [], 0, 0xff, 0, 0, 0, 0, 0⟩,  -- SPN_INT_EN
  ⟨0xc, [], 0, 0, 0, 0, 0, 0x2, 0⟩,  -- SPN_FLT
  ⟨0x10, [], 0, 0, 0, 0, 0, 0, 0⟩,  -- SPN_FLT_BLK
  ⟨0x14, [], 0x3e8, 0xffff, 0, 0, 0, 0, 0xffff⟩,  -- SPN_GRACE
  ⟨0x18, [], 0, 0, 0, 0, 0xffffffff, 0, 0⟩,  -- SPN_ECC_CNT
  ⟨0x8000, [(8, 0x1000)], 0, 0x3, 0, 0, 0, 0, 0⟩,  -- SPN_SCTRL
  ⟨0x8004, [(8, 0x1000)], 0, 0, 0, 0, 0, 0, 0⟩,  -- SPN_SSTAT
  ⟨0x8008, [(8, 0x1000)], 0, 0xfffff, 0, 0, 0, 0, 0⟩,  -- SPN_RL_PTR
  ⟨0x800c, [(8, 0x1000)], 0, 0xfffff, 0, 0, 0, 0, 0⟩,  -- SPN_RL_NXT
  ⟨0x8010, [(8, 0x1000)], 0, 0xffffffff, 0, 0, 0, 0, 0⟩,  -- SPN_RL_AT_LO
  ⟨0x8014, [(8, 0x1000)], 0, 0xffffffff, 0, 0, 0, 0, 0⟩,  -- SPN_RL_AT_HI
  ⟨0x8018, [(8, 0x1000)], 0, 0, 0, 0, 0, 0, 0⟩,  -- SPN_PC
  ⟨0x801c, [(8, 0x1000)], 0, 0, 0, 0, 0, 0, 0⟩,  -- SPN_CYC_LAST
  ⟨0x8020, [(8, 0x1000)], 0, 0, 0, 0, 0x1ffff, 0, 0⟩,  -- SPN_CYC_MAX
  ⟨0x8024, [(8, 0x1000)], 0, 0, 0, 0, 0, 0, 0⟩,  -- SPN_FLT_INFO
  ⟨0x8028, [(8, 0x1000)], 0, 0, 0, 0, 0xffffffff, 0, 0⟩,  -- SPN_LATE_CNT
  ⟨0x8100, [(8, 0x1000), (32, 0x4)], 0, 0, 0, 0, 0, 0, 0⟩]  -- SPN_KCYC

/-- Registers of LOM (04_loom.md, R145), part 1. -/
def rowsLom1 : List RegRow := [
  ⟨0, [], 0, 0, 0, 0, 0, 0, 0⟩,  -- LOM_STAT
  ⟨0x4, [], 0, 0, 0x7f, 0, 0, 0, 0⟩,  -- LOM_INT
  ⟨0x8, [], 0, 0x7f, 0, 0, 0, 0, 0⟩,  -- LOM_INT_EN
  ⟨0x10, [], 0, 0, 0, 0, 0, 0, 0⟩,  -- LOM_DECK_F
  ⟨0x14, [], 0, 0, 0, 0, 0, 0, 0⟩,  -- LOM_DECK_B
  ⟨0x18, [], 0, 0, 0, 0, 0, 0, 0⟩,  -- LOM_DECK_X
  ⟨0x20, [], 0, 0, 0, 0, 0, 0, 0⟩,  -- LOM_SLOTS_F
  ⟨0x24, [], 0, 0, 0, 0, 0, 0, 0⟩,  -- LOM_SLOTS_B
  ⟨0x28, [], 0, 0, 0, 0, 0, 0, 0⟩,  -- LOM_SLOTS_X
  ⟨0x2c, [], 0, 0, 0, 0, 0, 0, 0⟩,  -- LOM_LOAD
  ⟨0x30, [], 0xffff, 0, 0, 0, 0x3ffff, 0, 0⟩,  -- LOM_SLACK
  ⟨0x34, [], 0, 0, 0, 0, 0xffff, 0, 0⟩,  -- LOM_OVR_CNT
  ⟨0x38, [], 0, 0, 0, 0, 0xffff, 0, 0⟩,  -- LOM_DLY_CNT
  ⟨0x3c, [], 0, 0, 0, 0, 0, 0, 0⟩,  -- LOM_BUSOVF
  ⟨0x40, [], 0, 0x7, 0, 0, 0, 0, 0⟩,  -- LOM_EDIT_CTRL
  ⟨0x44, [], 0, 0xffffffff, 0, 0, 0, 0, 0⟩,  -- LOM_EDIT_AT_LO
  ⟨0x48, [], 0, 0xffffffff, 0, 0, 0, 0, 0⟩,  -- LOM_EDIT_AT_HI
  ⟨0x4c, [], 0, 0, 0, 0, 0, 0, 0⟩,  -- LOM_EDIT_STAT
  ⟨0x50, [], 0, 0x3fff, 0, 0, 0, 0, 0⟩,  -- LOM_EDIT_CIDX
  ⟨0x54, [], 0, 0, 0, 0, 0, 0xffffffff, 0⟩,  -- LOM_EDIT_CVAL
  ⟨0x58, [], 0, 0x33fff, 0, 0, 0, 0, 0⟩,  -- LOM_EDIT_CPOS
  ⟨0x60, [], 0, 0xffffffff, 0, 0, 0, 0, 0⟩,  -- LOM_EDIT_CARD0
  ⟨0x64, [], 0, 0xffffffff, 0, 0, 0, 0, 0⟩,  -- LOM_EDIT_CARD1
  ⟨0x68, [], 0, 0xffffffff, 0, 0, 0, 0, 0⟩]  -- LOM_EDIT_CARD2

/-- Registers of LOM (04_loom.md, R145), part 2. -/
def rowsLom2 : List RegRow := [
  ⟨0x6c, [], 0, 0, 0, 0, 0, 0xffffffff, 0⟩,  -- LOM_EDIT_CARD3
  ⟨0x70, [], 0, 0, 0, 0, 0, 0x2, 0⟩,  -- LOM_FLT
  ⟨0x74, [], 0, 0, 0, 0, 0, 0, 0⟩,  -- LOM_FLT_BLK
  ⟨0x78, [], 0x3e8, 0xffff, 0, 0, 0, 0, 0xffff⟩,  -- LOM_GRACE
  ⟨0x80, [], 0xeef, 0xfff, 0, 0, 0, 0, 0⟩,  -- LOM_MTR_CFG
  ⟨0x4000, [(512, 0x8)], 0xffff8000, 0, 0, 0, 0xffff, 0, 0⟩,  -- LOM_MTR_PK
  ⟨0x4004, [(512, 0x8)], 0xffff8000, 0, 0, 0, 0, 0, 0⟩]  -- LOM_MTR_RMS

/-- Registers of CRL (07_creel_placement.md, R226), part 1. -/
def rowsCrl1 : List RegRow := [
  ⟨0, [], 0x2, 0, 0, 0, 0, 0, 0⟩,  -- CRL_STAT
  ⟨0x4, [], 0x40, 0xf1, 0, 0x2, 0, 0, 0⟩,  -- CRL_CTRL
  ⟨0x8, [], 0, 0, 0x7f, 0, 0, 0, 0⟩,  -- CRL_INT
  ⟨0xc, [], 0, 0x7f, 0, 0, 0, 0, 0⟩,  -- CRL_INT_EN
  ⟨0x10, [], 0, 0, 0, 0, 0, 0x2, 0⟩,  -- CRL_FLT
  ⟨0x14, [], 0, 0, 0, 0, 0, 0, 0⟩,  -- CRL_FLT_BLK
  ⟨0x18, [], 0x3e8, 0xffff, 0, 0, 0, 0, 0xffff⟩,  -- CRL_GRACE
  ⟨0x1c, [], 0, 0, 0, 0, 0, 0, 0⟩,  -- CRL_FLT_INFO
  ⟨0x20, [], 0, 0, 0, 0, 0, 0, 0⟩,  -- CRL_FMAP_LO
  ⟨0x24, [], 0, 0, 0, 0, 0, 0, 0⟩,  -- CRL_FMAP_HI
  ⟨0x28, [], 0, 0xffffffff, 0, 0, 0, 0, 0⟩,  -- CRL_FORCE_LO
  ⟨0x2c, [], 0, 0xffffffff, 0, 0, 0, 0, 0⟩,  -- CRL_FORCE_HI
  ⟨0x30, [], 0, 0, 0, 0xffffffff, 0, 0, 0⟩,  -- CRL_RETURN_LO
  ⟨0x34, [], 0, 0, 0, 0xffffffff, 0, 0, 0⟩,  -- CRL_RETURN_HI
  ⟨0x38, [], 0x10, 0xffff, 0, 0, 0, 0, 0⟩,  -- CRL_ECC_THR
  ⟨0x3c, [], 0x100840, 0xff0fff, 0, 0, 0, 0, 0⟩,  -- CRL_MIG_CFG
  ⟨0x40, [], 0, 0, 0, 0, 0xffffffff, 0, 0⟩,  -- CRL_MIG_CNT
  ⟨0x44, [], 0, 0, 0, 0, 0, 0, 0⟩,  -- CRL_MIG_LAST
  ⟨0x48, [], 0, 0, 0, 0, 0, 0, 0⟩,  -- CRL_BOB
  ⟨0x100, [(64, 0x4)], 0x3000000, 0, 0, 0, 0, 0, 0⟩,  -- CRL_LOAD
  ⟨0x200, [(64, 0x4)], 0, 0, 0, 0, 0, 0, 0⟩,  -- CRL_MEM
  ⟨0x300, [(64, 0x4)], 0, 0, 0, 0, 0, 0, 0⟩,  -- CRL_PROG
  ⟨0x400, [(8, 0x4)], 0xf8000, 0, 0, 0, 0, 0, 0⟩,  -- CRL_BSN_FREE
  ⟨0x2000, [(2048, 0x4)], 0, 0, 0, 0, 0, 0, 0⟩]  -- CRL_KMAP

/-- Registers of SLU (03_lanes_domains_sluices.md, R109), part 1. -/
def rowsSlu1 : List RegRow := [
  ⟨0, [], 0, 0, 0xf, 0, 0, 0, 0⟩,  -- SLU_INT
  ⟨0x4, [], 0, 0xf, 0, 0, 0, 0, 0⟩,  -- SLU_INT_EN
  ⟨0x10, [(8, 0x4)], 0, 0, 0, 0, 0, 0, 0⟩,  -- SLU_ACT
  ⟨0x30, [(8, 0x4)], 0, 0, 0, 0, 0, 0, 0⟩,  -- SLU_LOCKED
  ⟨0x50, [(8, 0x4)], 0, 0, 0, 0, 0, 0xffffffff, 0⟩,  -- SLU_RESYNC
  ⟨0x70, [], 0, 0, 0, 0, 0, 0x2, 0⟩,  -- SLU_FLT
  ⟨0x74, [], 0, 0, 0, 0, 0, 0, 0⟩,  -- SLU_FLT_BLK
  ⟨0x78, [], 0x3e8, 0xffff, 0, 0, 0, 0, 0xffff⟩,  -- SLU_GRACE
  ⟨0x1000, [(256, 0x10)], 0, 0, 0, 0, 0, 0, 0⟩,  -- SLU_CFG
  ⟨0x1004, [(256, 0x10)], 0, 0, 0, 0, 0, 0, 0⟩,  -- SLU_STAT
  ⟨0x1008, [(256, 0x10)], 0, 0, 0, 0, 0, 0, 0⟩,  -- SLU_RATIO
  ⟨0x100c, [(256, 0x10)], 0, 0, 0, 0, 0xffffffff, 0, 0⟩]  -- SLU_CNT

/-- Registers of CST (08_cistern.md, R250), part 1. -/
def rowsCst1 : List RegRow := [
  ⟨0, [], 0, 0xf, 0, 0, 0, 0, 0⟩,  -- CST_CFG
  ⟨0x4, [], 0, 0, 0, 0, 0, 0xf, 0⟩,  -- CST_CMD
  ⟨0x8, [], 0, 0, 0, 0, 0, 0, 0⟩,  -- CST_STAT
  ⟨0xc, [], 0, 0x3, 0, 0, 0, 0, 0⟩,  -- CST_FREQ
  ⟨0x10, [], 0, 0xffffffff, 0, 0, 0, 0, 0⟩,  -- CST_FCHG_AT_LO
  ⟨0x14, [], 0, 0xffffffff, 0, 0, 0, 0, 0⟩,  -- CST_FCHG_AT_HI
  ⟨0x18, [], 0, 0, 0, 0, 0, 0, 0⟩,  -- CST_BUDGET
  ⟨0x1c, [], 0, 0, 0, 0, 0, 0, 0⟩,  -- CST_DEMAND
  ⟨0x20, [], 0x300010, 0x7f007f, 0, 0, 0, 0, 0⟩,  -- CST_WM
  ⟨0x30, [], 0x210840, 0xfffffff, 0, 0, 0, 0, 0⟩,  -- CST_BANKHASH0
  ⟨0x34, [], 0x421080, 0xfffffff, 0, 0, 0, 0, 0⟩,  -- CST_BANKHASH1
  ⟨0x38, [], 0x842100, 0xfffffff, 0, 0, 0, 0, 0⟩,  -- CST_BANKHASH2
  ⟨0x3c, [], 0x1084200, 0xfffffff, 0, 0, 0, 0, 0⟩,  -- CST_BANKHASH3
  ⟨0x40, [], 0x2108400, 0xfffffff, 0, 0, 0, 0, 0⟩,  -- CST_BANKHASH4
  ⟨0x50, [], 0, 0, 0x1f, 0, 0, 0, 0⟩,  -- CST_INT
  ⟨0x54, [], 0, 0x1f, 0, 0, 0, 0, 0⟩,  -- CST_INT_EN
  ⟨0x58, [], 0, 0, 0, 0, 0, 0x2, 0⟩,  -- CST_FLT
  ⟨0x5c, [], 0, 0, 0, 0, 0, 0, 0⟩,  -- CST_FLT_BLK
  ⟨0x60, [], 0x3e8, 0xffff, 0, 0, 0, 0, 0xffff⟩,  -- CST_GRACE
  ⟨0x64, [], 0, 0, 0, 0, 0xffffffff, 0, 0⟩,  -- CST_ECC_CNT
  ⟨0x68, [], 0, 0, 0, 0, 0, 0, 0⟩,  -- CST_ECC_ADDR_LO
  ⟨0x6c, [], 0, 0, 0, 0, 0, 0, 0⟩,  -- CST_ECC_ADDR_HI
  ⟨0x100, [(32, 0x4)], 0, 0xffffffff, 0, 0, 0, 0, 0⟩,  -- CST_TSET0
  ⟨0x180, [(32, 0x4)], 0, 0xffffffff, 0, 0, 0, 0, 0⟩]  -- CST_TSET1

/-- Registers of CST (08_cistern.md, R250), part 2. -/
def rowsCst2 : List RegRow := [
  ⟨0x200, [(8, 0x20)], 0, 0x301ff, 0xe000000, 0, 0, 0, 0⟩,  -- CST_RSV_CTRL
  ⟨0x204, [(8, 0x20)], 0, 0xffffffff, 0, 0, 0, 0, 0⟩,  -- CST_RSV_BASE_LO
  ⟨0x208, [(8, 0x20)], 0, 0xffffffff, 0, 0, 0, 0, 0⟩,  -- CST_RSV_BASE_HI
  ⟨0x20c, [(8, 0x20)], 0, 0xffffffff, 0, 0, 0, 0, 0⟩,  -- CST_RSV_LEN
  ⟨0x210, [(8, 0x20)], 0, 0xffffffff, 0, 0, 0, 0, 0⟩,  -- CST_RSV_AT_LO
  ⟨0x214, [(8, 0x20)], 0, 0xffffffff, 0, 0, 0, 0, 0⟩,  -- CST_RSV_AT_HI
  ⟨0x218, [(8, 0x20)], 0, 0, 0, 0, 0, 0, 0⟩]  -- CST_RSV_WPTR

/-- Registers of NET (09_media_ports.md, R271), part 1. -/
def rowsNet1 : List RegRow := [
  ⟨0, [], 0x5f20030, 0x3fff003c, 0, 0, 0, 0, 0⟩,  -- NET_CFG
  ⟨0x4, [], 0, 0, 0, 0, 0, 0, 0⟩,  -- NET_STAT
  ⟨0x8, [], 0, 0, 0x1f, 0, 0, 0, 0⟩,  -- NET_INT
  ⟨0xc, [], 0, 0x1f, 0, 0, 0, 0, 0⟩,  -- NET_INT_EN
  ⟨0x10, [], 0x25800200, 0xffffffff, 0, 0, 0, 0, 0⟩,  -- NET_TX_THR
  ⟨0x14, [], 0x1, 0xf, 0, 0, 0, 0, 0⟩,  -- NET_RXQ_DEF
  ⟨0x18, [], 0, 0xffffffff, 0, 0, 0, 0, 0⟩,  -- NET_MAC_LO
  ⟨0x1c, [], 0, 0xffffffff, 0, 0, 0, 0, 0⟩,  -- NET_MAC_HI
  ⟨0x20, [], 0, 0, 0, 0, 0, 0x2, 0⟩,  -- NET_FLT
  ⟨0x24, [], 0, 0, 0, 0, 0, 0, 0⟩,  -- NET_FLT_BLK
  ⟨0x28, [], 0x3e8, 0xffff, 0, 0, 0, 0, 0xffff⟩,  -- NET_GRACE
  ⟨0x30, [], 0, 0xffffffff, 0, 0, 0, 0, 0⟩,  -- NET_MHASH_LO
  ⟨0x34, [], 0, 0xffffffff, 0, 0, 0, 0, 0⟩,  -- NET_MHASH_HI
  ⟨0x40, [], 0xc0, 0x300001ff, 0, 0, 0, 0, 0⟩,  -- NET_RXQ0
  ⟨0x44, [], 0x10000020, 0x300001ff, 0, 0, 0, 0, 0⟩,  -- NET_RXQ1
  ⟨0x48, [], 0x20000020, 0x300001ff, 0, 0, 0, 0, 0⟩,  -- NET_RXQ2
  ⟨0x4c, [], 0x30000000, 0x300001ff, 0, 0, 0, 0, 0⟩,  -- NET_RXQ3
  ⟨0x50, [], 0x30000000, 0x300001ff, 0, 0, 0, 0, 0⟩,  -- NET_RXQ4
  ⟨0x54, [], 0x30000000, 0x300001ff, 0, 0, 0, 0, 0⟩,  -- NET_RXQ5
  ⟨0x58, [], 0x30000000, 0x300001ff, 0, 0, 0, 0, 0⟩,  -- NET_RXQ6
  ⟨0x5c, [], 0x30000000, 0x300001ff, 0, 0, 0, 0, 0⟩,  -- NET_RXQ7
  ⟨0x100, [(64, 0x8)], 0, 0xff000fff, 0, 0, 0, 0, 0⟩,  -- NET_MATCH_A
  ⟨0x104, [(64, 0x8)], 0, 0xfffffff, 0, 0, 0, 0, 0⟩,  -- NET_MATCH_B
  ⟨0x300, [], 0, 0, 0xffffffff, 0, 0, 0, 0⟩]  -- NET_CNT_HALF

/-- Registers of NET (09_media_ports.md, R271), part 2. -/
def rowsNet2 : List RegRow := [
  ⟨0x400, [(32, 0x4)], 0, 0, 0, 0, 0, 0, 0⟩]  -- NET_CNT

/-- Registers of FWD (09_media_ports.md, R271), part 1. -/
def rowsFwd1 : List RegRow := [
  ⟨0, [], 0x12cff02, 0xfffffff3, 0, 0, 0, 0, 0⟩,  -- FWD_CTRL
  ⟨0x4, [], 0, 0xfff, 0, 0, 0, 0x70000, 0⟩,  -- FWD_TBL_CMD
  ⟨0x8, [], 0, 0xffffffff, 0, 0, 0, 0, 0⟩,  -- FWD_TBL_D0
  ⟨0xc, [], 0, 0xefffffff, 0, 0, 0, 0, 0⟩,  -- FWD_TBL_D1
  ⟨0x10, [], 0, 0xf, 0, 0, 0, 0, 0⟩,  -- FWD_TBL_D2
  ⟨0x14, [], 0, 0, 0, 0, 0xffff, 0, 0⟩]  -- FWD_STAT

/-- Registers of FLW (10_flows.md, R303), part 1. -/
def rowsFlw1 : List RegRow := [
  ⟨0, [], 0, 0, 0x3f, 0, 0, 0, 0⟩,  -- FLW_INT
  ⟨0x4, [], 0, 0x3f, 0, 0, 0, 0, 0⟩,  -- FLW_INT_EN
  ⟨0x8, [], 0, 0, 0, 0, 0, 0x2, 0⟩,  -- FLW_FLT
  ⟨0xc, [], 0, 0, 0, 0, 0, 0, 0⟩,  -- FLW_FLT_BLK
  ⟨0x10, [], 0x3e8, 0xffff, 0, 0, 0, 0, 0xffff⟩,  -- FLW_GRACE
  ⟨0x14, [], 0, 0, 0, 0, 0, 0, 0⟩,  -- FLW_VIOL
  ⟨0x18, [], 0, 0, 0, 0, 0, 0, 0⟩,  -- FLW_MEM
  ⟨0x1000, [(128, 0x40)], 0, 0, 0, 0, 0, 0, 0⟩,  -- FLW_RX_STAT
  ⟨0x1004, [(128, 0x40)], 0, 0xffffffff, 0, 0, 0, 0, 0⟩,  -- FLW_RX_OFS
  ⟨0x1008, [(128, 0x40)], 0xffff, 0, 0, 0, 0xffff, 0, 0⟩,  -- FLW_RX_MARGIN
  ⟨0x100c, [(128, 0x40)], 0, 0, 0, 0, 0, 0, 0⟩,  -- FLW_RX_SSRC
  ⟨0x1010, [(128, 0x40)], 0, 0, 0, 0, 0xffffffff, 0, 0⟩,  -- FLW_RX_PKT_A
  ⟨0x1014, [(128, 0x40)], 0, 0, 0, 0, 0xffffffff, 0, 0⟩,  -- FLW_RX_PKT_B
  ⟨0x1018, [(128, 0x40)], 0, 0, 0, 0, 0xffffffff, 0, 0⟩,  -- FLW_RX_LOSS
  ⟨0x101c, [(128, 0x40)], 0, 0, 0, 0, 0xffffffff, 0, 0⟩,  -- FLW_RX_MISC
  ⟨0x1020, [(128, 0x40)], 0, 0, 0, 0, 0xffffffff, 0, 0⟩,  -- FLW_RX_VIOL
  ⟨0x3000, [(128, 0x20)], 0, 0, 0, 0, 0, 0, 0⟩,  -- FLW_TX_STAT
  ⟨0x3004, [(128, 0x20)], 0, 0, 0, 0, 0, 0, 0⟩,  -- FLW_TX_RTP
  ⟨0x3008, [(128, 0x20)], 0, 0, 0, 0, 0xffffffff, 0, 0⟩,  -- FLW_TX_PKT_A
  ⟨0x300c, [(128, 0x20)], 0, 0, 0, 0, 0xffffffff, 0, 0⟩,  -- FLW_TX_PKT_B
  ⟨0x3010, [(128, 0x20)], 0, 0, 0, 0, 0xffffffff, 0, 0⟩]  -- FLW_TX_DROP

/-- Registers of TSU (11_network_time.md, R325), part 1. -/
def rowsTsu1 : List RegRow := [
  ⟨0, [], 0, 0, 0, 0, 0, 0, 0⟩,  -- TSU_NOW_NS
  ⟨0x4, [], 0, 0, 0, 0, 0, 0, 0⟩,  -- TSU_NOW_FRAC
  ⟨0x8, [], 0, 0, 0, 0, 0, 0, 0⟩,  -- TSU_NOW_SEC_LO
  ⟨0xc, [], 0, 0, 0, 0, 0, 0, 0⟩,  -- TSU_NOW_SEC_HI
  ⟨0x10, [], 0, 0xffffffff, 0, 0, 0, 0, 0⟩,  -- TSU_INCR_LO
  ⟨0x14, [], 0x2, 0x3, 0, 0, 0, 0, 0⟩,  -- TSU_INCR_HI
  ⟨0x18, [], 0, 0xffffffff, 0, 0, 0, 0, 0⟩,  -- TSU_ADJ_FRAC
  ⟨0x1c, [], 0, 0xffffffff, 0, 0, 0, 0, 0⟩,  -- TSU_ADJ_CNT
  ⟨0x20, [], 0, 0xffffffff, 0, 0, 0, 0, 0⟩,  -- TSU_STEP_SEC
  ⟨0x24, [], 0, 0xffffffff, 0, 0, 0, 0, 0⟩,  -- TSU_STEP_NS
  ⟨0x28, [], 0, 0, 0, 0, 0, 0x3, 0⟩,  -- TSU_STEP_CMD
  ⟨0x2c, [], 0x3e8, 0xffffffff, 0, 0, 0, 0, 0⟩,  -- TSU_JUMP_LIM
  ⟨0x30, [], 0, 0, 0, 0, 0, 0, 0⟩,  -- TSU_STAT
  ⟨0x34, [], 0, 0, 0x7f, 0, 0, 0, 0⟩,  -- TSU_INT
  ⟨0x38, [], 0, 0x7f, 0, 0, 0, 0, 0⟩,  -- TSU_INT_EN
  ⟨0x3c, [], 0, 0, 0, 0, 0, 0x2, 0⟩,  -- TSU_FLT
  ⟨0x40, [], 0, 0, 0, 0, 0, 0, 0⟩,  -- TSU_FLT_BLK
  ⟨0x44, [], 0x3e8, 0xffff, 0, 0, 0, 0, 0xffff⟩,  -- TSU_GRACE
  ⟨0x48, [], 0, 0, 0, 0, 0xffffffff, 0, 0⟩,  -- TSU_CNT
  ⟨0x50, [], 0, 0, 0, 0, 0, 0, 0⟩,  -- TSU_TXS_INFO
  ⟨0x54, [], 0, 0, 0, 0, 0, 0, 0⟩,  -- TSU_TXS_SEC
  ⟨0x58, [], 0, 0, 0, 0, 0, 0, 0⟩,  -- TSU_TXS_NS
  ⟨0x100, [(5, 0x10)], 0, 0xfffff, 0, 0, 0, 0, 0⟩,  -- TSU_RX_LAT
  ⟨0x104, [(5, 0x10)], 0, 0xfffff, 0, 0, 0, 0, 0⟩]  -- TSU_TX_LAT

/-- Registers of TSU (11_network_time.md, R325), part 2. -/
def rowsTsu2 : List RegRow := [
  ⟨0x108, [(5, 0x10)], 0, 0xffffffff, 0, 0, 0, 0, 0⟩,  -- TSU_ASYM
  ⟨0x200, [(8, 0x20)], 0, 0xffffffe9, 0x12, 0, 0, 0, 0⟩,  -- TSU_SPT_CTRL
  ⟨0x204, [(8, 0x20)], 0, 0xffffffff, 0, 0, 0, 0, 0⟩,  -- TSU_SPT_SEC
  ⟨0x208, [(8, 0x20)], 0, 0x3fffffff, 0, 0, 0, 0, 0⟩,  -- TSU_SPT_NS
  ⟨0x20c, [(8, 0x20)], 0, 0x3fffffff, 0, 0, 0, 0, 0⟩,  -- TSU_SPT_PER_NS
  ⟨0x210, [(8, 0x20)], 0, 0xffffffff, 0, 0, 0, 0, 0⟩,  -- TSU_SPT_PER_FRAC
  ⟨0x400, [(8, 0x10)], 0, 0x7, 0, 0, 0xffff0000, 0, 0⟩,  -- TSU_CAP_CTRL
  ⟨0x404, [(8, 0x10)], 0, 0, 0, 0, 0, 0, 0⟩,  -- TSU_CAP_INFO
  ⟨0x408, [(8, 0x10)], 0, 0, 0, 0, 0, 0, 0⟩,  -- TSU_CAP_SEC
  ⟨0x40c, [(8, 0x10)], 0, 0, 0, 0, 0, 0, 0⟩,  -- TSU_CAP_NS
  ⟨0x600, [(16, 0x20)], 0, 0xffffffc1, 0x20, 0, 0, 0, 0⟩,  -- TSU_WIN_CTRL
  ⟨0x604, [(16, 0x20)], 0, 0xffffffff, 0, 0, 0, 0, 0⟩,  -- TSU_WIN_OPEN_SEC
  ⟨0x608, [(16, 0x20)], 0, 0x3fffffff, 0, 0, 0, 0, 0⟩,  -- TSU_WIN_OPEN_NS
  ⟨0x60c, [(16, 0x20)], 0, 0xffffffff, 0, 0, 0, 0, 0⟩,  -- TSU_WIN_CLOSE_SEC
  ⟨0x610, [(16, 0x20)], 0, 0x3fffffff, 0, 0, 0, 0, 0⟩,  -- TSU_WIN_CLOSE_NS
  ⟨0x800, [], 0, 0, 0xffff, 0, 0, 0, 0⟩]  -- TSU_WIN_EVT

/-- Registers of WLH (12_wellhead.md, R354), part 1. -/
def rowsWlh1 : List RegRow := [
  ⟨0, [], 0xf0, 0, 0, 0, 0, 0, 0⟩,  -- WLH_STAT
  ⟨0x4, [], 0, 0, 0x1ff, 0, 0, 0, 0⟩,  -- WLH_INT
  ⟨0x8, [], 0, 0x1ff, 0, 0, 0, 0, 0⟩,  -- WLH_INT_EN
  ⟨0xc, [], 0, 0, 0, 0, 0, 0x2, 0⟩,  -- WLH_FLT
  ⟨0x10, [], 0, 0, 0, 0, 0, 0, 0⟩,  -- WLH_FLT_BLK
  ⟨0x14, [], 0x3e8, 0xffff, 0, 0, 0, 0, 0xffff⟩,  -- WLH_GRACE
  ⟨0x18, [], 0x201, 0xf3f, 0, 0x40, 0, 0, 0⟩,  -- WLH_CTRL
  ⟨0x20, [], 0x11f8, 0xffffffff, 0, 0, 0, 0, 0⟩,  -- WLH_TOL
  ⟨0x24, [], 0x1f4, 0xffffffff, 0, 0, 0, 0, 0⟩,  -- WLH_HYST
  ⟨0x28, [], 0x64, 0xffffffff, 0, 0, 0, 0, 0⟩,  -- WLH_AGREE
  ⟨0x2c, [], 0x3e8, 0xffffffff, 0, 0, 0, 0, 0⟩,  -- WLH_HOLD_BUDGET
  ⟨0x30, [], 0x3c000a, 0xffffffff, 0, 0, 0, 0, 0⟩,  -- WLH_QUAL
  ⟨0x34, [], 0, 0xffffffff, 0, 0, 0, 0, 0⟩,  -- WLH_AGING
  ⟨0x38, [], 0, 0xffffffff, 0, 0, 0, 0, 0⟩,  -- WLH_TEMPCO
  ⟨0x3c, [], 0, 0xffff, 0, 0, 0, 0, 0⟩,  -- WLH_XO_TEMP
  ⟨0x40, [], 0, 0, 0, 0, 0, 0, 0⟩,  -- WLH_XO_EST
  ⟨0x44, [], 0, 0, 0, 0, 0, 0, 0⟩,  -- WLH_HOLD_ERR
  ⟨0x48, [], 0, 0, 0, 0, 0, 0, 0⟩,  -- WLH_HOLD_TIME
  ⟨0x100, [(12, 0x20)], 0x7, 0xff, 0, 0, 0, 0, 0⟩,  -- WLH_CAND_CFG
  ⟨0x104, [(12, 0x20)], 0xf0801, 0, 0, 0, 0, 0, 0⟩,  -- WLH_CAND_STAT
  ⟨0x108, [(12, 0x20)], 0, 0, 0, 0, 0, 0, 0⟩,  -- WLH_CAND_OFS1
  ⟨0x10c, [(12, 0x20)], 0, 0, 0, 0, 0, 0, 0⟩,  -- WLH_CAND_OFS16
  ⟨0x110, [(12, 0x20)], 0, 0, 0, 0, 0, 0, 0⟩,  -- WLH_CAND_OFS256
  ⟨0x114, [(12, 0x20)], 0, 0, 0, 0, 0xffffffff, 0, 0⟩]  -- WLH_CAND_CNT

/-- Registers of WLH (12_wellhead.md, R354), part 2. -/
def rowsWlh2 : List RegRow := [
  ⟨0x300, [(4, 0x10)], 0x88f, 0, 0, 0, 0, 0, 0⟩,  -- WLH_QL_STAT
  ⟨0x304, [(4, 0x10)], 0, 0, 0, 0, 0xffffffff, 0, 0⟩,  -- WLH_QL_CNT
  ⟨0x400, [(4, 0x10)], 0, 0xfcffffff, 0, 0, 0, 0, 0⟩,  -- WLH_WCKO_CTRL
  ⟨0x404, [(4, 0x10)], 0, 0xffffffff, 0, 0, 0, 0, 0⟩]  -- WLH_WCKO_OFS

/-- Registers of RIL (13_rills.md, R369), part 1. -/
def rowsRil1 : List RegRow := [
  ⟨0, [], 0, 0, 0x1f, 0, 0, 0, 0⟩,  -- RIL_INT
  ⟨0x4, [], 0, 0x1f, 0, 0, 0, 0, 0⟩,  -- RIL_INT_EN
  ⟨0x8, [], 0, 0, 0, 0, 0, 0x2, 0⟩,  -- RIL_FLT
  ⟨0xc, [], 0, 0, 0, 0, 0, 0, 0⟩,  -- RIL_FLT_BLK
  ⟨0x10, [], 0x3e8, 0xffff, 0, 0, 0, 0, 0xffff⟩,  -- RIL_GRACE
  ⟨0x100, [(6, 0x10)], 0xffff, 0xffff, 0, 0, 0, 0, 0⟩,  -- RIL_HANK_MASK
  ⟨0x104, [(6, 0x10)], 0xffff, 0, 0, 0, 0, 0, 0⟩,  -- RIL_HANK_MASK_ACTIVE
  ⟨0x108, [(6, 0x10)], 0, 0, 0, 0, 0, 0, 0⟩,  -- RIL_HANK_STAT
  ⟨0x1000, [(48, 0x20)], 0, 0, 0, 0, 0, 0, 0⟩,  -- RIL_CFG
  ⟨0x1004, [(48, 0x20)], 0x200, 0, 0, 0, 0, 0, 0⟩,  -- RIL_FMT
  ⟨0x1008, [(48, 0x20)], 0, 0, 0, 0, 0, 0, 0⟩,  -- RIL_STAT
  ⟨0x100c, [(48, 0x20)], 0, 0, 0, 0, 0, 0, 0⟩,  -- RIL_DIV
  ⟨0x1010, [(48, 0x20)], 0, 0, 0, 0, 0, 0x1, 0⟩,  -- RIL_CMD
  ⟨0x1014, [(48, 0x20)], 0, 0, 0, 0, 0xffffffff, 0, 0⟩,  -- RIL_CNT
  ⟨0x1018, [(48, 0x20)], 0, 0, 0, 0, 0xffffffff, 0, 0⟩,  -- RIL_SLIP
  ⟨0x101c, [(48, 0x20)], 0, 0, 0, 0, 0, 0, 0⟩]  -- RIL_PERIOD

/-- Registers of JET (14_jets.md, R388), part 1. -/
def rowsJet1 : List RegRow := [
  ⟨0, [], 0, 0, 0x1ff, 0, 0, 0, 0⟩,  -- JET_INT
  ⟨0x4, [], 0, 0x1ff, 0, 0, 0, 0, 0⟩,  -- JET_INT_EN
  ⟨0x8, [], 0, 0, 0, 0, 0, 0x2, 0⟩,  -- JET_FLT
  ⟨0xc, [], 0, 0, 0, 0, 0, 0, 0⟩,  -- JET_FLT_BLK
  ⟨0x10, [], 0x3e8, 0xffff, 0, 0, 0, 0, 0xffff⟩,  -- JET_GRACE
  ⟨0x100, [(4, 0x10)], 0x3000000, 0xff000000, 0, 0, 0, 0, 0xff000000⟩,  -- JET_BANK_CFG
  ⟨0x104, [(4, 0x10)], 0, 0, 0, 0, 0, 0, 0⟩,  -- JET_BANK_STAT
  ⟨0x108, [(4, 0x10)], 0, 0, 0, 0, 0, 0x3, 0⟩,  -- JET_BANK_CMD
  ⟨0x1000, [(32, 0x40)], 0x8, 0, 0, 0, 0, 0, 0⟩,  -- JET_STAT
  ⟨0x1004, [(32, 0x40)], 0, 0, 0, 0, 0, 0x1, 0⟩,  -- JET_CMD
  ⟨0x1008, [(32, 0x40)], 0, 0, 0, 0, 0, 0, 0⟩,  -- JET_GAIN
  ⟨0x100c, [(32, 0x40)], 0, 0, 0, 0, 0, 0, 0⟩,  -- JET_GAINS
  ⟨0x1010, [(32, 0x40)], 0, 0, 0, 0, 0, 0, 0⟩,  -- JET_TEMP
  ⟨0x1014, [(32, 0x40)], 0, 0, 0, 0, 0, 0, 0⟩,  -- JET_RE
  ⟨0x1018, [(32, 0x40)], 0, 0xffff, 0, 0, 0, 0, 0⟩,  -- JET_STAGE_T
  ⟨0x101c, [(32, 0x40)], 0xfa, 0xffff, 0, 0, 0, 0, 0⟩,  -- JET_AMB
  ⟨0x1020, [(32, 0x40)], 0, 0, 0, 0, 0xffffff, 0, 0⟩,  -- JET_CNT
  ⟨0x1024, [(32, 0x40)], 0, 0, 0, 0, 0xffff, 0, 0⟩]  -- JET_CLIP

/-- Registers of SNS (14_jets.md, R388), part 1. -/
def rowsSns1 : List RegRow := [
  ⟨0, [], 0, 0, 0x3, 0, 0, 0, 0⟩,  -- SNS_INT
  ⟨0x4, [], 0, 0x3, 0, 0, 0, 0, 0⟩,  -- SNS_INT_EN
  ⟨0x8, [], 0, 0, 0, 0, 0, 0x2, 0⟩,  -- SNS_FLT
  ⟨0xc, [], 0, 0, 0, 0, 0, 0, 0⟩,  -- SNS_FLT_BLK
  ⟨0x10, [], 0x3e8, 0xffff, 0, 0, 0, 0, 0xffff⟩,  -- SNS_GRACE
  ⟨0x20, [], 0, 0, 0, 0, 0, 0, 0⟩,  -- SNS_LIVE_LO
  ⟨0x24, [], 0, 0, 0, 0, 0, 0, 0⟩,  -- SNS_LIVE_HI
  ⟨0x28, [], 0, 0, 0, 0, 0, 0, 0⟩,  -- SNS_BUS_LIVE
  ⟨0x100, [(8, 0x8)], 0x7d0, 0xffff, 0, 0, 0, 0, 0xffff⟩,  -- SNS_BUS_FS
  ⟨0x104, [(8, 0x8)], 0, 0, 0, 0, 0, 0, 0⟩]  -- SNS_BUS

/-- Registers of CTL (09_media_ports.md, R274), part 1. -/
def rowsCtl1 : List RegRow := [
  ⟨0, [], 0x5f20030, 0x3fff0030, 0, 0, 0, 0, 0⟩,  -- CTL_CFG
  ⟨0x4, [], 0, 0, 0, 0, 0, 0, 0⟩,  -- CTL_STAT
  ⟨0x8, [], 0, 0, 0x1f, 0, 0, 0, 0⟩,  -- CTL_INT
  ⟨0xc, [], 0, 0x1f, 0, 0, 0, 0, 0⟩,  -- CTL_INT_EN
  ⟨0x10, [], 0x5f20200, 0xffffffff, 0, 0, 0, 0, 0⟩,  -- CTL_TX_THR
  ⟨0x14, [], 0x1, 0xf, 0, 0, 0, 0, 0⟩,  -- CTL_RXQ_DEF
  ⟨0x18, [], 0, 0xffffffff, 0, 0, 0, 0, 0⟩,  -- CTL_MAC_LO
  ⟨0x1c, [], 0, 0xffffffff, 0, 0, 0, 0, 0⟩,  -- CTL_MAC_HI
  ⟨0x20, [], 0, 0, 0, 0, 0, 0x2, 0⟩,  -- CTL_FLT
  ⟨0x24, [], 0, 0, 0, 0, 0, 0, 0⟩,  -- CTL_FLT_BLK
  ⟨0x28, [], 0x3e8, 0xffff, 0, 0, 0, 0, 0xffff⟩,  -- CTL_GRACE
  ⟨0x30, [], 0, 0xffffffff, 0, 0, 0, 0, 0⟩,  -- CTL_MHASH_LO
  ⟨0x34, [], 0, 0xffffffff, 0, 0, 0, 0, 0⟩,  -- CTL_MHASH_HI
  ⟨0x40, [], 0x10000018, 0x300001ff, 0, 0, 0, 0, 0⟩,  -- CTL_RXQ0
  ⟨0x44, [], 0x20000008, 0x300001ff, 0, 0, 0, 0, 0⟩,  -- CTL_RXQ1
  ⟨0x48, [], 0x30000000, 0x300001ff, 0, 0, 0, 0, 0⟩,  -- CTL_RXQ2
  ⟨0x4c, [], 0x30000000, 0x300001ff, 0, 0, 0, 0, 0⟩,  -- CTL_RXQ3
  ⟨0x100, [(16, 0x8)], 0, 0xff000fff, 0, 0, 0, 0, 0⟩,  -- CTL_MATCH_A
  ⟨0x104, [(16, 0x8)], 0, 0xfffffff, 0, 0, 0, 0, 0⟩,  -- CTL_MATCH_B
  ⟨0x300, [], 0, 0, 0xffffffff, 0, 0, 0, 0⟩,  -- CTL_CNT_HALF
  ⟨0x400, [(32, 0x4)], 0, 0, 0, 0, 0, 0, 0⟩]  -- CTL_CNT

/-- Registers of FBS (09_media_ports.md, R280), part 1. -/
def rowsFbs1 : List RegRow := [
  ⟨0, [], 0x5f20020, 0x3fff0020, 0, 0, 0, 0, 0⟩,  -- FBS_CFG
  ⟨0x8, [], 0, 0, 0xf, 0, 0, 0, 0⟩,  -- FBS_INT
  ⟨0xc, [], 0, 0xf, 0, 0, 0, 0, 0⟩,  -- FBS_INT_EN
  ⟨0x10, [], 0, 0xffffffff, 0, 0, 0, 0, 0xffffffff⟩,  -- FBS_SEED
  ⟨0x14, [], 0, 0x7ffcffff, 0, 0x80000000, 0, 0, 0⟩,  -- FBS_MDIO
  ⟨0x18, [], 0, 0xffffffff, 0, 0, 0, 0, 0⟩,  -- FBS_MAC_LO
  ⟨0x1c, [], 0, 0xffffffff, 0, 0, 0, 0, 0⟩,  -- FBS_MAC_HI
  ⟨0x20, [], 0, 0, 0, 0, 0, 0x2, 0⟩,  -- FBS_FLT
  ⟨0x24, [], 0, 0, 0, 0, 0, 0, 0⟩,  -- FBS_FLT_BLK
  ⟨0x28, [], 0x3e8, 0xffff, 0, 0, 0, 0, 0xffff⟩,  -- FBS_GRACE
  ⟨0x30, [], 0, 0xffffffff, 0, 0, 0, 0, 0⟩,  -- FBS_MHASH_LO
  ⟨0x34, [], 0, 0xffffffff, 0, 0, 0, 0, 0⟩,  -- FBS_MHASH_HI
  ⟨0x300, [], 0, 0, 0xffffffff, 0, 0, 0, 0⟩,  -- FBS_CNT_HALF
  ⟨0x400, [(32, 0x4)], 0, 0, 0, 0, 0, 0, 0⟩]  -- FBS_CNT

/-- Registers of HST (16_control_ports.md, R440), part 1. -/
def rowsHst1 : List RegRow := [
  ⟨0, [], 0, 0, 0, 0, 0, 0, 0⟩,  -- HST_STAT
  ⟨0x4, [], 0, 0, 0xf, 0, 0, 0, 0⟩,  -- HST_INT
  ⟨0x8, [], 0, 0xf, 0, 0, 0, 0, 0⟩,  -- HST_INT_EN
  ⟨0xc, [], 0, 0, 0, 0, 0, 0x2, 0⟩,  -- HST_FLT
  ⟨0x10, [], 0, 0, 0, 0, 0, 0, 0⟩,  -- HST_FLT_BLK
  ⟨0x14, [], 0x3e8, 0xffff, 0, 0, 0, 0, 0xffff⟩,  -- HST_GRACE
  ⟨0x20, [], 0, 0, 0, 0, 0, 0, 0⟩,  -- HST_ISTAT
  ⟨0x24, [], 0xffffffff, 0xffffffff, 0, 0, 0, 0, 0⟩,  -- HST_IEN
  ⟨0x28, [], 0, 0, 0, 0, 0, 0xffffffff, 0⟩,  -- HST_IACK_LO
  ⟨0x2c, [], 0, 0, 0, 0, 0, 0xffffffff, 0⟩,  -- HST_IACK_HI
  ⟨0x30, [], 0x3020100, 0x3f3f3f3f, 0, 0, 0, 0, 0⟩,  -- HST_IVEC0
  ⟨0x34, [], 0x7060504, 0x3f3f3f3f, 0, 0, 0, 0, 0⟩,  -- HST_IVEC1
  ⟨0x38, [], 0xb0a0908, 0x3f3f3f3f, 0, 0, 0, 0, 0⟩,  -- HST_IVEC2
  ⟨0x3c, [], 0xf0e0d0c, 0x3f3f3f3f, 0, 0, 0, 0, 0⟩,  -- HST_IVEC3
  ⟨0x40, [], 0x13121110, 0x3f3f3f3f, 0, 0, 0, 0, 0⟩,  -- HST_IVEC4
  ⟨0x44, [], 0x17161514, 0x3f3f3f3f, 0, 0, 0, 0, 0⟩,  -- HST_IVEC5
  ⟨0x48, [], 0x1b1a1918, 0x3f3f3f3f, 0, 0, 0, 0, 0⟩,  -- HST_IVEC6
  ⟨0x4c, [], 0x1f1e1d1c, 0x3f3f3f3f, 0, 0, 0, 0, 0⟩,  -- HST_IVEC7
  ⟨0x50, [], 0, 0, 0x1f1f, 0, 0, 0, 0⟩,  -- HST_RING_EVT
  ⟨0x100, [(5, 0x20)], 0, 0xffffffff, 0, 0, 0, 0, 0⟩,  -- HST_RXRING_BASE_LO
  ⟨0x104, [(5, 0x20)], 0, 0xffffffff, 0, 0, 0, 0, 0⟩,  -- HST_RXRING_BASE_HI
  ⟨0x108, [(5, 0x20)], 0x10, 0x1fff, 0, 0, 0, 0, 0⟩,  -- HST_RXRING_SIZE
  ⟨0x10c, [(5, 0x20)], 0, 0, 0, 0, 0, 0, 0⟩,  -- HST_RXRING_HEAD
  ⟨0x110, [(5, 0x20)], 0, 0xfff, 0, 0, 0, 0, 0⟩]  -- HST_RXRING_TAIL

/-- Registers of HST (16_control_ports.md, R440), part 2. -/
def rowsHst2 : List RegRow := [
  ⟨0x114, [(5, 0x20)], 0, 0x1, 0, 0, 0, 0, 0⟩,  -- HST_RXRING_CTRL
  ⟨0x200, [(5, 0x20)], 0, 0xffffffff, 0, 0, 0, 0, 0⟩,  -- HST_TXRING_BASE_LO
  ⟨0x204, [(5, 0x20)], 0, 0xffffffff, 0, 0, 0, 0, 0⟩,  -- HST_TXRING_BASE_HI
  ⟨0x208, [(5, 0x20)], 0x10, 0x1fff, 0, 0, 0, 0, 0⟩,  -- HST_TXRING_SIZE
  ⟨0x20c, [(5, 0x20)], 0, 0, 0, 0, 0, 0, 0⟩,  -- HST_TXRING_HEAD
  ⟨0x210, [(5, 0x20)], 0, 0xfff, 0, 0, 0, 0, 0⟩,  -- HST_TXRING_TAIL
  ⟨0x214, [(5, 0x20)], 0, 0x1, 0, 0, 0, 0, 0⟩]  -- HST_TXRING_CTRL

/-- Registers of MBX (16_control_ports.md, R440), part 1. -/
def rowsMbx1 : List RegRow := [
  ⟨0, [], 0x156f, 0xffff, 0, 0, 0, 0, 0⟩,  -- MBX_PRIV
  ⟨0x4, [], 0x156f, 0, 0, 0, 0, 0, 0⟩,  -- MBX_CEIL
  ⟨0x8, [], 0, 0, 0, 0, 0, 0, 0⟩,  -- MBX_STRAP
  ⟨0x10, [], 0, 0, 0x3, 0, 0, 0, 0⟩,  -- MBX_INT
  ⟨0x14, [], 0, 0x3, 0, 0, 0, 0, 0⟩,  -- MBX_INT_EN
  ⟨0x18, [], 0, 0, 0, 0, 0, 0x2, 0⟩,  -- MBX_FLT
  ⟨0x1c, [], 0, 0, 0, 0, 0, 0, 0⟩,  -- MBX_FLT_BLK
  ⟨0x20, [], 0x3e8, 0xffff, 0, 0, 0, 0, 0xffff⟩,  -- MBX_GRACE
  ⟨0x30, [(5, 0x8)], 0, 0, 0, 0, 0xffffffff, 0, 0⟩,  -- MBX_ECP_CNT
  ⟨0x34, [(5, 0x8)], 0, 0, 0, 0, 0xffffffff, 0, 0⟩,  -- MBX_ECP_IGN
  ⟨0x60, [(8, 0x4)], 0, 0, 0, 0, 0xffff0000, 0, 0⟩,  -- MBX_VLOG_STAT
  ⟨0x100, [(3, 0x20)], 0, 0, 0xffffffff, 0, 0, 0, 0⟩,  -- MBX_DB
  ⟨0x104, [(3, 0x20)], 0, 0xffffffff, 0, 0, 0, 0, 0⟩,  -- MBX_DB_EN
  ⟨0x108, [(3, 0x20)], 0, 0, 0, 0xffffffff, 0, 0, 0⟩,  -- MBX_DB_SET
  ⟨0x10c, [(3, 0x20)], 0, 0, 0xffffffff, 0, 0, 0, 0⟩,  -- MBX_EVT
  ⟨0x110, [(3, 0x20)], 0, 0xffffffff, 0, 0, 0, 0, 0⟩,  -- MBX_EVT_EN
  ⟨0x1000, [(32, 0x80), (16, 0x4)], 0, 0xffffffff, 0, 0, 0, 0, 0⟩,  -- MBX_DATA
  ⟨0x1040, [(32, 0x80)], 0, 0x1f1f, 0x1000000, 0x80000000, 0, 0x100000, 0⟩,  -- MBX_CTRL
  ⟨0x4000, [(8, 0x100), (16, 0x10)], 0, 0, 0, 0, 0, 0, 0⟩,  -- MBX_VLOG0
  ⟨0x4004, [(8, 0x100), (16, 0x10)], 0, 0, 0, 0, 0, 0, 0⟩,  -- MBX_VLOG1
  ⟨0x4008, [(8, 0x100), (16, 0x10)], 0, 0, 0, 0, 0, 0, 0⟩,  -- MBX_VLOG2
  ⟨0x400c, [(8, 0x100), (16, 0x10)], 0, 0, 0, 0, 0, 0, 0⟩]  -- MBX_VLOG3

/-- Registers of PAR (15_pairing.md, R412), part 1. -/
def rowsPar1 : List RegRow := [
  ⟨0, [], 0x8, 0xe, 0, 0, 0, 0, 0⟩,  -- PAR_CFG
  ⟨0x4, [], 0, 0, 0, 0, 0, 0, 0⟩,  -- PAR_ID
  ⟨0x8, [], 0, 0, 0, 0, 0, 0, 0⟩,  -- PAR_STAT
  ⟨0xc, [], 0, 0, 0, 0, 0, 0x3, 0⟩,  -- PAR_CMD
  ⟨0x10, [], 0, 0, 0x7ff, 0, 0, 0, 0⟩,  -- PAR_INT
  ⟨0x14, [], 0, 0x7ff, 0, 0, 0, 0, 0⟩,  -- PAR_INT_EN
  ⟨0x18, [], 0, 0, 0, 0, 0, 0x2, 0⟩,  -- PAR_FLT
  ⟨0x1c, [], 0, 0, 0, 0, 0, 0, 0⟩,  -- PAR_FLT_BLK
  ⟨0x20, [], 0x3e8, 0xffff, 0, 0, 0, 0, 0xffff⟩,  -- PAR_GRACE
  ⟨0x24, [], 0, 0, 0, 0, 0, 0, 0⟩,  -- PAR_LEASE_LO
  ⟨0x28, [], 0, 0, 0, 0, 0, 0, 0⟩,  -- PAR_LEASE_HI
  ⟨0x2c, [], 0, 0, 0, 0, 0, 0, 0⟩,  -- PAR_SWITCH_LO
  ⟨0x30, [], 0, 0, 0, 0, 0, 0, 0⟩,  -- PAR_SWITCH_HI
  ⟨0x34, [], 0, 0, 0, 0, 0xffffffff, 0, 0⟩,  -- PAR_DIG_CNT
  ⟨0x38, [], 0, 0, 0, 0, 0, 0, 0⟩,  -- PAR_DIG_LAST
  ⟨0x3c, [], 0, 0, 0, 0, 0, 0, 0⟩,  -- PAR_DIG_LAST_BLK
  ⟨0x40, [], 0, 0, 0, 0, 0, 0, 0⟩,  -- PAR_TWIN_OFS
  ⟨0x44, [], 0, 0, 0, 0, 0, 0, 0⟩,  -- PAR_VIOL
  ⟨0x50, [(2, 0x4)], 0, 0, 0, 0, 0xffffffff, 0, 0⟩,  -- PAR_LANE_CNT
  ⟨0x100, [(16, 0x4)], 0, 0xffffffff, 0, 0, 0, 0, 0⟩]  -- PAR_DIG_MASK

/-- The register rows of each block. -/
def blkRows : Blk → List RegRow
  | .sys => rowsSys1 ++ rowsSys2
  | .pwr => rowsPwr1 ++ rowsPwr2
  | .mtx => rowsMtx1
  | .bsn => rowsBsn1
  | .spn => rowsSpn1
  | .lom => rowsLom1 ++ rowsLom2
  | .crl => rowsCrl1
  | .slu => rowsSlu1
  | .cst => rowsCst1 ++ rowsCst2
  | .net => rowsNet1 ++ rowsNet2
  | .fwd => rowsFwd1
  | .flw => rowsFlw1
  | .tsu => rowsTsu1 ++ rowsTsu2
  | .wlh => rowsWlh1 ++ rowsWlh2
  | .ril => rowsRil1
  | .jet => rowsJet1
  | .sns => rowsSns1
  | .ctl => rowsCtl1
  | .fbs => rowsFbs1
  | .hst => rowsHst1 ++ rowsHst2
  | .mbx => rowsMbx1
  | .par => rowsPar1

/-- Whether an offset is a member of an array of registers that starts at 0. -/
def dimsHit : List (Nat × Nat) → Nat → Bool
  | [], x => x == 0
  | (c, s) :: r, x => if x / s < c then dimsHit r (x % s) else false

/-- Whether a row is the register at an offset of its page. -/
def rowHit (x : Nat) (r : RegRow) : Bool := decide (r.off ≤ x) && dimsHit r.dims (x - r.off)

/-- The row of a register, by its offset in register space (a multiple of 4); none where the manual assigns no
register there (R9). -/
def regRow (a : Nat) : Option RegRow :=
  match pageBlk (a / 0x10000) with
  | none => none
  | some (b, _) => (blkRows b).find? (rowHit (a % 0x10000))

end Sys2Proof.Machine
end

