-- ==== Sys2Proof/Machine/Reg.lean ====
section
/-! DEFINITION. The offset in register space (R27) of every register, under the manual's own name. -/

namespace Sys2Proof.Machine.Reg

/-- R457. -/
def SYS_ID : Nat := 0
/-- R457. -/
def SYS_REV : Nat := 0x4
/-- R457. -/
def SYS_REMAP : Nat := 0x8
/-- R457. -/
def SYS_SEM_HELD_LO : Nat := 0x10
/-- R457. -/
def SYS_SEM_HELD_HI : Nat := 0x14
/-- R500. -/
def SYS_FLT : Nat := 0x20
/-- R500. -/
def SYS_FLT_BLK : Nat := 0x24
/-- R500. -/
def SYS_GRACE : Nat := 0x28
/-- R500. -/
def SYS_FLT_INFO : Nat := 0x2c
/-- R500. -/
def SYS_FCTL : Nat := 0x30
/-- R500. -/
def SYS_SEVER : Nat := 0x34
/-- R500. -/
def SYS_INT : Nat := 0x38
/-- R500. -/
def SYS_INT_EN : Nat := 0x3c
/-- R500. -/
def SYS_SEVER_CMD : Nat := 0x40
/-- R67. -/
def SYS_DFT_CMD : Nat := 0x100
/-- R67. -/
def SYS_DFT_STAT : Nat := 0x104
/-- R67. -/
def SYS_DFT_ERR_TAG : Nat := 0x108
/-- R67. -/
def SYS_DFT_ERR_OFS : Nat := 0x10c
/-- R67. -/
def SYS_DFT_BUF_LO : Nat := 0x110
/-- R67. -/
def SYS_DFT_BUF_HI : Nat := 0x114
/-- R67. -/
def SYS_DFT_LEN : Nat := 0x118
/-- R67. -/
def SYS_DFT_CBLK_LO : Nat := 0x11c
/-- R67. -/
def SYS_DFT_CBLK_HI : Nat := 0x120
/-- R67. -/
def SYS_DFT_PREP : Nat := 0x124
/-- R67. -/
def SYS_DFT_SER_LO : Nat := 0x128
/-- R67. -/
def SYS_DFT_SER_HI : Nat := 0x12c
/-- R67. -/
def SYS_BLK_LO : Nat := 0x130
/-- R67. -/
def SYS_BLK_HI : Nat := 0x134
/-- R67. -/
def SYS_DFT_INT : Nat := 0x138
/-- R67. -/
def SYS_DFT_INT_EN : Nat := 0x13c
/-- R457. -/
def SYS_SEM (a : Nat) : Nat := 0x200 + 0x4 * a
/-- R484. -/
def PWR_MODE : Nat := 0x10000
/-- R484. -/
def PWR_CMD : Nat := 0x10004
/-- R484. -/
def PWR_INT : Nat := 0x10008
/-- R484. -/
def PWR_INT_EN : Nat := 0x1000c
/-- R484. -/
def PWR_FLT : Nat := 0x10010
/-- R484. -/
def PWR_FLT_BLK : Nat := 0x10014
/-- R484. -/
def PWR_GRACE : Nat := 0x10018
/-- R484. -/
def PWR_DOM_ON : Nat := 0x10020
/-- R484. -/
def PWR_DOM_PEND : Nat := 0x10024
/-- R484. -/
def PWR_WAKE_BUDGET : Nat := 0x10028
/-- R484. -/
def PWR_WAKE_DEFER : Nat := 0x1002c
/-- R484. -/
def PWR_WAKE_EN : Nat := 0x10030
/-- R484. -/
def PWR_WAKE_SRC : Nat := 0x10034
/-- R484. -/
def PWR_WAKE_MODE : Nat := 0x10038
/-- R484. -/
def PWR_RST_CAUSE : Nat := 0x1003c
/-- R484. -/
def PWR_AON_STAT : Nat := 0x10040
/-- R484. -/
def PWR_AON_SEC_LO : Nat := 0x10044
/-- R484. -/
def PWR_AON_SEC_HI : Nat := 0x10048
/-- R484. -/
def PWR_AON_SUB : Nat := 0x1004c
/-- R484. -/
def PWR_WDOG : Nat := 0x10050
/-- R484. -/
def PWR_WDOG_KICK : Nat := 0x10054
/-- R484. -/
def PWR_BLK_RST : Nat := 0x10058
/-- R484. -/
def PWR_BOOT : Nat := 0x1005c
/-- R484. -/
def PWR_BOOT_LEN : Nat := 0x10060
/-- R484. -/
def PWR_BOOT_GO : Nat := 0x10064
/-- R484. -/
def PWR_CTRL : Nat := 0x10068
/-- R484. -/
def PWR_CG_DIS : Nat := 0x1006c
/-- R457. -/
def MTX_INT : Nat := 0x20000
/-- R457. -/
def MTX_INT_EN : Nat := 0x20004
/-- R457. -/
def MTX_FLT : Nat := 0x20008
/-- R457. -/
def MTX_FLT_BLK : Nat := 0x2000c
/-- R457. -/
def MTX_GRACE : Nat := 0x20010
/-- R457. -/
def MTX_ERR_ADDR_LO : Nat := 0x20020
/-- R457. -/
def MTX_ERR_ADDR_HI : Nat := 0x20024
/-- R457. -/
def MTX_ERR_INFO : Nat := 0x20028
/-- R457. -/
def MTX_CNT : Nat := 0x2002c
/-- R457. -/
def BSN_INT : Nat := 0x30000
/-- R457. -/
def BSN_INT_EN : Nat := 0x30004
/-- R457. -/
def BSN_FLT : Nat := 0x30008
/-- R457. -/
def BSN_FLT_BLK : Nat := 0x3000c
/-- R457. -/
def BSN_GRACE : Nat := 0x30010
/-- R457. -/
def BSN_TEST : Nat := 0x30014
/-- R457. -/
def BSN_ECC_CNT (a : Nat) : Nat := 0x30100 + 0x8 * a
/-- R457. -/
def BSN_ECC_ADDR (a : Nat) : Nat := 0x30104 + 0x8 * a
/-- R170. -/
def SPN_BSTAT (a : Nat) : Nat := 0x100000 + 0x10000 * a
/-- R170. -/
def SPN_INT (a : Nat) : Nat := 0x100004 + 0x10000 * a
/-- R170. -/
def SPN_INT_EN (a : Nat) : Nat := 0x100008 + 0x10000 * a
/-- R170. -/
def SPN_FLT (a : Nat) : Nat := 0x10000c + 0x10000 * a
/-- R170. -/
def SPN_FLT_BLK (a : Nat) : Nat := 0x100010 + 0x10000 * a
/-- R170. -/
def SPN_GRACE (a : Nat) : Nat := 0x100014 + 0x10000 * a
/-- R170. -/
def SPN_ECC_CNT (a : Nat) : Nat := 0x100018 + 0x10000 * a
/-- R170. -/
def SPN_SCTRL (a : Nat) (b : Nat) : Nat := 0x108000 + 0x10000 * a + 0x1000 * b
/-- R170. -/
def SPN_SSTAT (a : Nat) (b : Nat) : Nat := 0x108004 + 0x10000 * a + 0x1000 * b
/-- R170. -/
def SPN_RL_PTR (a : Nat) (b : Nat) : Nat := 0x108008 + 0x10000 * a + 0x1000 * b
/-- R170. -/
def SPN_RL_NXT (a : Nat) (b : Nat) : Nat := 0x10800c + 0x10000 * a + 0x1000 * b
/-- R170. -/
def SPN_RL_AT_LO (a : Nat) (b : Nat) : Nat := 0x108010 + 0x10000 * a + 0x1000 * b
/-- R170. -/
def SPN_RL_AT_HI (a : Nat) (b : Nat) : Nat := 0x108014 + 0x10000 * a + 0x1000 * b
/-- R170. -/
def SPN_PC (a : Nat) (b : Nat) : Nat := 0x108018 + 0x10000 * a + 0x1000 * b
/-- R170. -/
def SPN_CYC_LAST (a : Nat) (b : Nat) : Nat := 0x10801c + 0x10000 * a + 0x1000 * b
/-- R170. -/
def SPN_CYC_MAX (a : Nat) (b : Nat) : Nat := 0x108020 + 0x10000 * a + 0x1000 * b
/-- R170. -/
def SPN_FLT_INFO (a : Nat) (b : Nat) : Nat := 0x108024 + 0x10000 * a + 0x1000 * b
/-- R170. -/
def SPN_LATE_CNT (a : Nat) (b : Nat) : Nat := 0x108028 + 0x10000 * a + 0x1000 * b
/-- R170. -/
def SPN_KCYC (a : Nat) (b : Nat) (c : Nat) : Nat := 0x108100 + 0x10000 * a + 0x1000 * b + 0x4 * c
/-- R145. -/
def LOM_STAT : Nat := 0x200000
/-- R145. -/
def LOM_INT : Nat := 0x200004
/-- R145. -/
def LOM_INT_EN : Nat := 0x200008
/-- R145. -/
def LOM_DECK_F : Nat := 0x200010
/-- R145. -/
def LOM_DECK_B : Nat := 0x200014
/-- R145. -/
def LOM_DECK_X : Nat := 0x200018
/-- R145. -/
def LOM_SLOTS_F : Nat := 0x200020
/-- R145. -/
def LOM_SLOTS_B : Nat := 0x200024
/-- R145. -/
def LOM_SLOTS_X : Nat := 0x200028
/-- R145. -/
def LOM_LOAD : Nat := 0x20002c
/-- R145. -/
def LOM_SLACK : Nat := 0x200030
/-- R145. -/
def LOM_OVR_CNT : Nat := 0x200034
/-- R145. -/
def LOM_DLY_CNT : Nat := 0x200038
/-- R145. -/
def LOM_BUSOVF : Nat := 0x20003c
/-- R145. -/
def LOM_EDIT_CTRL : Nat := 0x200040
/-- R145. -/
def LOM_EDIT_AT_LO : Nat := 0x200044
/-- R145. -/
def LOM_EDIT_AT_HI : Nat := 0x200048
/-- R145. -/
def LOM_EDIT_STAT : Nat := 0x20004c
/-- R145. -/
def LOM_EDIT_CIDX : Nat := 0x200050
/-- R145. -/
def LOM_EDIT_CVAL : Nat := 0x200054
/-- R145. -/
def LOM_EDIT_CPOS : Nat := 0x200058
/-- R145. -/
def LOM_EDIT_CARD0 : Nat := 0x200060
/-- R145. -/
def LOM_EDIT_CARD1 : Nat := 0x200064
/-- R145. -/
def LOM_EDIT_CARD2 : Nat := 0x200068
/-- R145. -/
def LOM_EDIT_CARD3 : Nat := 0x20006c
/-- R500. -/
def LOM_FLT : Nat := 0x200070
/-- R500. -/
def LOM_FLT_BLK : Nat := 0x200074
/-- R500. -/
def LOM_GRACE : Nat := 0x200078
/-- R145. -/
def LOM_MTR_CFG : Nat := 0x200080
/-- R145. -/
def LOM_MTR_PK (a : Nat) : Nat := 0x204000 + 0x8 * a
/-- R145. -/
def LOM_MTR_RMS (a : Nat) : Nat := 0x204004 + 0x8 * a
/-- R226. -/
def CRL_STAT : Nat := 0x210000
/-- R226. -/
def CRL_CTRL : Nat := 0x210004
/-- R226. -/
def CRL_INT : Nat := 0x210008
/-- R226. -/
def CRL_INT_EN : Nat := 0x21000c
/-- R226. -/
def CRL_FLT : Nat := 0x210010
/-- R226. -/
def CRL_FLT_BLK : Nat := 0x210014
/-- R226. -/
def CRL_GRACE : Nat := 0x210018
/-- R226. -/
def CRL_FLT_INFO : Nat := 0x21001c
/-- R226. -/
def CRL_FMAP_LO : Nat := 0x210020
/-- R226. -/
def CRL_FMAP_HI : Nat := 0x210024
/-- R226. -/
def CRL_FORCE_LO : Nat := 0x210028
/-- R226. -/
def CRL_FORCE_HI : Nat := 0x21002c
/-- R226. -/
def CRL_RETURN_LO : Nat := 0x210030
/-- R226. -/
def CRL_RETURN_HI : Nat := 0x210034
/-- R226. -/
def CRL_ECC_THR : Nat := 0x210038
/-- R226. -/
def CRL_MIG_CFG : Nat := 0x21003c
/-- R226. -/
def CRL_MIG_CNT : Nat := 0x210040
/-- R226. -/
def CRL_MIG_LAST : Nat := 0x210044
/-- R226. -/
def CRL_BOB : Nat := 0x210048
/-- R226. -/
def CRL_LOAD (a : Nat) : Nat := 0x210100 + 0x4 * a
/-- R226. -/
def CRL_MEM (a : Nat) : Nat := 0x210200 + 0x4 * a
/-- R226. -/
def CRL_PROG (a : Nat) : Nat := 0x210300 + 0x4 * a
/-- R226. -/
def CRL_BSN_FREE (a : Nat) : Nat := 0x210400 + 0x4 * a
/-- R226. -/
def CRL_KMAP (a : Nat) : Nat := 0x212000 + 0x4 * a
/-- R109. -/
def SLU_INT : Nat := 0x220000
/-- R109. -/
def SLU_INT_EN : Nat := 0x220004
/-- R109. -/
def SLU_ACT (a : Nat) : Nat := 0x220010 + 0x4 * a
/-- R109. -/
def SLU_LOCKED (a : Nat) : Nat := 0x220030 + 0x4 * a
/-- R109. -/
def SLU_RESYNC (a : Nat) : Nat := 0x220050 + 0x4 * a
/-- R500. -/
def SLU_FLT : Nat := 0x220070
/-- R500. -/
def SLU_FLT_BLK : Nat := 0x220074
/-- R500. -/
def SLU_GRACE : Nat := 0x220078
/-- R109. -/
def SLU_CFG (a : Nat) : Nat := 0x221000 + 0x10 * a
/-- R109. -/
def SLU_STAT (a : Nat) : Nat := 0x221004 + 0x10 * a
/-- R109. -/
def SLU_RATIO (a : Nat) : Nat := 0x221008 + 0x10 * a
/-- R109. -/
def SLU_CNT (a : Nat) : Nat := 0x22100c + 0x10 * a
/-- R250. -/
def CST_CFG : Nat := 0x300000
/-- R250. -/
def CST_CMD : Nat := 0x300004
/-- R250. -/
def CST_STAT : Nat := 0x300008
/-- R250. -/
def CST_FREQ : Nat := 0x30000c
/-- R250. -/
def CST_FCHG_AT_LO : Nat := 0x300010
/-- R250. -/
def CST_FCHG_AT_HI : Nat := 0x300014
/-- R250. -/
def CST_BUDGET : Nat := 0x300018
/-- R250. -/
def CST_DEMAND : Nat := 0x30001c
/-- R250. -/
def CST_WM : Nat := 0x300020
/-- R250. -/
def CST_BANKHASH (a : Nat) : Nat := 0x300030 + 0x4 * a
/-- R250. -/
def CST_INT : Nat := 0x300050
/-- R250. -/
def CST_INT_EN : Nat := 0x300054
/-- R250. -/
def CST_FLT : Nat := 0x300058
/-- R250. -/
def CST_FLT_BLK : Nat := 0x30005c
/-- R250. -/
def CST_GRACE : Nat := 0x300060
/-- R250. -/
def CST_ECC_CNT : Nat := 0x300064
/-- R250. -/
def CST_ECC_ADDR_LO : Nat := 0x300068
/-- R250. -/
def CST_ECC_ADDR_HI : Nat := 0x30006c
/-- R250. -/
def CST_TSET0 (a : Nat) : Nat := 0x300100 + 0x4 * a
/-- R250. -/
def CST_TSET1 (a : Nat) : Nat := 0x300180 + 0x4 * a
/-- R250. -/
def CST_RSV_CTRL (a : Nat) : Nat := 0x300200 + 0x20 * a
/-- R250. -/
def CST_RSV_BASE_LO (a : Nat) : Nat := 0x300204 + 0x20 * a
/-- R250. -/
def CST_RSV_BASE_HI (a : Nat) : Nat := 0x300208 + 0x20 * a
/-- R250. -/
def CST_RSV_LEN (a : Nat) : Nat := 0x30020c + 0x20 * a
/-- R250. -/
def CST_RSV_AT_LO (a : Nat) : Nat := 0x300210 + 0x20 * a
/-- R250. -/
def CST_RSV_AT_HI (a : Nat) : Nat := 0x300214 + 0x20 * a
/-- R250. -/
def CST_RSV_WPTR (a : Nat) : Nat := 0x300218 + 0x20 * a
/-- R271. -/
def NET_CFG (a : Nat) : Nat := 0x400000 + 0x10000 * a
/-- R271. -/
def NET_STAT (a : Nat) : Nat := 0x400004 + 0x10000 * a
/-- R271. -/
def NET_INT (a : Nat) : Nat := 0x400008 + 0x10000 * a
/-- R271. -/
def NET_INT_EN (a : Nat) : Nat := 0x40000c + 0x10000 * a
/-- R271. -/
def NET_TX_THR (a : Nat) : Nat := 0x400010 + 0x10000 * a
/-- R271. -/
def NET_RXQ_DEF (a : Nat) : Nat := 0x400014 + 0x10000 * a
/-- R271. -/
def NET_MAC_LO (a : Nat) : Nat := 0x400018 + 0x10000 * a
/-- R271. -/
def NET_MAC_HI (a : Nat) : Nat := 0x40001c + 0x10000 * a
/-- R271. -/
def NET_FLT (a : Nat) : Nat := 0x400020 + 0x10000 * a
/-- R271. -/
def NET_FLT_BLK (a : Nat) : Nat := 0x400024 + 0x10000 * a
/-- R271. -/
def NET_GRACE (a : Nat) : Nat := 0x400028 + 0x10000 * a
/-- R271. -/
def NET_MHASH_LO (a : Nat) : Nat := 0x400030 + 0x10000 * a
/-- R271. -/
def NET_MHASH_HI (a : Nat) : Nat := 0x400034 + 0x10000 * a
/-- R271. -/
def NET_RXQ (a : Nat) (b : Nat) : Nat := 0x400040 + 0x10000 * a + 0x4 * b
/-- R271. -/
def NET_MATCH_A (a : Nat) (b : Nat) : Nat := 0x400100 + 0x10000 * a + 0x8 * b
/-- R271. -/
def NET_MATCH_B (a : Nat) (b : Nat) : Nat := 0x400104 + 0x10000 * a + 0x8 * b
/-- R271. -/
def NET_CNT_HALF (a : Nat) : Nat := 0x400300 + 0x10000 * a
/-- R271. -/
def NET_CNT (a : Nat) (b : Nat) : Nat := 0x400400 + 0x10000 * a + 0x4 * b
/-- R271. -/
def FWD_CTRL : Nat := 0x440000
/-- R271. -/
def FWD_TBL_CMD : Nat := 0x440004
/-- R271. -/
def FWD_TBL_D0 : Nat := 0x440008
/-- R271. -/
def FWD_TBL_D1 : Nat := 0x44000c
/-- R271. -/
def FWD_TBL_D2 : Nat := 0x440010
/-- R271. -/
def FWD_STAT : Nat := 0x440014
/-- R303. -/
def FLW_INT : Nat := 0x450000
/-- R303. -/
def FLW_INT_EN : Nat := 0x450004
/-- R303. -/
def FLW_FLT : Nat := 0x450008
/-- R303. -/
def FLW_FLT_BLK : Nat := 0x45000c
/-- R303. -/
def FLW_GRACE : Nat := 0x450010
/-- R303. -/
def FLW_VIOL : Nat := 0x450014
/-- R303. -/
def FLW_MEM : Nat := 0x450018
/-- R303. -/
def FLW_RX_STAT (a : Nat) : Nat := 0x451000 + 0x40 * a
/-- R303. -/
def FLW_RX_OFS (a : Nat) : Nat := 0x451004 + 0x40 * a
/-- R303. -/
def FLW_RX_MARGIN (a : Nat) : Nat := 0x451008 + 0x40 * a
/-- R303. -/
def FLW_RX_SSRC (a : Nat) : Nat := 0x45100c + 0x40 * a
/-- R303. -/
def FLW_RX_PKT_A (a : Nat) : Nat := 0x451010 + 0x40 * a
/-- R303. -/
def FLW_RX_PKT_B (a : Nat) : Nat := 0x451014 + 0x40 * a
/-- R303. -/
def FLW_RX_LOSS (a : Nat) : Nat := 0x451018 + 0x40 * a
/-- R303. -/
def FLW_RX_MISC (a : Nat) : Nat := 0x45101c + 0x40 * a
/-- R303. -/
def FLW_RX_VIOL (a : Nat) : Nat := 0x451020 + 0x40 * a
/-- R303. -/
def FLW_TX_STAT (a : Nat) : Nat := 0x453000 + 0x20 * a
/-- R303. -/
def FLW_TX_RTP (a : Nat) : Nat := 0x453004 + 0x20 * a
/-- R303. -/
def FLW_TX_PKT_A (a : Nat) : Nat := 0x453008 + 0x20 * a
/-- R303. -/
def FLW_TX_PKT_B (a : Nat) : Nat := 0x45300c + 0x20 * a
/-- R303. -/
def FLW_TX_DROP (a : Nat) : Nat := 0x453010 + 0x20 * a
/-- R325. -/
def TSU_NOW_NS : Nat := 0x500000
/-- R325. -/
def TSU_NOW_FRAC : Nat := 0x500004
/-- R325. -/
def TSU_NOW_SEC_LO : Nat := 0x500008
/-- R325. -/
def TSU_NOW_SEC_HI : Nat := 0x50000c
/-- R325. -/
def TSU_INCR_LO : Nat := 0x500010
/-- R325. -/
def TSU_INCR_HI : Nat := 0x500014
/-- R325. -/
def TSU_ADJ_FRAC : Nat := 0x500018
/-- R325. -/
def TSU_ADJ_CNT : Nat := 0x50001c
/-- R325. -/
def TSU_STEP_SEC : Nat := 0x500020
/-- R325. -/
def TSU_STEP_NS : Nat := 0x500024
/-- R325. -/
def TSU_STEP_CMD : Nat := 0x500028
/-- R325. -/
def TSU_JUMP_LIM : Nat := 0x50002c
/-- R325. -/
def TSU_STAT : Nat := 0x500030
/-- R325. -/
def TSU_INT : Nat := 0x500034
/-- R325. -/
def TSU_INT_EN : Nat := 0x500038
/-- R325. -/
def TSU_FLT : Nat := 0x50003c
/-- R325. -/
def TSU_FLT_BLK : Nat := 0x500040
/-- R325. -/
def TSU_GRACE : Nat := 0x500044
/-- R325. -/
def TSU_CNT : Nat := 0x500048
/-- R325. -/
def TSU_TXS_INFO : Nat := 0x500050
/-- R325. -/
def TSU_TXS_SEC : Nat := 0x500054
/-- R325. -/
def TSU_TXS_NS : Nat := 0x500058
/-- R325. -/
def TSU_RX_LAT (a : Nat) : Nat := 0x500100 + 0x10 * a
/-- R325. -/
def TSU_TX_LAT (a : Nat) : Nat := 0x500104 + 0x10 * a
/-- R325. -/
def TSU_ASYM (a : Nat) : Nat := 0x500108 + 0x10 * a
/-- R325. -/
def TSU_SPT_CTRL (a : Nat) : Nat := 0x500200 + 0x20 * a
/-- R325. -/
def TSU_SPT_SEC (a : Nat) : Nat := 0x500204 + 0x20 * a
/-- R325. -/
def TSU_SPT_NS (a : Nat) : Nat := 0x500208 + 0x20 * a
/-- R325. -/
def TSU_SPT_PER_NS (a : Nat) : Nat := 0x50020c + 0x20 * a
/-- R325. -/
def TSU_SPT_PER_FRAC (a : Nat) : Nat := 0x500210 + 0x20 * a
/-- R325. -/
def TSU_CAP_CTRL (a : Nat) : Nat := 0x500400 + 0x10 * a
/-- R325. -/
def TSU_CAP_INFO (a : Nat) : Nat := 0x500404 + 0x10 * a
/-- R325. -/
def TSU_CAP_SEC (a : Nat) : Nat := 0x500408 + 0x10 * a
/-- R325. -/
def TSU_CAP_NS (a : Nat) : Nat := 0x50040c + 0x10 * a
/-- R325. -/
def TSU_WIN_CTRL (a : Nat) : Nat := 0x500600 + 0x20 * a
/-- R325. -/
def TSU_WIN_OPEN_SEC (a : Nat) : Nat := 0x500604 + 0x20 * a
/-- R325. -/
def TSU_WIN_OPEN_NS (a : Nat) : Nat := 0x500608 + 0x20 * a
/-- R325. -/
def TSU_WIN_CLOSE_SEC (a : Nat) : Nat := 0x50060c + 0x20 * a
/-- R325. -/
def TSU_WIN_CLOSE_NS (a : Nat) : Nat := 0x500610 + 0x20 * a
/-- R325. -/
def TSU_WIN_EVT : Nat := 0x500800
/-- R354. -/
def WLH_STAT : Nat := 0x510000
/-- R354. -/
def WLH_INT : Nat := 0x510004
/-- R354. -/
def WLH_INT_EN : Nat := 0x510008
/-- R354. -/
def WLH_FLT : Nat := 0x51000c
/-- R354. -/
def WLH_FLT_BLK : Nat := 0x510010
/-- R354. -/
def WLH_GRACE : Nat := 0x510014
/-- R354. -/
def WLH_CTRL : Nat := 0x510018
/-- R354. -/
def WLH_TOL : Nat := 0x510020
/-- R354. -/
def WLH_HYST : Nat := 0x510024
/-- R354. -/
def WLH_AGREE : Nat := 0x510028
/-- R354. -/
def WLH_HOLD_BUDGET : Nat := 0x51002c
/-- R354. -/
def WLH_QUAL : Nat := 0x510030
/-- R354. -/
def WLH_AGING : Nat := 0x510034
/-- R354. -/
def WLH_TEMPCO : Nat := 0x510038
/-- R354. -/
def WLH_XO_TEMP : Nat := 0x51003c
/-- R354. -/
def WLH_XO_EST : Nat := 0x510040
/-- R354. -/
def WLH_HOLD_ERR : Nat := 0x510044
/-- R354. -/
def WLH_HOLD_TIME : Nat := 0x510048
/-- R354. -/
def WLH_CAND_CFG (a : Nat) : Nat := 0x510100 + 0x20 * a
/-- R354. -/
def WLH_CAND_STAT (a : Nat) : Nat := 0x510104 + 0x20 * a
/-- R354. -/
def WLH_CAND_OFS1 (a : Nat) : Nat := 0x510108 + 0x20 * a
/-- R354. -/
def WLH_CAND_OFS16 (a : Nat) : Nat := 0x51010c + 0x20 * a
/-- R354. -/
def WLH_CAND_OFS256 (a : Nat) : Nat := 0x510110 + 0x20 * a
/-- R354. -/
def WLH_CAND_CNT (a : Nat) : Nat := 0x510114 + 0x20 * a
/-- R354. -/
def WLH_QL_STAT (a : Nat) : Nat := 0x510300 + 0x10 * a
/-- R354. -/
def WLH_QL_CNT (a : Nat) : Nat := 0x510304 + 0x10 * a
/-- R354. -/
def WLH_WCKO_CTRL (a : Nat) : Nat := 0x510400 + 0x10 * a
/-- R354. -/
def WLH_WCKO_OFS (a : Nat) : Nat := 0x510404 + 0x10 * a
/-- R369. -/
def RIL_INT : Nat := 0x600000
/-- R369. -/
def RIL_INT_EN : Nat := 0x600004
/-- R369. -/
def RIL_FLT : Nat := 0x600008
/-- R369. -/
def RIL_FLT_BLK : Nat := 0x60000c
/-- R369. -/
def RIL_GRACE : Nat := 0x600010
/-- R369. -/
def RIL_HANK_MASK (a : Nat) : Nat := 0x600100 + 0x10 * a
/-- R369. -/
def RIL_HANK_MASK_ACTIVE (a : Nat) : Nat := 0x600104 + 0x10 * a
/-- R369. -/
def RIL_HANK_STAT (a : Nat) : Nat := 0x600108 + 0x10 * a
/-- R369. -/
def RIL_CFG (a : Nat) : Nat := 0x601000 + 0x20 * a
/-- R369. -/
def RIL_FMT (a : Nat) : Nat := 0x601004 + 0x20 * a
/-- R369. -/
def RIL_STAT (a : Nat) : Nat := 0x601008 + 0x20 * a
/-- R369. -/
def RIL_DIV (a : Nat) : Nat := 0x60100c + 0x20 * a
/-- R369. -/
def RIL_CMD (a : Nat) : Nat := 0x601010 + 0x20 * a
/-- R369. -/
def RIL_CNT (a : Nat) : Nat := 0x601014 + 0x20 * a
/-- R369. -/
def RIL_SLIP (a : Nat) : Nat := 0x601018 + 0x20 * a
/-- R369. -/
def RIL_PERIOD (a : Nat) : Nat := 0x60101c + 0x20 * a
/-- R388. -/
def JET_INT : Nat := 0x610000
/-- R388. -/
def JET_INT_EN : Nat := 0x610004
/-- R388. -/
def JET_FLT : Nat := 0x610008
/-- R388. -/
def JET_FLT_BLK : Nat := 0x61000c
/-- R388. -/
def JET_GRACE : Nat := 0x610010
/-- R388. -/
def JET_BANK_CFG (a : Nat) : Nat := 0x610100 + 0x10 * a
/-- R388. -/
def JET_BANK_STAT (a : Nat) : Nat := 0x610104 + 0x10 * a
/-- R388. -/
def JET_BANK_CMD (a : Nat) : Nat := 0x610108 + 0x10 * a
/-- R388. -/
def JET_STAT (a : Nat) : Nat := 0x611000 + 0x40 * a
/-- R388. -/
def JET_CMD (a : Nat) : Nat := 0x611004 + 0x40 * a
/-- R388. -/
def JET_GAIN (a : Nat) : Nat := 0x611008 + 0x40 * a
/-- R388. -/
def JET_GAINS (a : Nat) : Nat := 0x61100c + 0x40 * a
/-- R388. -/
def JET_TEMP (a : Nat) : Nat := 0x611010 + 0x40 * a
/-- R388. -/
def JET_RE (a : Nat) : Nat := 0x611014 + 0x40 * a
/-- R388. -/
def JET_STAGE_T (a : Nat) : Nat := 0x611018 + 0x40 * a
/-- R388. -/
def JET_AMB (a : Nat) : Nat := 0x61101c + 0x40 * a
/-- R388. -/
def JET_CNT (a : Nat) : Nat := 0x611020 + 0x40 * a
/-- R388. -/
def JET_CLIP (a : Nat) : Nat := 0x611024 + 0x40 * a
/-- R388. -/
def SNS_INT : Nat := 0x620000
/-- R388. -/
def SNS_INT_EN : Nat := 0x620004
/-- R388. -/
def SNS_FLT : Nat := 0x620008
/-- R388. -/
def SNS_FLT_BLK : Nat := 0x62000c
/-- R388. -/
def SNS_GRACE : Nat := 0x620010
/-- R388. -/
def SNS_LIVE_LO : Nat := 0x620020
/-- R388. -/
def SNS_LIVE_HI : Nat := 0x620024
/-- R388. -/
def SNS_BUS_LIVE : Nat := 0x620028
/-- R388. -/
def SNS_BUS_FS (a : Nat) : Nat := 0x620100 + 0x8 * a
/-- R388. -/
def SNS_BUS (a : Nat) : Nat := 0x620104 + 0x8 * a
/-- R274. -/
def CTL_CFG : Nat := 0x700000
/-- R274. -/
def CTL_STAT : Nat := 0x700004
/-- R274. -/
def CTL_INT : Nat := 0x700008
/-- R274. -/
def CTL_INT_EN : Nat := 0x70000c
/-- R274. -/
def CTL_TX_THR : Nat := 0x700010
/-- R274. -/
def CTL_RXQ_DEF : Nat := 0x700014
/-- R274. -/
def CTL_MAC_LO : Nat := 0x700018
/-- R274. -/
def CTL_MAC_HI : Nat := 0x70001c
/-- R274. -/
def CTL_FLT : Nat := 0x700020
/-- R274. -/
def CTL_FLT_BLK : Nat := 0x700024
/-- R274. -/
def CTL_GRACE : Nat := 0x700028
/-- R274. -/
def CTL_MHASH_LO : Nat := 0x700030
/-- R274. -/
def CTL_MHASH_HI : Nat := 0x700034
/-- R274. -/
def CTL_RXQ (a : Nat) : Nat := 0x700040 + 0x4 * a
/-- R274. -/
def CTL_MATCH_A (a : Nat) : Nat := 0x700100 + 0x8 * a
/-- R274. -/
def CTL_MATCH_B (a : Nat) : Nat := 0x700104 + 0x8 * a
/-- R274. -/
def CTL_CNT_HALF : Nat := 0x700300
/-- R274. -/
def CTL_CNT (a : Nat) : Nat := 0x700400 + 0x4 * a
/-- R280. -/
def FBS_CFG : Nat := 0x710000
/-- R280. -/
def FBS_INT : Nat := 0x710008
/-- R280. -/
def FBS_INT_EN : Nat := 0x71000c
/-- R280. -/
def FBS_SEED : Nat := 0x710010
/-- R280. -/
def FBS_MDIO : Nat := 0x710014
/-- R280. -/
def FBS_MAC_LO : Nat := 0x710018
/-- R280. -/
def FBS_MAC_HI : Nat := 0x71001c
/-- R280. -/
def FBS_FLT : Nat := 0x710020
/-- R280. -/
def FBS_FLT_BLK : Nat := 0x710024
/-- R280. -/
def FBS_GRACE : Nat := 0x710028
/-- R280. -/
def FBS_MHASH_LO : Nat := 0x710030
/-- R280. -/
def FBS_MHASH_HI : Nat := 0x710034
/-- R280. -/
def FBS_CNT_HALF : Nat := 0x710300
/-- R280. -/
def FBS_CNT (a : Nat) : Nat := 0x710400 + 0x4 * a
/-- R440. -/
def HST_STAT : Nat := 0x720000
/-- R440. -/
def HST_INT : Nat := 0x720004
/-- R440. -/
def HST_INT_EN : Nat := 0x720008
/-- R440. -/
def HST_FLT : Nat := 0x72000c
/-- R440. -/
def HST_FLT_BLK : Nat := 0x720010
/-- R440. -/
def HST_GRACE : Nat := 0x720014
/-- R440. -/
def HST_ISTAT : Nat := 0x720020
/-- R440. -/
def HST_IEN : Nat := 0x720024
/-- R440. -/
def HST_IACK_LO : Nat := 0x720028
/-- R440. -/
def HST_IACK_HI : Nat := 0x72002c
/-- R440. -/
def HST_IVEC (a : Nat) : Nat := 0x720030 + 0x4 * a
/-- R440. -/
def HST_RING_EVT : Nat := 0x720050
/-- R440. -/
def HST_RXRING_BASE_LO (a : Nat) : Nat := 0x720100 + 0x20 * a
/-- R440. -/
def HST_RXRING_BASE_HI (a : Nat) : Nat := 0x720104 + 0x20 * a
/-- R440. -/
def HST_RXRING_SIZE (a : Nat) : Nat := 0x720108 + 0x20 * a
/-- R440. -/
def HST_RXRING_HEAD (a : Nat) : Nat := 0x72010c + 0x20 * a
/-- R440. -/
def HST_RXRING_TAIL (a : Nat) : Nat := 0x720110 + 0x20 * a
/-- R440. -/
def HST_RXRING_CTRL (a : Nat) : Nat := 0x720114 + 0x20 * a
/-- R440. -/
def HST_TXRING_BASE_LO (a : Nat) : Nat := 0x720200 + 0x20 * a
/-- R440. -/
def HST_TXRING_BASE_HI (a : Nat) : Nat := 0x720204 + 0x20 * a
/-- R440. -/
def HST_TXRING_SIZE (a : Nat) : Nat := 0x720208 + 0x20 * a
/-- R440. -/
def HST_TXRING_HEAD (a : Nat) : Nat := 0x72020c + 0x20 * a
/-- R440. -/
def HST_TXRING_TAIL (a : Nat) : Nat := 0x720210 + 0x20 * a
/-- R440. -/
def HST_TXRING_CTRL (a : Nat) : Nat := 0x720214 + 0x20 * a
/-- R440. -/
def MBX_PRIV : Nat := 0x730000
/-- R440. -/
def MBX_CEIL : Nat := 0x730004
/-- R440. -/
def MBX_STRAP : Nat := 0x730008
/-- R440. -/
def MBX_INT : Nat := 0x730010
/-- R440. -/
def MBX_INT_EN : Nat := 0x730014
/-- R440. -/
def MBX_FLT : Nat := 0x730018
/-- R440. -/
def MBX_FLT_BLK : Nat := 0x73001c
/-- R440. -/
def MBX_GRACE : Nat := 0x730020
/-- R440. -/
def MBX_ECP_CNT (a : Nat) : Nat := 0x730030 + 0x8 * a
/-- R440. -/
def MBX_ECP_IGN (a : Nat) : Nat := 0x730034 + 0x8 * a
/-- R440. -/
def MBX_VLOG_STAT (a : Nat) : Nat := 0x730060 + 0x4 * a
/-- R440. -/
def MBX_DB (a : Nat) : Nat := 0x730100 + 0x20 * a
/-- R440. -/
def MBX_DB_EN (a : Nat) : Nat := 0x730104 + 0x20 * a
/-- R440. -/
def MBX_DB_SET (a : Nat) : Nat := 0x730108 + 0x20 * a
/-- R440. -/
def MBX_EVT (a : Nat) : Nat := 0x73010c + 0x20 * a
/-- R440. -/
def MBX_EVT_EN (a : Nat) : Nat := 0x730110 + 0x20 * a
/-- R440. -/
def MBX_DATA (a : Nat) (b : Nat) : Nat := 0x731000 + 0x80 * a + 0x4 * b
/-- R440. -/
def MBX_CTRL (a : Nat) : Nat := 0x731040 + 0x80 * a
/-- R440. -/
def MBX_VLOG (a : Nat) (b : Nat) (c : Nat) : Nat := 0x734000 + 0x100 * a + 0x10 * b + 0x4 * c
/-- R412. -/
def PAR_CFG : Nat := 0x800000
/-- R412. -/
def PAR_ID : Nat := 0x800004
/-- R412. -/
def PAR_STAT : Nat := 0x800008
/-- R412. -/
def PAR_CMD : Nat := 0x80000c
/-- R412. -/
def PAR_INT : Nat := 0x800010
/-- R412. -/
def PAR_INT_EN : Nat := 0x800014
/-- R412. -/
def PAR_FLT : Nat := 0x800018
/-- R412. -/
def PAR_FLT_BLK : Nat := 0x80001c
/-- R412. -/
def PAR_GRACE : Nat := 0x800020
/-- R412. -/
def PAR_LEASE_LO : Nat := 0x800024
/-- R412. -/
def PAR_LEASE_HI : Nat := 0x800028
/-- R412. -/
def PAR_SWITCH_LO : Nat := 0x80002c
/-- R412. -/
def PAR_SWITCH_HI : Nat := 0x800030
/-- R412. -/
def PAR_DIG_CNT : Nat := 0x800034
/-- R412. -/
def PAR_DIG_LAST : Nat := 0x800038
/-- R412. -/
def PAR_DIG_LAST_BLK : Nat := 0x80003c
/-- R412. -/
def PAR_TWIN_OFS : Nat := 0x800040
/-- R412. -/
def PAR_VIOL : Nat := 0x800044
/-- R412. -/
def PAR_LANE_CNT (a : Nat) : Nat := 0x800050 + 0x4 * a
/-- R412. -/
def PAR_DIG_MASK (a : Nat) : Nat := 0x800100 + 0x4 * a

end Sys2Proof.Machine.Reg
end

