-- ==== Sys2Proof/Machine/State.lean ====
section
/-! DEFINITION. The state of the LF2048 as plain data: the queue of waiting commands, the semaphores, and the block
itself; and the state right after reset. -/

namespace Sys2Proof.Machine

/-- Everything the spec gives the block but its semaphores. -/
structure Block where
  /-- What has left the device, newest first. -/
  out : List Output := []
  /-- MODEL: counter of the free values drawn so far (log entry 1). -/
  free : Nat := 0
  /-- The register file: offset in register space to word; an unlisted register reads its reset value. -/
  regs : Tab (BitVec 32) := []
  /-- Fault records, keyed by the source number k of R423. -/
  flt : Tab FltRec := []
  /-- The power clock's instant in ns at which a record of class I or S last opened, or a merge raised one to it (R496). -/
  errPulse : Option Nat := none
  /-- MODEL: while a command raises the errors of one cycle, the sources whose records have opened in it (R488). -/
  cycle : Option (List Nat) := none
  /-- Byte-addressed memory of the 40-bit physical space (R24): basins, distaff SRAM, spindle memories, cistern. -/
  mem : List Host.Cell := []
  /-- Muted plies: ply to the set of causes, one bit each (R87). -/
  muted : Tab Nat := []
  /-- The block tick from which a cause of mute applies, by cause (R92). -/
  muteFrom : Tab Nat := []
  /-- Plies muted by an escalation, each with its source, that ACK releases at the next block tick (R491). -/
  escAcked : List (Nat × Nat) := []
  stg : Staging := {}
  loom : Loom := {}
  sluices : Tab Sluice := []
  spns : Tab Spindle := []
  crl : Creel := {}
  cst : Cistern := {}
  net : Net := {}
  tsu : Tsu := {}
  wlh : Wlh := {}
  par : Par := {}
  ril : Ril := {}
  jet : Jets := {}
  sys : Sys := {}
  /-- The instant of the last error of class D, I or S (R408). -/
  dFault : Option Nat := none
  deriving DecidableEq, Repr

/-- The state: the commands that wait, first in first out; the semaphores of R448 (an unlisted one is free, a listed one
holds its holder's master number plus 1); and the block. -/
structure State where
  pending : List Instr := []
  sems : Tab Nat := []
  blk : Block := {}
  deriving DecidableEq, Repr

/-- No meaning of this model stops with a fault: an error of the hardware is an effect on its state (R486). -/
inductive Fault where
  deriving DecidableEq, Repr

/-- Why a command has no meaning. -/
inductive Refusal where
  /-- Raised by exec for a command whose meaning is not written yet. Safe: the run stops. -/
  | notModelled (mnemonic : String)
  deriving DecidableEq, Repr

/-- The machine right after a power-on reset (R477): every register at the reset value of its table, every memory byte
unlisted, nothing waiting. -/
def State.reset : State := {}

end Sys2Proof.Machine
end

