-- ==== Sys2Proof/Machine/Ops.lean ====
section
/-! DEFINITION. The operations every chapter shares: the register file, memory, time and ticks, fault records and
interrupts, mutes, free values and the output log. -/

namespace Sys2Proof.Machine

/-- What `exec` and `step` answer. -/
abbrev Answer := Host.Outcome State Fault Refusal

/-! ## Registers (R7, R9) -/

/-- The reset value of a register (its table in spec/); 0 where the manual assigns no register (R9). FBS_SEED resets
to the fused value (R280). -/
def regReset (a : Nat) : BitVec 32 :=
  if a = Reg.FBS_SEED then Config.fusedSeed
  else match regRow a with
    | some r => BitVec.ofNat 32 r.reset
    | none => 0

/-- What the register file holds for a register. -/
def Block.reg (b : Block) (a : Nat) : Nat := (tget (regReset a) b.regs a).toNat

/-- Set a register, as hardware does. -/
def Block.setReg (b : Block) (a v : Nat) : Block :=
  { b with regs := tput (regReset a) a (BitVec.ofNat 32 v) b.regs }

/-- A field of a register. -/
def Block.rfld (b : Block) (a lo n : Nat) : Nat := fld (b.reg a) lo n

/-- One bit of a register. -/
def Block.rbit (b : Block) (a i : Nat) : Bool := bit (b.reg a) i

/-- Set a field of a register. -/
def Block.setRfld (b : Block) (a lo n v : Nat) : Block := b.setReg a (setFld (b.reg a) lo n v)

/-- Set bits of a register, as hardware sets event bits. -/
def Block.orReg (b : Block) (a m : Nat) : Block := b.setReg a (b.reg a ||| m)

/-- Set one event bit of an INT register. -/
def Block.setInt (b : Block) (a i : Nat) : Block := b.orReg a (2 ^ i)

/-- Clear one bit of a register. -/
def Block.clrBit (b : Block) (a i : Nat) : Block := b.setRfld a i 1 0

/-- Add to a counter field that saturates at its greatest value. -/
def Block.count (b : Block) (a lo n k : Nat) : Block :=
  b.setRfld a lo n (satN (2 ^ n - 1) (b.rfld a lo n + k))

/-- A 64-bit value held as a register pair LO, HI. -/
def Block.reg64 (b : Block) (lo hi : Nat) : Nat := b.reg lo + 2 ^ 32 * b.reg hi

def Block.setReg64 (b : Block) (lo hi v : Nat) : Block :=
  (b.setReg lo (v % 2 ^ 32)).setReg hi (v / 2 ^ 32 % 2 ^ 32)

/-! ## The output log and free values -/

/-- Log what leaves the device. -/
def Block.emit (b : Block) (o : Output) : Block := { b with out := o :: b.out }

/-- Whether the unit drives its outputs: unpaired, HOLDER or SOLO, and not severed (R401, R405, R494). -/
def Block.drives (b : Block) : Bool :=
  !b.rbit Reg.SYS_SEVER 31 && (b.par.st == 0 || b.par.st == 2 || b.par.st == 3)

/-- What a rill or a jet gives to its balls; nothing leaves a unit that does not drive (R405). -/
def Block.emitOut (b : Block) (o : Output) : Block := if b.drives then b.emit o else b

/-- Draw a free value: the value and the block with the counter advanced (log entry 1). -/
def Block.draw (b : Block) : Nat × Block := (Config.freeValue b.free, { b with free := b.free + 1 })

/-- Draw a free value of `n` bits. -/
def Block.drawBits (b : Block) (n : Nat) : Nat × Block :=
  let r := b.draw
  (r.1 % 2 ^ n, r.2)

/-- `num / den` where the manual states no rounding: exact when it is exact, else one of the two integers beside it, a
free value (log entry 8). -/
def Block.drawRound (b : Block) (num : Int) (den : Nat) : Int × Block :=
  if num % (den : Int) = 0 then (num / (den : Int), b)
  else
    let r := b.drawBits 1
    (num / (den : Int) + (r.1 : Int), r.2)

/-- An exact value as register `a` shows it, where the manual states no rounding: exact when it is exact, else one of the
two integers beside it, which one is left open (log entry 8). -/
def roundView (a : Nat) (x : Rat) : Int := if x.den = 1 then x.num else x.floor + b2n (Config.viewRound a x)

def Block.setSys (b : Block) (f : Sys → Sys) : Block := { b with sys := f b.sys }

/-- Whether a power domain is on (R458, R459). -/
def Block.domOn (b : Block) (i : Nat) : Bool := b.rbit Reg.PWR_DOM_ON i

/-! ## Memory (R24) -/

/-- What a byte of memory that nothing has written reads as (log entry 6). -/
def memDefault : BitVec 8 := 0

/-- Base of the cistern (R24). -/
def cisternBase : Nat := 0x400000000

/-- Whether an address can be reached: cistern space only while the cistern is in SERVICE, or in a frequency change,
during which requests wait (R241, R244). -/
def Block.live (b : Block) (a : Nat) : Bool := decide (a < cisternBase) || b.cst.st == 2 || b.cst.st == 3

/-- One byte of memory; cistern space reads 0 while the cistern is out of service (R241), and so does a word with a
double-bit error (R231, R455). -/
def Block.rd8 (b : Block) (a : Nat) : BitVec 8 :=
  if b.live a then (if tget 0 b.sys.memErr (a / 8) = 2 then 0 else tget memDefault b.mem a) else 0

/-- `n` bytes of memory from an address. -/
def Block.rdBytes (b : Block) (a n : Nat) : Bytes := (upFrom a n).map b.rd8

/-- A little-endian value of `n` bytes. -/
def Block.rdLE (b : Block) (a n : Nat) : Nat := leNat (b.rdBytes a n)

/-- Write one byte. -/
def memPut (m : List Host.Cell) (a : Nat) (v : BitVec 8) : List Host.Cell := tput memDefault a v m

/-- Write bytes at consecutive addresses. -/
def memPuts : List Host.Cell → Nat → Bytes → List Host.Cell
  | m, _, [] => m
  | m, a, v :: r => memPuts (memPut m a v) (a + 1) r

/-- The 8-byte words that `n` bytes from an address lie in, by their number. -/
def wordsOf (a n : Nat) : List Nat := upFrom (a / 8) ((a + n + 7) / 8 - a / 8)

/-- A write mends the words it touches: what it leaves of a word with a double-bit error is 0 (R231, R453, R455). -/
def Block.mend (b : Block) (a n : Nat) : Block :=
  let ws := (wordsOf a n).filter (fun w => tget 0 b.sys.memErr w != 0)
  let lost := ws.filter (fun w => tget 0 b.sys.memErr w == 2)
  { b with mem := lost.foldl (fun m w => memPuts m (8 * w) (List.replicate 8 0)) b.mem,
           sys := { b.sys with memErr := ws.foldl (fun t w => tput 0 w 0 t) b.sys.memErr } }

/-- Write bytes; a write to cistern space has no effect while the cistern is out of service (R241). -/
def Block.wrBytes (b : Block) (a : Nat) (bs : Bytes) : Block :=
  if b.live a then
    let b1 := if b.sys.memErr.isEmpty then b else b.mend a bs.length
    { b1 with mem := memPuts b1.mem a bs }
  else b

def Block.wrLE (b : Block) (a n v : Nat) : Block := b.wrBytes a (leBytes n v)

/-- Copy `n` bytes from one address to another. -/
def Block.copyMem (b : Block) (src dst n : Nat) : Block := b.wrBytes dst (b.rdBytes src n)

/-- Zero `n` bytes. -/
def Block.zeroMem (b : Block) (a n : Nat) : Block := b.wrBytes a (List.replicate n 0)

/-- Base of a bobbin's basin and of a spindle's window (R24). -/
def basinBase (n : Nat) : Nat := 0x20000000 + n * 0x100000
def spnWindow (s : Nat) : Nat := 0x30000000 + s * 0x40000

/-! ## Time (R68, R90, R304 to R311) -/

/-- One second in units of 2^-32 ns. -/
def secFrac : Nat := 1000000000 * 2 ^ 32

/-- TSU time in units of 2^-32 ns. -/
def tsuTotal (t : Tsu) : Nat := t.sec * secFrac + t.ns * 2 ^ 32 + t.frac

/-- Set TSU time from units of 2^-32 ns; the seconds field is 48 bits (R304). -/
def tsuSet (t : Tsu) (x : Nat) : Tsu :=
  { t with sec := x / secFrac % 2 ^ 48, ns := x / 2 ^ 32 % 1000000000, frac := x % 2 ^ 32 }

def Block.now (b : Block) : Nat := tsuTotal b.tsu

/-- The time the tick generator stands at: TSU time less the unabsorbed remainder (R311). -/
def Block.tickTime (b : Block) : Nat := ((b.now : Int) - b.tsu.rem).toNat

/-- f_blk of the family in force (R68). -/
def Block.fBlk (b : Block) : Nat := if b.wlh.family = 1 then 11025 else 12000

/-- f_B of the family in force (R90). -/
def Block.fB (b : Block) : Nat := if b.wlh.family = 1 then 44100 else 48000

/-- The number of ticks of rate `f` since the PTP epoch. -/
def Block.ticksAt (b : Block) (f : Nat) : Nat := b.tickTime * f / secFrac

/-- The current block number (R68). -/
def Block.blk (b : Block) : Nat := b.ticksAt b.fBlk

/-- The instant of tick `k` of rate `f`, in units of 2^-32 ns (rounded up to the unit). -/
def tickInstant (f k : Nat) : Nat := ceilDiv (k * secFrac) f

/-- The DOMN fields in force. -/
def Block.domn (b : Block) : Domn := b.stg.force.elim {} Draft.domn

/-- Samples per block of domain 0 F or 1 B (R90). -/
def Block.spb (b : Block) (dom : Nat) : Nat := if dom = 0 then 4 * b.domn.fMult else 4

/-- The rate of domain 0 F or 1 B (R90); domain X at its nominal rate. -/
def Block.rate (b : Block) (dom : Nat) : Nat :=
  if dom = 0 then b.domn.fMult * b.fB else if dom = 1 then b.fB else b.domn.xRate

/-- The index of the last sample tick of a domain: X ticks are counted as they come (R94). -/
def Block.tick (b : Block) (dom : Nat) : Nat :=
  if dom = 2 then b.loom.xTick else b.ticksAt (b.rate dom)

/-- A stamp of the present instant on the 500 MHz clock, interpolated to 125 ps (R102, R309). -/
def Block.clkStamp (b : Block) (tap : Nat) : Nat := 16 * b.tsu.ticks + tap % 16

/-- An X sample tick comes (R94); `t` is its stamp. -/
def Block.xTickNow (t : Nat) (b : Block) : Block :=
  let n := b.blk
  { b with loom := { b.loom with xTick := b.loom.xTick + 1, xStopped := false, xAt := b.tsu.ticks,
                                 xStamps := t :: b.loom.xStamps.take 3, xBlk := n, xBlkPrev := b.loom.xBlk } }

/-- The stamp of tick `k` of a domain on the 500 MHz clock, in 125 ps: of a tick of F or B by the tick generator, at its
present rate; of one of the last X ticks as it was taken (R102). -/
def Block.tickStamp (b : Block) (dom k : Nat) : Nat :=
  if dom = 2 then b.loom.xStamps.getD (b.loom.xTick - k) 0
  else ((16 * b.tsu.ticks : Nat) + ((tickInstant (b.rate dom) k : Int) - b.tickTime) * 16 / (max 1 b.tsu.incr : Nat)).toNat

/-- Where a domain stands in its samples, in units of a sample over `secFrac` (R361); past the last X tick, domain X is
counted at X_RATE. -/
def Block.pos (b : Block) (dom : Nat) : Nat :=
  if dom = 2 then b.loom.xTick * secFrac + (b.tsu.ticks - b.loom.xAt) * 2 ^ 33 * b.rate 2 else b.tickTime * b.rate dom

/-- The current release number of a domain: the release of block b is one sample after block tick b (R32). -/
def Block.release (b : Block) (dom : Nat) : Nat := (b.tick dom - 1) / b.spb dom

/-- A stamp of the present instant, in 125 ps units, with the interpolator's tap (R312). -/
def Block.stamp (b : Block) (tap : Nat) : Nat := b.now * 8 / 2 ^ 32 + tap % 16

/-- The most by which the tick generator changes a tick of the time clock against the audio master, which shares its clock's offset
(R311, R326): 2 ns x 10^-4. -/
def slackTick : Int := 858993

/-- A remainder that is not below 0 after `n` ticks of which each moves TSU time by `e` against the audio master: the generator follows
within its slack (R311). -/
def remUp (r e : Int) (n : Nat) : Int :=
  if n = 0 then r
  else if -slackTick ≤ e then max 0 (r + n * (e - slackTick))
  else
    let n1 := min n (r / (slackTick - e)).toNat
    let x := r + n1 * (e - slackTick) + e
    if n1 = n then r + n1 * (e - slackTick)
    else (if x ≤ -slackTick then x + slackTick else if x ≤ slackTick then 0 else x - slackTick) + ((n - 1 - n1 : Nat) : Int) * (e + slackTick)

/-- The remainder R_a after `n` such ticks (R311). -/
def remAfter (r e : Int) (n : Nat) : Int := if 0 ≤ r then remUp r e n else -remUp (-r) (-e) n

/-- `n` ticks of the 500 MHz time clock, each of which adds `inc` to TSU time. -/
def Tsu.go (t : Tsu) (inc : Int) (n : Nat) : Tsu :=
  if n = 0 then t
  else
    let t1 := tsuSet t (((tsuTotal t : Int) + inc * n).toNat)
    let same := t.segs.head?.any (fun e => e.2.2 == inc)
    { t1 with ticks := t.ticks + n, rem := remAfter t.rem (inc - 2 ^ 33) n,
              segs := if same then t.segs else (t.ticks, (tsuTotal t : Int), inc) :: t.segs.take 7 }

/-- `n` ticks of the time clock with no step (R304 to R306, R311): the increment, and the slew while its count lasts. -/
def Tsu.run (t : Tsu) (n : Nat) : Tsu :=
  if n = 0 then t
  else
    let inc := t.incrNext.getD t.incr
    let k := min n t.slewCnt
    let t1 := { t with incr := inc, incrNext := none, slewCnt := t.slewCnt - k }
    (t1.go (inc + t.slewFrac) k).go inc (n - k)

/-- TSU time at a tick of the time clock that has passed, by the increments and steps in between. -/
def Tsu.totalAt (t : Tsu) (u : Nat) : Int :=
  match t.segs.find? (fun e => decide (e.1 ≤ u)) with
  | some e => e.2.1 + e.2.2 * (u - e.1 : Nat)
  | none => match t.segs.getLast? with
    | some e => e.2.1 - e.2.2 * (e.1 - u : Nat)
    | none => (tsuTotal t : Int) + t.incr * ((u : Int) - t.ticks)

/-- TSU time, in 125 ps, at an instant of the 500 MHz clock, interpolated to its 16 taps (R312, R313). -/
def Block.stampAt (b : Block) (clk : Nat) : Nat := (b.tsu.totalAt (clk / 16) * 8 / 2 ^ 32).toNat + clk % 16

/-- How many ticks bring the tick generator to an instant `x`, if it is still before it. -/
def Block.ticksTo (b : Block) (x : Nat) : Nat :=
  let t := b.tickTime
  if x ≤ t then 0
  else
    let gap := x - t
    let inc := b.tsu.incrNext.getD b.tsu.incr
    let fast := ((inc : Int) + b.tsu.slewFrac).toNat
    let n1 := min b.tsu.slewCnt (ceilDiv gap (max 1 fast))
    let left := gap - min gap (n1 * fast)
    n1 + ceilDiv left (max 1 inc)

/-- The clock that power management runs on, in ns: it counts on through every reset but a power-on reset. -/
def Block.pclk (b : Block) : Nat := 2 * (b.sys.tickBase + b.tsu.ticks)

/-! ## Faults (R485 to R490) -/

/-- Source numbers k of R423. -/
def srcSYS : Nat := 0
def srcPWR : Nat := 1
def srcMTX : Nat := 2
def srcBSN : Nat := 3
def srcSPN (n : Nat) : Nat := 4 + n
def srcLOM : Nat := 12
def srcCRL : Nat := 13
def srcSLU : Nat := 14
def srcCST : Nat := 15
def srcNET (n : Nat) : Nat := 16 + n
def srcFLW : Nat := 21
def srcTSU : Nat := 22
def srcWLH : Nat := 23
def srcRIL : Nat := 24
def srcJET : Nat := 25
def srcSNS : Nat := 26
def srcCTL : Nat := 27
def srcFBS : Nat := 28
def srcHST : Nat := 29
def srcMBX : Nat := 30
def srcPAR : Nat := 31

/-- The offsets of xxx_FLT and xxx_GRACE of each source (R498, R500). FWD has no record. -/
def fltReg (k : Nat) : Nat :=
  if 4 ≤ k ∧ k < 12 then Reg.SPN_FLT (k - 4)
  else if 16 ≤ k ∧ k < 20 then Reg.NET_FLT (k - 16)
  else match k with
    | 0 => Reg.SYS_FLT
    | 1 => Reg.PWR_FLT
    | 2 => Reg.MTX_FLT
    | 3 => Reg.BSN_FLT
    | 12 => Reg.LOM_FLT
    | 13 => Reg.CRL_FLT
    | 14 => Reg.SLU_FLT
    | 15 => Reg.CST_FLT
    | 21 => Reg.FLW_FLT
    | 22 => Reg.TSU_FLT
    | 23 => Reg.WLH_FLT
    | 24 => Reg.RIL_FLT
    | 25 => Reg.JET_FLT
    | 26 => Reg.SNS_FLT
    | 27 => Reg.CTL_FLT
    | 28 => Reg.FBS_FLT
    | 29 => Reg.HST_FLT
    | 30 => Reg.MBX_FLT
    | _ => Reg.PAR_FLT

def graceReg (k : Nat) : Nat := fltReg k + 8

/-- The fault record of a source. -/
def Block.frec (b : Block) (k : Nat) : FltRec := tget {} b.flt k

def Block.setRec (b : Block) (k : Nat) (r : FltRec) : Block := { b with flt := tput {} k r b.flt }

/-- A record after an error (R487): it opens with the error's values at the instant `at'`, or the error is merged. -/
def recAfter (r : FltRec) (grace blk at' code cls spec unit : Nat) : FltRec :=
  if r.pend then
    { r with merge := satN 255 (r.merge + 1), cls := max r.cls cls, held := r.held ++ [⟨code, unit⟩] }
  else
    { pend := true, code := code, cls := cls, spec := spec, merge := 0, blk := blk % 2 ^ 32, timer := true,
      grace := grace, at' := at', held := [⟨code, unit⟩] }

/-- A record that opened in the present cycle, after one more error of that cycle: the least code has opened it (R488). -/
def recSame (r : FltRec) (code cls spec unit : Nat) : FltRec :=
  { r with code := min code r.code, spec := if code < r.code then spec else r.spec, merge := satN 255 (r.merge + 1), cls := max r.cls cls,
           held := r.held.filter (fun e => decide (e.code ≤ code)) ++ [⟨code, unit⟩] ++ r.held.filter (fun e => decide (code < e.code)) }

/-- Whether an error makes ERR_N go low for 20 us (R496): it opens a record of class I or S, or raises one to it. -/
def errStarts (r : FltRec) (cls : Nat) : Bool := decide (2 ≤ cls) && (!r.pend || decide (r.cls < 2))

/-- An error of a block: code, class, the block-specific field of xxx_FLT, and the unit on which it was detected
(R486, R487). -/
def Block.raise (b : Block) (k code cls spec unit : Nat) : Block :=
  let r := b.frec k
  let same := (b.cycle.getD []).contains k
  let b1 := b.setRec k (if same && r.pend then recSame r code cls spec unit
    else recAfter r (b.reg (graceReg k) % 2 ^ 16) b.blk b.pclk code cls spec unit)
  { b1 with errPulse := if errStarts r cls then some b.pclk else b.errPulse, dFault := if cls = 0 then b.dFault else some b.now,
            cycle := if r.pend then b.cycle else b.cycle.map (k :: ·) }

/-- What `f` raises arises in one cycle (R488). -/
def Block.sameCycle (f : Block → Block) (b : Block) : Block := { f { b with cycle := some [] } with cycle := none }

/-- ACK of a record (R487): PEND and MERGE clear and the timer stops. -/
def recAck (r : FltRec) : FltRec := { r with pend := false, merge := 0, timer := false, held := [] }

/-- The bit among the causes of a mute that an escalation of source k has (R491). -/
def muEsc (k : Nat) : Nat := 8 + k

/-- The plies that the escalation of source k mutes (R491). -/
def Block.escPlies (b : Block) (k : Nat) : List Nat := (b.muted.filter (fun e => bit e.2 (muEsc k))).map (·.1)

/-- ACK (R487, R491): the record's timer stops, and the plies its escalation has muted are noted for the next block tick. -/
def Block.ack (b : Block) (k : Nat) : Block :=
  { b.setRec k (recAck (b.frec k)) with
      escAcked := b.escAcked.filter (fun e => e.1 != k) ++ (b.escPlies k).map (fun p => (k, p)) }

/-- The codes MTX records (R457). -/
def mtxOFF : Nat := 1
def mtxUNMAPPED : Nat := 2
def mtxDENIED : Nat := 3
def mtxREACH : Nat := 4
def mtxSEM : Nat := 5
def mtxCUT : Nat := 6

/-- MTX records a fault of master `m` at address `a` (R457): record, INT bit, address, information and count. -/
def Block.mtxFault (b : Block) (code m a : Nat) (write : Bool) : Block :=
  let b1 := ((b.setInt Reg.MTX_INT (code - 1)).setReg64 Reg.MTX_ERR_ADDR_LO Reg.MTX_ERR_ADDR_HI (a % 2 ^ 40)).setReg
    Reg.MTX_ERR_INFO (code * 256 + b2n write * 16 + m % 16)
  (b1.count Reg.MTX_CNT (if code = mtxCUT then 16 else 0) 16 1).raise srcMTX code 0 (m % 16) m

/-- Base of register space (R24). -/
def regBase : Nat := 0x60000000

/-! ## ECC of the memories (R147, R170, R231, R455) -/

/-- A fault of spindle `s` of its bobbin at run-list entry `e`: the INT bit, SPN_FLT_INFO, and the record (R170). -/
def Block.spnFaultAt (b : Block) (s e code cls addr : Nat) : Block :=
  let n := s / 8
  let b1 := (b.setInt (Reg.SPN_INT n) (code - 1)).raise (srcSPN n) code cls (s % 8) s
  b1.setReg (Reg.SPN_FLT_INFO n (s % 8)) (e * 2 ^ 24 + addr % 2 ^ 24)

/-- ECC_CORR of a spindle: the corrected error is counted, also toward its retirement (R170, R214). -/
def Block.spnCorr (b : Block) (s : Nat) : Block :=
  let t := b.now / 2 ^ 32
  let note := fun (l : List Nat) => t :: l.filter (fun x => decide (t < x + 1000000000))
  let b1 := b.count (Reg.SPN_ECC_CNT (s / 8)) 0 16 1
  ({ b1 with crl := { b1.crl with eccAt := tmod [] s note b1.crl.eccAt } }).spnFaultAt s (tget ({} : Spindle) b.spns s).entry 1 0 0

/-- Usable capacity C_u in bytes (R25). -/
def Block.cstSize (b : Block) : Nat :=
  let cap := 2 ^ (32 + b.rfld Reg.CST_CFG 0 2)
  if b.cst.ecc then cap / 8 * 7 else cap

/-- The device offset of a usable offset (R228). -/
def devOffset (ecc : Bool) (u : Nat) : Nat := if ecc then 4096 * (u / 3584) + u % 3584 else u

/-- The parity of the low `n` bits of a number. -/
def parity : Nat → Nat → Nat
  | 0, _ => 0
  | n + 1, x => (x + parity n (x / 2)) % 2

/-- Hash output i of a device offset (R229). -/
def Block.hashOut (b : Block) (i a : Nat) : Nat := parity 28 ((a / 64) &&& (b.reg (Reg.CST_BANKHASH i)))

/-- Where a byte of the cistern lies in the devices (R228, R229). -/
structure DevAddr where
  byte : Nat
  /-- The column burst within a row. -/
  burst : Nat
  row : Nat
  rank : Nat
  chan : Nat
  /-- BA[1:0] in bits 1:0, and BG[1:0], or BA[3:2] in 16-bank mode, in bits 3:2. -/
  bank : Nat
  deriving DecidableEq, Repr

/-- The most significant row bit of a device offset that the installed capacity has (R228). -/
def Block.topRow (b : Block) : Nat := 31 + b.rfld Reg.CST_CFG 0 2

/-- The device address of a physical address: with two ranks, the most significant row bit present selects the rank (R228). -/
def Block.devAddr (b : Block) (addr : Nat) : DevAddr :=
  let a := devOffset b.cst.ecc (addr - cisternBase)
  { byte := a % 64, burst := fld a 6 6, row := fld a 17 17, rank := if b.rbit Reg.CST_CFG 2 then fld a b.topRow 1 else 0,
    chan := b.hashOut 0 a, bank := b.hashOut 1 a + 2 * b.hashOut 2 a + 4 * b.hashOut 3 a + 8 * b.hashOut 4 a }

/-- The channel of a physical address (R229). -/
def Block.cstChan (b : Block) (addr : Nat) : Nat := (b.devAddr addr).chan

/-- A fault of the cistern: code, class, and CHAN (7 for none) (R250). -/
def Block.cstFault (b : Block) (code cls chan : Nat) : Block := b.raise srcCST code cls chan 0

/-- The cistern reads the word at an address with an error of kind 1, corrected, or 2 (R231). -/
def Block.cstWord (addr : Nat) (b : Block) (k : Nat) : Block :=
  let b1 := b.count Reg.CST_ECC_CNT (if k = 1 then 0 else 16) 16 1
  let b2 := ((b1.setReg Reg.CST_ECC_ADDR_LO (addr % 2 ^ 32)).setReg Reg.CST_ECC_ADDR_HI (addr / 2 ^ 32 % 256)).setInt
    Reg.CST_INT 1
  if k = 1 then b2.cstFault 1 0 (b.cstChan addr) else b2.cstFault 2 1 (b.cstChan addr)

/-- Reader `r`, a spindle of the basin's bobbin or a matrix master, reads a basin word with an error (R455). -/
def Block.bsnWord (spn : Bool) (r addr : Nat) (b : Block) (k : Nat) : Block :=
  let n := (addr - 0x20000000) / 0x100000 % 8
  let b1 := (b.count (Reg.BSN_ECC_CNT n) (if k = 1 then 0 else 16) 16 1).setReg (Reg.BSN_ECC_ADDR n)
    (b2n spn * 2 ^ 31 + r % 16 * 2 ^ 24 + addr % 0x100000)
  (b1.setInt Reg.BSN_INT (k - 1)).raise srcBSN k (if k = 1 then 0 else 1) n n

/-- A matrix master reads a word of a local memory with an error: a corrected one is ECC_CORR (R170). DESIGN CHOICE (log entry 40): an
uncorrectable one, which is a fault only where the spindle reads it, is counted. -/
def Block.localWord (addr : Nat) (b : Block) (k : Nat) : Block :=
  let s := (addr - 0x30000000) / 0x40000
  if k = 1 then b.spnCorr s else b.count (Reg.SPN_ECC_CNT (s / 8)) 16 16 1

/-- Reader `r` reads the 64-bit word of a number: an error of it is counted and raised. -/
def Block.eccWord (spn : Bool) (r : Nat) (b : Block) (w : Nat) : Block :=
  let k := tget 0 b.sys.memErr w
  if k = 0 then b
  else if cisternBase ≤ 8 * w then b.cstWord (8 * w) k
  else if 0x30000000 ≤ 8 * w then (if spn then b else b.localWord (8 * w) k)
  else b.bsnWord spn r (8 * w) k

/-- What a read of `n` bytes finds. -/
def Block.eccNote (spn : Bool) (r a n : Nat) (b : Block) : Block :=
  let all := fun (x : Block) => (wordsOf a n).foldl (Block.eccWord spn r) x
  if b.sys.memErr.isEmpty then b else if n ≤ 64 then b.sameCycle all else all b

/-- A write of `n` bytes reads the words that it covers in part (R231). -/
def Block.mergeNote (r a n : Nat) (b : Block) : Block :=
  if b.sys.memErr.isEmpty then b
  else ((wordsOf a n).filter (fun w => decide (8 * w < a) || decide (a + n < 8 * w + 8))).foldl (Block.eccWord false r) b

/-- Copy `n` bytes as master `m`. -/
def Block.copyBy (m src dst n : Nat) (b : Block) : Block := (b.eccNote false m src n).copyMem src dst n

/-! ## Plies and mutes (R17, R87) -/

/-- Causes of a mute, one bit each. -/
def muCold : Nat := 0
def muFamily : Nat := 1
def muPll : Nat := 2
def muLeave : Nat := 3
def muRealign : Nat := 4

/-- Set or clear one cause of a ply's mute. -/
def Block.setMute (b : Block) (cause : Nat) (on : Bool) (p : Nat) : Block :=
  { b with muted := tmod 0 p (fun m => setFld m cause 1 (b2n on)) b.muted }

def Block.muteAll (b : Block) (cause : Nat) (ps : List Nat) : Block := ps.foldl (fun x p => x.setMute cause true p) b

/-- Release a cause of mute from every ply. -/
def Block.unmute (b : Block) (cause : Nat) : Block :=
  (b.muted.map (·.1)).foldl (fun x p => x.setMute cause false p) b

/-- Mute plies from the next block tick (R92). -/
def Block.muteNext (b : Block) (cause : Nat) (ps : List Nat) : Block :=
  let b1 := b.muteAll cause ps
  { b1 with muteFrom := tput 0 cause (b.blk + 1) b1.muteFrom }

/-- Causes that do not apply yet. -/
def Block.muteAhead (b : Block) : Nat := ((b.muteFrom.filter (fun e => decide (b.blk < e.2))).map (fun e => 2 ^ e.1)).sum

/-- Whether a ply is muted (R87). -/
def Block.plyMuted (b : Block) (p : Nat) : Bool :=
  let m := tget 0 b.muted p
  decide (m ≠ 0) && decide (m ≠ m &&& b.muteAhead)

/-- Whether the ply of a lane is muted. -/
def Block.laneMuted (b : Block) (l : Nat) : Bool :=
  match b.stg.force with
  | none => false
  | some d => (d.plyOf? l).elim false (fun r => b.plyMuted r.ply)

/-- The plies of the draft in force in a domain. -/
def Block.domPlies (b : Block) (doms : List Nat) : List Nat :=
  b.stg.force.elim [] (fun d =>
    (d.plies.filter (fun r => (d.laneDom? r.first).elim false (fun x => doms.contains x))).map (·.ply))

/-- The plies of the draft in force whose lanes lie in a range. -/
def Block.rangePlies (b : Block) (lo hi : Nat) : List Nat :=
  b.stg.force.elim [] (fun d => (d.plies.filter (fun r => decide (lo ≤ r.first) && decide (r.first ≤ hi))).map (·.ply))

/-! ## Abandoning an armed commit (R73, R92) -/

/-- An armed commit is abandoned: the draft returns to VALID, ABANDONED sets, and what it had reserved is freed; a code
goes into ERR where the manual gives one, and the failure's place is cleared (R72). -/
def Block.abandon (b : Block) (code : Option Nat) : Block :=
  if b.stg.st = .armed then
    let b1 := b.setInt Reg.SYS_DFT_INT 4
    { b1 with stg := { b1.stg with st := .valid, err := code.getD b1.stg.err, errInst := 0, errTag := 0, errOfs := 0 },
              loom := { b1.loom with resv := 0 }, crl := { b1.crl with held := false },
              par := { b1.par with agreed := false, proposed := none, twinGo := none, decided := false } }
  else b

/-! ## Time moves on (R304 to R311) -/

def Block.setTsu (b : Block) (f : Tsu → Tsu) : Block := { b with tsu := f b.tsu }

def Block.tsuFault (b : Block) (code int unit : Nat) : Block := (b.setInt Reg.TSU_INT int).raise srcTSU code 0 0 unit

/-- 10 us, in units of 2^-32 ns. -/
def tenUs : Nat := 10000 * 2 ^ 32

/-- A hard stop of every modulating jet at the next block tick (R384). -/
def Block.hardStopNext (b : Block) : Block := { b with jet := { b.jet with hardAt := some (b.blk + 1) } }

/-- A realign begins (R311): as at a family switch, F and B plies are muted from the next block tick, modulating jets stop hard at it
(R384), and an armed commit is abandoned. Block numbers stay, since f_blk does not change. -/
def Block.startRealign (b : Block) : Block :=
  let b1 := ((b.setTsu (fun t => { t with realign := true })).muteNext muRealign (b.domPlies [0, 1])).hardStopNext
  (b1.abandon none).raise srcTSU 2 0 0 0

/-- A remainder of more than 10 us realigns (R311). -/
def Block.checkRealign (b : Block) : Block :=
  if tenUs < b.tsu.rem.natAbs ∧ !b.tsu.realign then b.startRealign else b

/-- The next leading edge of an armed spout after a step to the present time (R321). -/
def Block.spoutStep (b : Block) (n : Nat) : Block :=
  let x := tget {} b.tsu.spouts n
  if !x.armed then b
  else
    let put := fun (y : Spout) (c : Block) => c.setTsu (fun t => { t with spouts := tput {} n y t.spouts })
    if x.period = 0 then
      if x.k = 0 ∧ x.start < b.now then
        ((put { x with armed := false } b).setRfld (Reg.TSU_SPT_CTRL n) 0 2 2).tsuFault 3 4 n
      else b
    else
      let k := if b.now ≤ x.start then 0 else ceilDiv (b.now - x.start) x.period
      let b1 := put { x with k := k } b
      if x.k < k then (b1.setRfld (Reg.TSU_SPT_CTRL n) 1 1 1).tsuFault 3 4 n else b1

/-- The pending step applies at its tick (R310, R311, R321): TSU time moves by `d` ns. -/
def Block.stepNow (b : Block) (d : Int) : Block :=
  let x := ((b.now : Int) + d * 2 ^ 32).toNat
  let t := tsuSet b.tsu x
  let b1 := b.setTsu (fun u => { t with step := none, rem := u.rem + d * 2 ^ 32,
                                        segs := (u.ticks, (x : Int), (u.incrNext.getD u.incr : Int)) :: u.segs.take 7 })
  (below 8).foldl Block.spoutStep (b1.setInt Reg.TSU_INT 0)

/-- Time moves on by `n` ticks of the time clock, a pending step applies at its tick, and a remainder that grew beyond 10 us
realigns (R304 to R311). -/
def Block.runTicks (b : Block) (n : Nat) : Block :=
  match b.tsu.step with
  | some (d, at') =>
    if at' ≤ b.tsu.ticks + n then
      let k := at' - b.tsu.ticks
      let b1 := Block.sameCycle (fun x => (x.stepNow d).checkRealign) { b with tsu := b.tsu.run k }
      ({ b1 with tsu := b1.tsu.run (n - k) }).checkRealign
    else ({ b with tsu := b.tsu.run n }).checkRealign
  | none => if n = 0 then b else ({ b with tsu := b.tsu.run n }).checkRealign

/-- Time moves on to the instant `x` of the tick generator, if it has not reached it (log entry 7). -/
def Block.advance (b : Block) (x : Nat) : Block :=
  let b1 := b.runTicks (b.ticksTo x)
  let b2 := b1.runTicks (b1.ticksTo x)
  b2.runTicks (b2.ticksTo x)

/-- Time moves on to block tick `n`. -/
def Block.toBlk (b : Block) (n : Nat) : Block := b.advance (tickInstant b.fBlk n)

/-- Time moves on to tick `k` of domain F or B; only the X source makes X ticks (R94). -/
def Block.toTick (b : Block) (dom k : Nat) : Block :=
  if dom = 2 then b else b.advance (tickInstant (b.rate dom) k)

/-- Time moves on to release `r` of domain F or B. -/
def Block.toRelease (b : Block) (dom r : Nat) : Block := b.toTick dom (r * b.spb dom + 1)

/-- Time moves on until TSU time is not before `x`. -/
def Block.toTsu (b : Block) (x : Nat) : Block :=
  let t : Tsu := { b.tsu with rem := 0 }
  b.runTicks (Block.ticksTo { b with tsu := t } x)

/-- Time moves on by `x` ns. -/
def Block.afterNs (b : Block) (x : Nat) : Block := b.runTicks (ceilDiv (x * 2 ^ 32) (max 1 b.tsu.incr))

/-- Time moves on until that clock stands at `x`. -/
def Block.toPclk (b : Block) (x : Nat) : Block := b.runTicks ((x - b.pclk + 1) / 2)

/-! ## The lane store (R26, R122) -/

/-- Of the words of a lane, newest first, the word of sample `s`: the latest one that is not after it. -/
def wordAt (s : Nat) (h : List (Nat × BitVec 64)) : BitVec 64 := (h.find? (fun e => decide (e.1 ≤ s))).elim 0 (·.2)

/-- The words of a lane once it takes the word of sample `s`. -/
def wordPut (s : Nat) (w : BitVec 64) (h : List (Nat × BitVec 64)) : List (Nat × BitVec 64) :=
  (s, w) :: (h.filter (fun e => decide (e.1 < s))).take 15

/-- The word of a lane for sample `s`: a lane that no word has reached since holds its last one (R96). -/
def Block.lane (b : Block) (l s : Nat) : BitVec 64 := wordAt s (tget [] b.loom.lanes l)

/-- The word of a lane as a signed value: Q15.48 for a bus lane, else Q0.31. -/
def Block.laneI (b : Block) (l s : Nat) : Int := (b.lane l s).toInt

def Block.setLane (b : Block) (l s : Nat) (v : Int) : Block :=
  { b with loom := { b.loom with lanes := tput [] l (wordPut s (BitVec.ofInt 64 v) (tget [] b.loom.lanes l)) b.loom.lanes } }

/-- The word of a lane for the sample before `s` (R32). -/
def Block.lanePrev (b : Block) (l s : Nat) : Int := if s = 0 then 0 else b.laneI l (s - 1)

/-- Whether a lane is a rill's or a jet's, which fade a muted ply themselves (R87, R365, R384). -/
def ownFade (l : Nat) : Bool := decide (0x1000 ≤ l) && decide (l ≤ 0x10DF)

/-- Whether a lane's writer delivers zeros: its ply is muted, and no rill or jet fades it (R87). -/
def Block.silent (b : Block) (l : Nat) : Bool := b.laneMuted l && !ownFade l

/-- A block delivers the word of sample s into a lane, or zero for a muted ply (R86, R87). -/
def Block.deliver (b : Block) (l s : Nat) (v : Int) : Block := b.setLane l s (if b.silent l then 0 else v)

/-- Whether a lane leaves the device: a transmit, rill output or jet lane (R21). -/
def isOut (l : Nat) : Bool :=
  (decide (0x0800 ≤ l) && decide (l ≤ 0x0FFF)) || (decide (0x1060 ≤ l) && decide (l ≤ 0x10DF))

/-- The word of sample `s` that an output block fetched from a lane (R31, step 4); 0 where no pass gave one. -/
def Block.outLane (b : Block) (l s : Nat) : Int :=
  ((tget [] b.loom.sent l).find? (fun x => x.1 == s)).elim 0 (·.2)

/-- Whether a lane is a bus lane (R21). -/
def isBus (l : Nat) : Bool := decide (0x1200 ≤ l) && decide (l ≤ 0x15FF)

/-! ## ERR_N and the host's interrupts (R423, R424, R489, R496) -/

def pinErrN : Nat := 34

/-- Whether ERR_N is driven low (R496). -/
def Block.errnLow (b : Block) : Bool :=
  b.errPulse.any (fun t => decide (b.pclk < t + 20000)) || b.flt.any (fun e => e.2.pend && decide (2 ≤ e.2.cls)) || b.rbit Reg.SYS_FCTL 0 ||
  b.rbit Reg.SYS_SEVER 31 || b.rfld Reg.PWR_BOOT 0 4 == 6

/-- The pairs of an interrupt register and its enables that assert a source (R423); every one of them resets to 0. -/
def intRegs (k : Nat) : List (Nat × Nat) :=
  if 4 ≤ k ∧ k < 12 then [(Reg.SPN_INT (k - 4), Reg.SPN_INT_EN (k - 4))]
  else if 16 ≤ k ∧ k < 20 then [(Reg.NET_INT (k - 16), Reg.NET_INT_EN (k - 16))]
  else match k with
    | 0 => [(Reg.SYS_INT, Reg.SYS_INT_EN), (Reg.SYS_DFT_INT, Reg.SYS_DFT_INT_EN)]
    | 1 => [(Reg.PWR_INT, Reg.PWR_INT_EN)]
    | 2 => [(Reg.MTX_INT, Reg.MTX_INT_EN)]
    | 3 => [(Reg.BSN_INT, Reg.BSN_INT_EN)]
    | 12 => [(Reg.LOM_INT, Reg.LOM_INT_EN)]
    | 13 => [(Reg.CRL_INT, Reg.CRL_INT_EN)]
    | 14 => [(Reg.SLU_INT, Reg.SLU_INT_EN)]
    | 15 => [(Reg.CST_INT, Reg.CST_INT_EN)]
    | 21 => [(Reg.FLW_INT, Reg.FLW_INT_EN)]
    | 22 => [(Reg.TSU_INT, Reg.TSU_INT_EN)]
    | 23 => [(Reg.WLH_INT, Reg.WLH_INT_EN)]
    | 24 => [(Reg.RIL_INT, Reg.RIL_INT_EN)]
    | 25 => [(Reg.JET_INT, Reg.JET_INT_EN)]
    | 26 => [(Reg.SNS_INT, Reg.SNS_INT_EN)]
    | 27 => [(Reg.CTL_INT, Reg.CTL_INT_EN)]
    | 28 => [(Reg.FBS_INT, Reg.FBS_INT_EN)]
    | 29 => [(Reg.HST_INT, Reg.HST_INT_EN)]
    | 30 => [(Reg.MBX_DB 2, Reg.MBX_DB_EN 2), (Reg.MBX_EVT 2, Reg.MBX_EVT_EN 2), (Reg.MBX_INT, Reg.MBX_INT_EN)]
    | 31 => [(Reg.PAR_INT, Reg.PAR_INT_EN)]
    | _ => []

/-- Whether the condition of source k holds, its bit of HST_IEN left aside (R423, R489). -/
def Block.srcHolds (b : Block) (k : Nat) : Bool :=
  (intRegs k).any (fun e => tget 0 b.regs e.1 &&& tget 0 b.regs e.2 != 0) ||
  ((b.frec k).pend && decide (1 ≤ (b.frec k).cls))

/-- Whether source k is asserted (R423). -/
def Block.asserted (b : Block) (k : Nat) : Bool := b.srcHolds k && b.rbit Reg.HST_IEN k

/-- The vector of source k. -/
def Block.ivec (b : Block) (k : Nat) : Nat := b.rfld (Reg.HST_IVEC (k / 4)) (8 * (k % 4)) 6

/-- The vectors that an asserted source or a ring event drives, each once (R423). -/
def Block.driven (b : Block) : List Nat :=
  let ev := b.reg Reg.HST_RING_EVT
  (((below 32).filter b.asserted).map b.ivec ++
    ((below 16).filter (fun i => bit ev i)).map (fun i => 48 + i)).eraseDups

/-- Whether a vector's message can leave: MSI-X enabled and the vector unmasked (R424). -/
def Block.vecOpen (b : Block) (v : Nat) : Bool := b.rbit Reg.HST_STAT 8 && tget 0 b.sys.msix (4 * v + 3) == 1

/-- An armed vector that is driven disarms, and its message is sent or its PBA bit sets (R424). -/
def Block.fire (b : Block) (v : Nat) : Block :=
  if b.sys.disarmed.contains v then b
  else
    let b1 := { b with sys := { b.sys with disarmed := v :: b.sys.disarmed } }
    if b.vecOpen v then b1.emit (.msix v) else { b1 with sys := { b1.sys with pba := v :: b1.sys.pba } }

def pinShut : Nat := 32

/-- The level driven on GW_SHUT: high while the unit drives outputs (R401, R403, R494). -/
def Block.shut (b : Block) : Bool :=
  !b.rbit Reg.SYS_SEVER 31 && (b.par.st == 2 || b.par.st == 3 || (b.par.st == 0 && b.stg.force.isSome))

/-- What follows at once from any change: GW_SHUT, ERR_N and the messages to the host. -/
def Block.settle (b : Block) : Block :=
  let b1 := b.driven.foldl Block.fire b
  let low := b.errnLow
  let b2 := if low = b.sys.errLow then b1
    else { b1 with sys := { b1.sys with errLow := low }, out := .pin pinErrN (!low) :: b1.out }
  if b.shut = b.sys.shutHigh then b2
  else { b2 with sys := { b2.sys with shutHigh := b.shut }, out := .pin pinShut b.shut :: b2.out }

/-! ## Islands (R14, R15) -/

/-- The power domain that holds a block. -/
def blkDom (k : Blk) (i : Nat) : Nat :=
  match k with
  | .sys | .pwr => 0
  | .mbx => 1
  | .mtx | .bsn | .crl => 2
  | .spn => 3 + i
  | .lom | .slu => 11
  | .cst => 12
  | .net | .fwd | .flw => 13
  | .ctl | .fbs => 14
  | .hst => 15
  | .par => 16
  | .ril => 17
  | .jet | .sns => 18
  | .tsu | .wlh => 19

/-- Whether the island of a register's page is powered down; a page that holds no block is not (R15, R25). -/
def Block.islandOff (b : Block) (a : Nat) : Bool :=
  match pageBlk (a / 65536) with
  | some (k, i) => !b.domOn (blkDom k i)
  | none => false

/-! ## Commands -/

/-- A command whose effect lies in the block: the queue and the semaphores stay as they are. -/
def onBlk (f : Block → Block) (s : State) : Answer := .next { s with blk := (f s.blk).settle }

/-- A command that is an access of master `m` to the register at offset `a`: with its island powered down it has no
effect, and MTX records it (R15). -/
def onRegBy (m a : Nat) (write : Bool) (f : Block → Block) (s : State) : Answer :=
  onBlk (fun b => if b.islandOff a then b.mtxFault mtxOFF m (regBase + a) write else f b) s

/-- A register access whose command names no master: it is firmware's, master 13 (log entry 28). -/
def onReg (a : Nat) (write : Bool) (f : Block → Block) (s : State) : Answer := onRegBy 13 a write f s

/-- A command that also reads or changes the semaphores; the queue stays as it is. -/
def onAll (f : State → State) (s : State) : Answer :=
  let t := f s
  .next { t with pending := s.pending, blk := t.blk.settle }

end Sys2Proof.Machine
end

