-- ==== Sys2Proof/Machine/Loom.lean ====
section
/-! DEFINITION. The loom's cards and courses (spec/04_loom.md, R111 to R145): the fields of a card, the words it reads,
its arithmetic, its effect, and the resolution of one course. A value is an exact integer with a stated number of
fraction bits until it is rounded once into its destination (R115). -/

namespace Sys2Proof.Machine

/-- The fields of a card image (R111, R112). -/
structure Card where
  op : Nat := 0
  rsv : Nat := 0
  src : Nat := 0
  dst : Nat := 0
  coef : Nat := 0
  flags : Nat := 0
  opnd : Nat := 0
  deriving DecidableEq, Repr

def cardFields (im : BitVec 128) : Card :=
  let w := im.toNat
  { op := fld w 122 6, rsv := fld w 120 2, src := fld w 107 13, dst := fld w 94 13, coef := fld w 80 14,
    flags := fld w 64 16, opnd := fld w 0 64 }

def Card.sat (c : Card) : Bool := bit c.flags 1
def Card.inv (c : Card) : Bool := bit c.flags 2
def Card.meter (c : Card) : Bool := bit c.flags 3
def Card.midx (c : Card) : Nat := fld c.flags 4 9
def Card.courseEnd (c : Card) : Bool := bit c.flags 0
def Card.state (c : Card) : Nat := fld c.opnd 48 12
def Card.line (c : Card) : Nat := fld c.opnd 0 11
def Card.kernel (c : Card) : Nat := fld c.opnd 0 11

/-- Operation codes (R113). -/
def opNOP : Nat := 0x00
def opMOV : Nat := 0x01
def opGAIN : Nat := 0x02
def opMACZ : Nat := 0x03
def opMAC : Nat := 0x04
def opCLR : Nat := 0x05
def opSUM : Nat := 0x06
def opFADE : Nat := 0x07
def opGLIDE : Nat := 0x08
def opWEIR : Nat := 0x09
def opDLY : Nat := 0x0A
def opDLW : Nat := 0x0B
def opTRIM : Nat := 0x0C
def opKIN : Nat := 0x0D
def opKOUT : Nat := 0x0E
def opMETER : Nat := 0x0F
def opSLU : Nat := 0x10
def opEND : Nat := 0x3F

/-- Lane classes of R21 and R113. -/
def isPort (l : Nat) : Bool := decide (0x1600 ≤ l) && decide (l ≤ 0x1DFF)
def isSluIn (l : Nat) : Bool := decide (0x1E00 ≤ l) && decide (l ≤ 0x1EFF)
def isGeneral (l : Nat) : Bool :=
  (decide (0x0800 ≤ l) && decide (l ≤ 0x0FFF)) || (decide (0x1060 ≤ l) && decide (l ≤ 0x10DF)) || isBus l

/-- Whether the loom writes a listed lane under R21, given its DIR. -/
def loomWrites (l dir : Nat) : Bool := isGeneral l || isSluIn l || (isPort l && dir == 0)

/-! ## Words and rounding (R83, R115) -/

/-- What the pass of domain X for sample `s` sees of a state before a commit or an edit, if it does (R74, R132). -/
def Block.xView (b : Block) (dom s : Nat) : Option XView :=
  if dom = 2 then b.loom.xOld.find? (fun v => decide (s < v.upTick)) else none

/-- The draft that the pass of a domain for sample `s` runs under (R74). -/
def Block.draftAt (b : Block) (dom s : Nat) : Option Draft := (b.xView dom s).elim b.stg.force (·.draft)

/-- A lane word read by a card of domain `dom` in the pass for sample `s`, as stored: the lane's own domain, or the
cross-domain reads of R97 and R98; an unused lane reads 0 (R22). -/
def Block.cardWord (b : Block) (dom s l : Nat) : Int :=
  match (b.draftAt dom s).bind (fun d => d.laneDom? l) with
  | none => 0
  | some d =>
      if d = dom then b.laneI l s
      else if dom = 1 ∧ d = 0 then b.laneI l (s * b.domn.fMult)
      else if dom = 0 ∧ d = 1 then (if s / b.domn.fMult = 0 then 0 else b.laneI l (s / b.domn.fMult - 1))
      else 0

/-- The word read at SRC, exactly, with 48 fraction bits (R83). -/
def Block.cardX (b : Block) (dom s l : Nat) : Int :=
  if isBus l then b.cardWord dom s l else b.cardWord dom s l * 2 ^ 17

/-- A value with `fb` fraction bits (at least 48), after INV, rounded once into lane `l` (R115). -/
def cardRound (c : Card) (l fb : Nat) (v : Int) : Int :=
  let v := if c.inv then -v else v
  if isBus l then satS 64 (rndHE (fb - 48) v)
  else if c.sat then satS 32 (rndHE (fb - 31) v)
  else wrapS 32 (rndHE (fb - 31) v)

/-- A word converted to Q0.31 by rounding and saturation: a bus word read by DLW, TRIM, KIN, SLU or METER (R115). -/
def Block.cardX31 (b : Block) (dom s l : Nat) : Int :=
  if isBus l then satS 32 (rndHE 17 (b.cardWord dom s l)) else b.cardWord dom s l

/-- INV and rounding of a Q0.31 word handed on as a 32-bit word. DESIGN CHOICE (log entry 17): the negative of -1.0 saturates
or wraps by the card's SAT flag, the delay line's word of a DLW card included. -/
def cardWord31 (c : Card) (x : Int) : Int :=
  let x := if c.inv then -x else x
  if c.sat then satS 32 x else wrapS 32 x

/-- The coefficient a card's index names in the running layout (R127, R131). -/
def coefEntry (k : BankState) (i : Nat) : Nat := if k.wide then i else k.bank * 8192 + i % 8192

/-- The coefficient of an index in a store of the given layout; in the split layout an index of 8,192 or more holds 0. -/
def coefIn (k : BankState) (t : Tab (BitVec 32)) (i : Nat) : Int :=
  if !k.wide && decide (8192 ≤ i) then 0 else (tget 0 t (coefEntry k i)).toInt

/-- The coefficient of an index as the pass of domain `dom` for sample `s` sees it. -/
def Block.coefAt (b : Block) (dom s i : Nat) : Int :=
  match b.xView dom s with
  | some v => coefIn v.bank v.coefs i
  | none => coefIn b.loom.coefBank b.loom.coefs i

/-! ## Effects of one card -/

/-- One effect of a card. -/
inductive Eff where
  /-- Write a rounded word to a lane. -/
  | lane (l : Nat) (v : Int)
  /-- Add a rounded term to a bus accumulator (R117). -/
  | sum (l : Nat) (v : Int)
  | slot (i : Nat) (v : Slot)
  /-- Write a word into a delay line (R139). -/
  | line (i : Nat) (v : Int)
  /-- Place a word in a kernel's intake buffer for a port lane (R143). -/
  | intake (k l : Nat) (v : Int)
  /-- A DLY card's output word is kept for R141. -/
  | dly (key : Nat) (v : Int)
  /-- Feed a meter with a value, at the end of the pass (R145). -/
  | meter (m op : Nat) (bus : Bool) (v : Int)
  /-- Feed a meter with the word of a lane at the end of the pass (R145). -/
  | meterLane (m op l : Nat)
  /-- A DLY card lacked a word (R141). -/
  | late
  deriving DecidableEq, Repr

/-- A slot as its card finds it: initialised when it is fresh or another kind used it last (R121, R137, R138, R142). -/
def slotFor (k : SlotKind) (init : Slot) (st : Slot) : Slot :=
  if st.fresh || decide (st.kind ≠ k) then { init with kind := k, fresh := false } else st

/-- One pass of a FADE slot (R135, R137): law 0 linear, 1 raised cosine. -/
def fadeStep (k : Nat) (law : Bool) (c : Int) (st : Slot) : Slot :=
  let st := if st.tgt = c then st else { st with tgt := c, g0 := st.g, n := 0 }
  let n := min st.n (2 ^ k - 1)
  let w : Int := if law then raisedCos (n + 1) k else (n + 1 : Nat) * 2 ^ (30 - k)
  { st with g := st.g0 + (c - st.g0) * w / 2 ^ 30, n := if n + 1 < 2 ^ k then n + 1 else n }

/-- One pass of a GLIDE slot (R136). -/
def glideStep (k : Nat) (c : Int) (st : Slot) : Slot :=
  let e := c - st.g
  if -(2 ^ k : Int) ≤ e ∧ e < 2 ^ k then { st with g := c } else { st with g := st.g + e / 2 ^ k }

/-- One pass of a weir slot (R138) on the pre-gained bus value `v`: the slot and the output word. -/
def weirStep (ceil rel hold : Nat) (v : Int) (st : Slot) : Slot × Int :=
  let a := v.natAbs
  let lim := ceil * 2 ^ 17
  let gt : Int := if lim < a then ((lim * 2 ^ 30 / a : Nat) : Int) else 2 ^ 30
  let st' :=
    if gt < st.g then { st with g := gt, h := hold }
    else if 0 < st.h then { st with h := st.h - 1 }
    else { st with g := min gt (st.g + (2 ^ 30 - st.g) / 2 ^ rel) }
  (st', divT (v * st'.g) (2 ^ 47))

/-- The weights of R140 in Q1.30 for FRAC f, in the order l-1, l0, l1, l2. -/
def dlyWeights (f : Int) : List Int :=
  let q : Int := 4096
  let den : Nat := 6 * 4096 ^ 3
  [divHE (-(f * (f - q) * (f - 2 * q)) * 2 ^ 30) den,
   divHE (3 * (f + q) * (f - q) * (f - 2 * q) * 2 ^ 30) den,
   divHE (-(3 * (f + q) * f * (f - 2 * q)) * 2 ^ 30) den,
   divHE ((f + q) * f * (f - q) * 2 ^ 30) den]

/-- The weights of R142 in Q2.30 for FRAC f, in the order L0 to L3. -/
def trimWeights (f : Int) : List Int :=
  let q : Int := 4096
  let den : Nat := 6 * 4096 ^ 3
  [divHE (-((f - q) * (f - 2 * q) * (f - 3 * q)) * 2 ^ 30) den,
   divHE (3 * f * (f - 2 * q) * (f - 3 * q) * 2 ^ 30) den,
   divHE (-(3 * f * (f - q) * (f - 3 * q)) * 2 ^ 30) den,
   divHE (f * (f - q) * (f - 2 * q) * 2 ^ 30) den]

/-- The exact sum of products of two lists. -/
def dot : List Int → List Int → Int
  | x :: xs, y :: ys => x * y + dot xs ys
  | _, _ => 0

/-- The words a line occupies (R233). -/
def lineWords (len : Nat) : Nat := 16 * ((len + 32 + 15) / 16)

/-- Base address of a line: lines in ascending number, each at the end of the one before (R233). -/
def lineBase (d : Draft) (l : Nat) : Nat :=
  0x424000000 + ((d.dlays.filter (fun r => r.line < l)).map (fun r => 4 * lineWords r.len)).sum

/-- Where the word with index i of a line lies (R233). -/
def lineAddr (d : Draft) (r : Dlay) (i : Nat) : Nat := lineBase d r.line + 4 * (i % lineWords r.len)

/-- The state of a line. -/
def Block.line (b : Block) (l : Nat) : Line := tget {} b.loom.lines l

/-- The word with index i of a line as a DLY card reads it: 0 before the line's first word or with no DLW card (R77,
R139). -/
def Block.lineWord (b : Block) (d : Draft) (r : Dlay) (i : Int) : Int :=
  match (b.line r.line).since with
  | none => 0
  | some n => if i < n then 0 else toS 32 (b.rdLE (lineAddr d r i.toNat) 4)

/-- Whether a word at index `i` or below, of those a pass for sample `s` needs, has not arrived (R140, R141). -/
def Block.lineLate (b : Block) (dom s line : Nat) (i : Int) : Bool :=
  (b.line line).since.elim false (fun n => decide ((n : Int) ≤ i)) && decide ((b.line line).fetched < s / b.spb dom + 1)

/-- The key of a DLY card's previous output word (R141). -/
def dlyKey (dom : Nat) (c : Card) : Nat := (dom * 8192 + c.dst) * 2048 + c.line

/-- The slot a card names. -/
def Block.slot (b : Block) (i : Nat) : Slot := tget {} b.loom.slots i

/-- A card with the METER flag feeds its meter with its DST at the end of the pass (R145). -/
def meterEff (c : Card) : List Eff := if c.meter then [.meterLane c.midx c.op c.dst] else []

/-- A write of an exact value to DST. -/
def writeEff (c : Card) (fb : Nat) (v : Int) : List Eff := [.lane c.dst (cardRound c c.dst fb v)]

def cardMov (b : Block) (dom s : Nat) (c : Card) : List Eff := writeEff c 48 (b.cardX dom s c.src)

def cardGain (b : Block) (dom s : Nat) (c : Card) : List Eff :=
  writeEff c 75 (b.cardX dom s c.src * toS 32 (fld c.opnd 0 32))

def cardMacz (b : Block) (dom s : Nat) (c : Card) : List Eff := writeEff c 75 (b.cardX dom s c.src * b.coefAt dom s c.coef)

def cardMac (b : Block) (dom s : Nat) (c : Card) : List Eff :=
  writeEff c 75 (b.cardX dom s c.dst * 2 ^ 27 + b.cardX dom s c.src * b.coefAt dom s c.coef)

def cardClr (c : Card) : List Eff := [.lane c.dst 0]

def cardSum (b : Block) (dom s : Nat) (c : Card) : List Eff :=
  let p := b.cardX dom s c.src * b.coefAt dom s c.coef
  [.sum c.dst (satS 64 (rndHE 27 (if c.inv then -p else p)))]

/-- The initial contents of a FADE or GLIDE slot (R137). -/
def gainInit (b : Block) (dom s : Nat) (c : Card) : Slot :=
  let t := b.coefAt dom s c.coef
  let g := if bit c.opnd 6 then 0 else t
  { g := g, g0 := g, tgt := t, n := 0 }

def cardFade (b : Block) (dom s : Nat) (c : Card) : List Eff :=
  let st := fadeStep (fld c.opnd 0 5) (bit c.opnd 5) (b.coefAt dom s c.coef)
    (slotFor .fade (gainInit b dom s c) (b.slot c.state))
  .slot c.state st :: writeEff c 75 (b.cardX dom s c.src * st.g)

def cardGlide (b : Block) (dom s : Nat) (c : Card) : List Eff :=
  let st := glideStep (fld c.opnd 0 4) (b.coefAt dom s c.coef) (slotFor .glide (gainInit b dom s c) (b.slot c.state))
  .slot c.state st :: writeEff c 75 (b.cardX dom s c.src * st.g)

def cardWeir (b : Block) (dom s : Nat) (c : Card) : List Eff :=
  let v := satS 64 (rndHE 27 (b.cardX dom s c.src * b.coefAt dom s c.coef))
  let r := weirStep (fld c.opnd 0 32) (fld c.opnd 32 4) (fld c.opnd 40 8) (if c.inv then -v else v)
    (slotFor .weir { g := 2 ^ 30, h := 0 } (b.slot c.state))
  [.slot c.state r.1, .lane c.dst r.2]

/-- A DLY card (R140, R141): the interpolation, or the card's previous output word when a word has not arrived. -/
def cardDly (b : Block) (dom s : Nat) (c : Card) : List Eff :=
  match (b.draftAt dom s).bind (fun d => (d.dlay? c.line).map (fun r => (d, r))) with
  | none => [.lane c.dst 0, .dly (dlyKey dom c) 0]
  | some (d, r) =>
      let i : Int := (s : Int) - fld c.opnd 12 20
      if b.lineLate dom s c.line (i + 1) then [.lane c.dst (tget 0 b.loom.dlyOut (dlyKey dom c)), .late]
      else
        let ws := [b.lineWord d r (i + 1), b.lineWord d r i, b.lineWord d r (i - 1), b.lineWord d r (i - 2)]
        let y := cardRound c c.dst 61 (dot ws (dlyWeights (fld c.opnd 32 12)))
        [.lane c.dst y, .dly (dlyKey dom c) y]

def cardDlw (b : Block) (dom s : Nat) (c : Card) : List Eff :=
  [.line c.line (cardWord31 c (b.cardX31 dom s c.src))]

def cardTrim (b : Block) (dom s : Nat) (c : Card) : List Eff :=
  let x := b.cardX31 dom s c.src
  let st := slotFor .trim {} (b.slot c.state)
  .slot c.state { st with x1 := x, x2 := st.x1, x3 := st.x2 }
    :: writeEff c 61 (dot [x, st.x1, st.x2, st.x3] (trimWeights (fld c.opnd 0 12)))

def cardKin (b : Block) (dom s : Nat) (c : Card) : List Eff :=
  let y := cardWord31 c (b.cardX31 dom s c.src)
  [.lane c.dst y, .intake c.kernel c.dst y]

def cardKout (b : Block) (dom s : Nat) (c : Card) : List Eff := writeEff c 48 (b.cardX dom s c.src)

def cardMeter (b : Block) (dom s : Nat) (c : Card) : List Eff := [.meter c.midx c.op false (b.cardX31 dom s c.src)]

def cardSlu (b : Block) (dom s : Nat) (c : Card) : List Eff :=
  [.lane c.dst (cardWord31 c (b.cardX31 dom s c.src))]

/-- The effects of a card in the pass of domain `dom` for sample `s`, all read from the state at the start of its course
(R32, R113). -/
def cardEffs (b : Block) (dom s : Nat) (c : Card) : List Eff :=
  (match c.op with
    | 0x01 => cardMov b dom s c
    | 0x02 => cardGain b dom s c
    | 0x03 => cardMacz b dom s c
    | 0x04 => cardMac b dom s c
    | 0x05 => cardClr c
    | 0x06 => cardSum b dom s c
    | 0x07 => cardFade b dom s c
    | 0x08 => cardGlide b dom s c
    | 0x09 => cardWeir b dom s c
    | 0x0A => cardDly b dom s c
    | 0x0B => cardDlw b dom s c
    | 0x0C => cardTrim b dom s c
    | 0x0D => cardKin b dom s c
    | 0x0E => cardKout b dom s c
    | 0x0F => cardMeter b dom s c
    | 0x10 => cardSlu b dom s c
    | _ => []) ++ (if c.op = opMETER then [] else meterEff c)

/-! ## Applying effects -/

def Block.pass (b : Block) (dom : Nat) : Pass := tget {} b.loom.passes dom

def Block.setPass (b : Block) (dom : Nat) (p : Pass) : Block :=
  { b with loom := { b.loom with passes := tput {} dom p b.loom.passes } }

def Block.setAcc (b : Block) (l : Nat) (v : Int) : Block :=
  { b with loom := { b.loom with acc := tput 0 l v b.loom.acc } }

/-- Where the word of sample position j of port p of a buffer lies (R161, R162): `n` buffers from `base`, of `ports` ports
and `spb` samples, the buffer of block `blk`. -/
def bufWord (base n ports spb blk port j : Nat) : Nat := base + (blk % n) * (ports * spb * 4) + 4 * (port * spb + j)

/-- Buffers of an intake or outtake ring (R162). -/
def ringLen (l2 : Bool) : Nat := if l2 then 3 else 2

def Place.basin (p : Place) : Nat := basinBase (p.s / 8) + p.area

/-- Base of the outtake ring of a place (R162). -/
def outRing (base spb nIn : Nat) (l2 : Bool) : Nat := base + upTo 64 (ringLen l2 * nIn * spb * 4)

/-- Whether a kernel's place takes the intake words of a block: from its first block to its last, and a migration
destination from its shadow block (R76, R222, R223). -/
def Place.takes (p : Place) (blk : Nat) : Bool :=
  decide (p.first ≤ blk) && p.last.elim true (fun l => decide (blk ≤ l))

/-- A KIN word goes into the intake buffer of its block of every place that takes it (R143, R222); of a muted lane the word
is zero (R87). -/
def Block.intake (b : Block) (dom s k l : Nat) (v : Int) : Block :=
  let spb := b.spb dom
  let blk := s / spb
  (b.crl.run.filter (fun p => p.k == k && p.takes blk)).foldl (fun x p =>
    x.wrLE (bufWord p.basin (ringLen p.l2) p.nIn spb blk (l - p.inLane) (s % spb)) 4 (ofS 32 (if b.silent l then 0 else v))) b

def Block.applyEff (b : Block) (dom s : Nat) (e : Eff) : Block :=
  match e with
  | .lane l v =>
      let b1 := if isBus l then
          let p := b.pass dom
          (b.setAcc l v).setPass dom { p with wrote := if p.wrote.contains l then p.wrote else l :: p.wrote }
        else b
      b1.deliver l s v
  | .sum l v =>
      let p := b.pass dom
      (b.setAcc l (tget 0 b.loom.acc l + v)).setPass dom
        { p with wrote := if p.wrote.contains l then p.wrote else l :: p.wrote }
  | .slot i v => { b with loom := { b.loom with slots := tput {} i v b.loom.slots } }
  | .line i v =>
      { b with loom := { b.loom with
          lines := tmod {} i (fun ln => { ln with hold := (s, v) :: ln.hold, last := v, since := some (ln.since.getD s) })
            b.loom.lines } }
  | .intake k l v => b.intake dom s k l v
  | .dly k v => { b with loom := { b.loom with dlyOut := tput 0 k v b.loom.dlyOut } }
  | .meter m op bus v =>
      let p := b.pass dom
      b.setPass dom { p with meters := p.meters ++ [(m, op, 0, (ofS 64 v) * 2 + b2n bus)] }
  | .meterLane m op l =>
      let p := b.pass dom
      b.setPass dom { p with meters := p.meters ++ [(m, op, l + 1, 0)] }
  | .late =>
      ((b.count Reg.LOM_DLY_CNT 0 16 1).setInt Reg.LOM_INT 2).raise srcLOM 3 0 dom dom

/-- The word of a bus lane formed from its accumulator, with the saturation check of R118. -/
def Block.formBus (dom s : Nat) (b : Block) (l : Nat) : Block :=
  let a := tget 0 b.loom.acc l
  let w := satS 64 a
  let b1 := b.deliver l s w
  let p := b1.pass dom
  if w ≠ a ∧ !(p.ovf.contains l) then
    (((b1.setPass dom { p with ovf := l :: p.ovf }).setInt Reg.LOM_INT 1).setReg Reg.LOM_BUSOVF (l - 0x1200)).raise
      srcLOM 2 0 dom dom
  else b1

def effIsSum : Eff → Bool
  | .sum _ _ => true
  | _ => false

/-- The bus lanes that effects write. -/
def effBuses (es : List Eff) : List Nat :=
  (es.filterMap (fun e => match e with
    | .sum l _ => some l
    | .lane l _ => if isBus l then some l else none
    | _ => none)).eraseDups

/-- One course (R118 to R121): every card reads the state at its start; writes apply in card order, sums after them; then
the words of the bus lanes it wrote are formed. -/
def Block.course (b : Block) (dom s : Nat) (cs : List Card) : Block :=
  let es := cs.flatMap (cardEffs b dom s)
  let b1 := (es.filter (fun e => !effIsSum e)).foldl (fun x e => x.applyEff dom s e) b
  let b2 := (es.filter effIsSum).foldl (fun x e => x.applyEff dom s e) b1
  (effBuses es).foldl (Block.formBus dom s) b2

/-! ## Decks (R119, R125, R127) -/

/-- The cards of a domain's deck as currently applied. -/
def Block.deckCards (b : Block) (dom : Nat) : List (BitVec 128) :=
  let d := tget (0, 0) b.loom.decks dom
  (upFrom d.1 d.2).map (fun i => tget 0 b.loom.cards i)

/-- The cards that the pass of a domain for sample `s` runs. -/
def Block.passCards (b : Block) (dom s : Nat) : List Card :=
  ((b.xView dom s).elim (b.deckCards dom) (·.cards)).map cardFields

/-- The courses of a deck (R119): runs ending at COURSE_END or END. -/
def coursesOf : List Card → List Card → List (List Card)
  | [], acc => if acc.isEmpty then [] else [acc.reverse]
  | c :: r, acc =>
      if c.op = opEND then [(c :: acc).reverse]
      else if c.courseEnd then (c :: acc).reverse :: coursesOf r []
      else coursesOf r (c :: acc)

def courses (cs : List Card) : List (List Card) := coursesOf cs []

/-- The courses that the pass of a domain for sample `s` runs. -/
def Block.passCourses (b : Block) (dom s : Nat) : List (List Card) := courses (b.passCards dom s)

/-- S_d of R125. -/
def deckSlots (cs : List Card) : Nat :=
  if cs.isEmpty then 0 else ((courses cs).map (fun k => 4 * ((k.length + 3) / 4))).sum + 8

/-- The lane a card writes, if any. -/
def Card.writes (c : Card) : Option Nat :=
  if c.op = opNOP ∨ c.op = opDLW ∨ c.op = opMETER ∨ c.op = opEND ∨ opSLU < c.op then none else some c.dst

/-- Whether a card names a state slot. -/
def Card.hasSlot (c : Card) : Bool := c.op == opFADE || c.op == opGLIDE || c.op == opWEIR || c.op == opTRIM

/-- The meter a card feeds. -/
def Card.feeds (c : Card) : Option Nat := if c.meter then some c.midx else none

end Sys2Proof.Machine
end

