-- ==== Sys2Proof/Machine/Isa.lean ====
section
/-! DEFINITION. The spindle instruction set (spec/06_spindle_isa.md) over the programmer's model of
spec/05_spindle_core.md: decoding of a word, the data space, the operand forms, the arithmetic, and one step of a
spindle. -/

namespace Sys2Proof.Machine

/-- The instructions of R179 to R199, by name. -/
inductive SpnOp where
  | nop | waitb | br | loop | break_
  | add | sub | adds | subs | and_ | or_ | xor_ | shl | asr | lsr | min_ | max_ | abs_ | neg | mulf | muli
  | macComplex | macConjugate | macDualReal
  | ld | st | ldc | stc | sta | ldi | mov | ldacc | aupd
  | exp | expa | norm | bxdr | aclr | bfly
  deriving DecidableEq, Repr

/-- The instruction a word names by its class and OP, or by its class and FORM for a MAC (R171, R172, R188). -/
def spnOpOf (w : Nat) : Option SpnOp :=
  let cls := fld w 60 4
  let op := fld w 54 6
  if cls = 0 then
    match op with | 0 => some .nop | 1 => some .waitb | 2 => some .br | 3 => some .loop | 4 => some .break_ | _ => none
  else if cls = 1 then
    match op with
    | 0 => some .add | 1 => some .sub | 2 => some .adds | 3 => some .subs | 4 => some .and_ | 5 => some .or_
    | 6 => some .xor_ | 7 => some .shl | 8 => some .asr | 9 => some .lsr | 10 => some .min_ | 11 => some .max_
    | 12 => some .abs_ | 13 => some .neg | 14 => some .mulf | 15 => some .muli | _ => none
  else if cls = 2 then
    match fld w 58 2 with | 0 => some .macComplex | 1 => some .macConjugate | 2 => some .macDualReal | _ => none
  else if cls = 3 then
    match op with
    | 0 => some .ld | 1 => some .st | 2 => some .ldc | 3 => some .stc | 4 => some .sta | 5 => some .ldi
    | 6 => some .mov | 7 => some .ldacc | 8 => some .aupd | _ => none
  else if cls = 4 then
    match op with
    | 0 => some .exp | 1 => some .expa | 2 => some .norm | 3 => some .bxdr | 4 => some .aclr | _ => none
  else if cls = 5 then (if op = 0 then some .bfly else none)
  else none

/-- The bits each instruction's encoding table leaves for its fields; every other bit below the class and OP is reserved
(R172, R179, R186, R188, R190, R195, R198). -/
def fieldMask : SpnOp → Nat
  | .nop | .waitb => 0
  | .br => 0x003FC00000000FFF
  | .loop => 0x0023CFFFF0000FFF
  | .break_ => 0x003FC00000000000
  | .add | .sub | .adds | .subs | .and_ | .or_ | .xor_ | .shl | .asr | .lsr | .min_ | .max_ | .abs_ | .neg | .mulf
  | .muli => 0x003FFE00FFFFFFFF
  | .macComplex | .macConjugate | .macDualReal => 0x03BFFFC000000000
  | .ld | .ldc => 0x003FFFFFFC000000
  | .st | .stc => 0x003FFFFFFE000000
  | .sta => 0x003FFFFFFFF00000
  | .ldi => 0x003F0000FFFFFFFF
  | .mov => 0x003FFC0000000000
  | .ldacc => 0x003FE00000000000
  | .aupd => 0x0003FC0000000000
  | .exp => 0x003FC00000000000
  | .expa | .norm => 0x003C200000000000
  | .bxdr => 0x003C000000000000
  | .aclr => 0x0000200000000000
  | .bfly => 0x003FFFFFFFFFFFF0

/-- Where the OP lies: bits [59:54], or FORM in bits [59:58] of a MAC. -/
def opMask : SpnOp → Nat
  | .macComplex | .macConjugate | .macDualReal => 0xFC00000000000000
  | _ => 0xFFC0000000000000

/-- An address group (R175): AN, MODE, MN. -/
structure Grp where
  an : Nat
  mode : Nat
  mn : Nat
  deriving DecidableEq, Repr

def grpOf (g : Nat) : Grp := { an := fld g 5 3, mode := fld g 3 2, mn := fld g 0 3 }

/-! ## The state of one spindle -/

def Block.spn (b : Block) (s : Nat) : Spindle := tget {} b.spns s
def Block.setSpn (b : Block) (s : Nat) (x : Spindle) : Block := { b with spns := tput {} s x b.spns }

def Spindle.dreg (x : Spindle) (i : Nat) : BitVec 32 := tget 0 x.d i
def Spindle.setD (x : Spindle) (i : Nat) (v : BitVec 32) : Spindle := { x with d := tput 0 i v x.d }
def Spindle.areg (x : Spindle) (i : Nat) : Nat := (tget 0 x.a i).toNat
def Spindle.setA (x : Spindle) (i v : Nat) : Spindle := { x with a := tput 0 i (BitVec.ofNat 24 v) x.a }
def Spindle.mreg (x : Spindle) (i : Nat) : Int := (tget 0 x.m i).toInt
def Spindle.lreg (x : Spindle) (i : Nat) : Nat := (tget 0 x.l i).toNat
def Spindle.lcReg (x : Spindle) (i : Nat) : Nat := (tget 0 x.lc i).toNat
def Spindle.setLc (x : Spindle) (i v : Nat) : Spindle := { x with lc := tput 0 i (BitVec.ofNat 16 v) x.lc }
def Spindle.accP (x : Spindle) (i : Nat) : Int := tget 0 x.acc i
def Spindle.setAcc (x : Spindle) (i : Nat) (v : Int) : Spindle := { x with acc := tput 0 i v x.acc }

/-- A register by its 6-bit code, read into 32 bits; none for a reserved code (R174). -/
def Spindle.code (x : Spindle) (c : Nat) : Option (BitVec 32) :=
  if c < 0x10 then some (x.dreg c)
  else if c < 0x18 then some (BitVec.ofNat 32 (x.areg (c - 0x10)))
  else if c < 0x20 then some (BitVec.ofInt 32 (x.mreg (c - 0x18)))
  else if c < 0x28 then some (BitVec.ofNat 32 (x.lreg (c - 0x20)))
  else if c < 0x2C then some (BitVec.ofNat 32 (x.lcReg (c - 0x28)))
  else if c = 0x2C then some (BitVec.ofNat 32 x.bxd)
  else none

/-- Write a register by its 6-bit code from a 32-bit value (R174). -/
def Spindle.setCode (x : Spindle) (c : Nat) (v : BitVec 32) : Spindle :=
  if c < 0x10 then x.setD c v
  else if c < 0x18 then x.setA (c - 0x10) v.toNat
  else if c < 0x20 then { x with m := tput 0 (c - 0x18) (v.setWidth 24) x.m }
  else if c < 0x28 then { x with l := tput 0 (c - 0x20) (v.setWidth 24) x.l }
  else if c < 0x2C then x.setLc (c - 0x28) v.toNat
  else if c = 0x2C then { x with bxd := v.toNat % 32 }
  else x

/-! ## Addresses (R175 to R178) -/

/-- The least c with n ≤ 2^c. -/
def log2Up (n : Nat) : Nat := if n ≤ 1 then 0 else Nat.log2 (n - 1) + 1

/-- Reverse the `n` low bits of a number. -/
def revBits : Nat → Nat → Nat
  | 0, _ => 0
  | n + 1, x => x % 2 * 2 ^ n + revBits n (x / 2)

/-- Whether a group's mode is legal: mode 3 needs an L that is a power of two from 16 to 65,536 (R176). -/
def grpLegal (x : Spindle) (g : Grp) : Bool :=
  g.mode != 3 || (let l := x.lreg g.an; decide (16 ≤ l) && decide (l ≤ 65536) && decide (2 ^ Nat.log2 l = l))

/-- The new value of An after an access (R176). -/
def grpNext (x : Spindle) (g : Grp) : Nat :=
  let a := x.areg g.an
  let m := x.mreg g.mn
  let l := x.lreg g.an
  let post := (((a : Int) + m) % 2 ^ 24).toNat
  if g.mode = 0 then a
  else if g.mode = 1 then post
  else if g.mode = 2 then
    if l = 0 then post
    else
      let base := a / 2 ^ log2Up l * 2 ^ log2Up l
      (base + ((((a - base : Nat) : Int) + m) % (l : Int)).toNat) % 2 ^ 24
  else
    let k := Nat.log2 l
    let w := k - 3
    let cur := fld a 3 w
    let inc := ((m / 8) % 2 ^ w).toNat
    let sum := (revBits w cur + revBits w inc) % 2 ^ w
    setFld a 3 w (revBits w sum)

/-- The updates of an instruction's groups, all from the values before it, the last one that names a register deciding
(R177). -/
def grpUpdate (x : Spindle) (gs : List Grp) : Spindle :=
  gs.foldl (fun y g => y.setA g.an (grpNext x g)) x

/-- The effective address of a group with a signed byte offset (R177, R191). -/
def grpAddr (x : Spindle) (g : Grp) (ofs : Int) : Nat := (((x.areg g.an : Int) + ofs) % 2 ^ 24).toNat

/-! ## The data space (R148, R149, R178) -/

/-- The spaces of R148. -/
inductive Space where
  | x | y | s | i | o | none
  deriving DecidableEq, Repr

def spaceOf (a : Nat) : Space :=
  if a < 0x010000 then .x
  else if a < 0x020000 then .y
  else if 0x100000 ≤ a ∧ a < 0x140000 then .s
  else if 0x200000 ≤ a ∧ a < 0x201000 then .i
  else if 0x201000 ≤ a ∧ a < 0x202000 then .o
  else .none

/-- The offset of an address in its space. -/
def spaceOfs (a : Nat) : Nat :=
  match spaceOf a with
  | .x => a
  | .y => a - 0x010000
  | .s => a - 0x100000
  | .i => a - 0x200000
  | .o => a - 0x201000
  | .none => 0

/-- The base of the physical copy of a space for spindle `s` serving block `blk` under descriptor `d` (R148, R161, R162,
R164): the S space of an L1 kernel is its home, of an L2 kernel the staging copy of the block. -/
def spaceBase (s blk spb : Nat) (d : Desc) (sp : Space) : Nat :=
  let area := basinBase (s / 8) + d.area
  let inRing := upTo 64 (ringLen d.l2 * d.nIn * spb * 4)
  let outRing := upTo 64 (ringLen d.l2 * d.nOut * spb * 4)
  match sp with
  | .x => spnWindow s + d.xBase
  | .y => spnWindow s + 0x10000 + d.yBase
  | .i => area + (blk % ringLen d.l2) * (d.nIn * spb * 4)
  | .o => area + inRing + (blk % ringLen d.l2) * (d.nOut * spb * 4)
  | .s =>
      if d.l2 then area + inRing + outRing + (blk % 2) * upTo 64 d.sSize
      else if d.tier = 1 then spnWindow s + d.sHome
      else if d.tier = 2 then spnWindow s + 0x10000 + d.sHome
      else d.sHome
  | .none => 0

/-- The valid length of a space (R148). -/
def spaceLen (spb : Nat) (d : Desc) : Space → Nat
  | .x => d.xSize
  | .y => d.ySize
  | .s => d.sSize
  | .i => d.nIn * spb * 4
  | .o => d.nOut * spb * 4
  | .none => 0

/-- Whether an access of `n` bytes lies within its space's valid length and is aligned to `n` (R149, R178). -/
def accessOk (spb : Nat) (d : Desc) (a n : Nat) : Bool :=
  decide (a % n = 0) && decide (spaceOf a ≠ .none) && decide (spaceOfs a + n ≤ spaceLen spb d (spaceOf a))

/-- The physical address of a data-space address. -/
def physAddr (s : Nat) (x : Spindle) (spb a : Nat) : Nat := spaceBase s x.blk spb x.desc (spaceOf a) + spaceOfs a

/-! ## Faults of a spindle (R170) -/

/-- A fault at the entry that runs, or ran last. -/
def Block.spnFault (b : Block) (s code cls addr : Nat) : Block := b.spnFaultAt s (b.spn s).entry code cls addr

/-- BOUNDS (R149, R170). -/
def Block.bounds (b : Block) (s a : Nat) : Block := b.spnFault s 3 0 a

/-- A read of `n` bytes of the data space: 0 and BOUNDS when out of bounds. -/
def Block.dsRead (b : Block) (s a n : Nat) : Nat × Block :=
  let x := b.spn s
  let spb := b.spb x.desc.dom
  if accessOk spb x.desc a n then
    let p := physAddr s x spb a
    (b.rdLE p n, b.eccNote true (s % 8) p n)
  else (0, b.bounds s a)

/-- A MAC operand: a complex word from the space the operand must address (R149). -/
def Block.macRead (b : Block) (s : Nat) (sp : Space) (a : Nat) : Nat × Block :=
  if spaceOf a = sp then b.dsRead s a 8 else (0, b.bounds s a)

/-- A write of `n` bytes of the data space, and whether it stored: no effect and BOUNDS when out of bounds. -/
def Block.dsWrite (b : Block) (s a n v : Nat) : Bool × Block :=
  let x := b.spn s
  let spb := b.spb x.desc.dom
  if accessOk spb x.desc a n then
    let p := physAddr s x spb a
    (true, (b.wrLE p n v).setSpn s { x with wrote := if x.wrote.contains (p / 64) then x.wrote else p / 64 :: x.wrote })
  else (false, b.bounds s a)

/-- The redundant sign bits of a value of `n` bits (R158, R196). -/
def redundant (n : Nat) (v : Int) : Nat :=
  let m := if v < 0 then (-v - 1).toNat else v.toNat
  n - 1 - (if m = 0 then 0 else Nat.log2 m + 1)

/-- BXD after a flagged store of a 32-bit word (R158). -/
def Spindle.bx (x : Spindle) (on : Bool) (v : Int) : Spindle :=
  if on then { x with bxd := min x.bxd (redundant 32 v) } else x

/-- A store of one word or two, updating BXD for the words stored when BX is set. -/
def Block.storeWords (b : Block) (s a : Nat) (bx : Bool) (ws : List (BitVec 32)) : Block :=
  let v := match ws with
    | [lo, hi] => lo.toNat + 2 ^ 32 * hi.toNat
    | [lo] => lo.toNat
    | _ => 0
  let r := b.dsWrite s a (4 * ws.length) v
  if r.1 then r.2.setSpn s (ws.foldl (fun y w => y.bx bx w.toInt) (r.2.spn s)) else r.2

/-- R157: scale by 2^s, round to 2^-31 in the mode, and saturate; the flag says whether saturation changed it. `fb` is
the number of fraction bits of `v` (at least 31 + 8). -/
def storeRound (fb : Nat) (rnd : Nat) (s : Int) (v : Int) : Int × Bool :=
  let k := ((fb : Int) - 31 - s).toNat
  let r := if rnd = 0 then rndHE k v else if rnd = 1 then (v + 2 ^ (k - 1)) / 2 ^ k else v / 2 ^ k
  (satS 32 r, decide (satS 32 r ≠ r))

/-! ## Legality (R172 to R199) -/

/-- Whether a kernel-relative index lies in the kernel (R173). -/
def idxOk (x : Spindle) (i : Nat) : Bool := decide (i < x.desc.pLen)

/-- The kernel-relative index of the instruction at the PC. -/
def Spindle.rel' (x : Spindle) : Nat := x.pc - x.desc.pBase

/-- The condition codes of R180; none when reserved. -/
def condTaken (c : Nat) (v : Int) : Option Bool :=
  match c with
  | 0 => some true
  | 1 => some (decide (v = 0))
  | 2 => some (decide (v ≠ 0))
  | 3 => some (decide (v < 0))
  | 4 => some (decide (0 ≤ v))
  | 5 => some (decide (0 < v))
  | 6 => some (decide (v ≤ 0))
  | _ => none

/-- Whether the instruction stands at the END of an active loop (R183). -/
def Spindle.atEnd (x : Spindle) : Bool := x.loops.any (fun l => l.2 == x.rel')

/-- Whether a word of instruction `o` is legal on spindle `x`: no reserved bit set, and every condition its own rules
state (R172). -/
def spnLegal (x : Spindle) (o : SpnOp) (w : Nat) : Bool :=
  decide (w &&& (2 ^ 64 - 1 - opMask o - fieldMask o) = 0) &&
  match o with
  | .br =>
      (condTaken (fld w 50 4) 0).isSome && !(fld w 50 4 == 0 && fld w 46 4 != 0) && idxOk x (fld w 0 12) &&
      !x.atEnd &&
      (let t := (condTaken (fld w 50 4) (x.dreg (fld w 46 4)).toInt).getD false
       !t || (match x.loops with
        | [] => true
        | (st, en) :: _ => decide (st ≤ fld w 0 12) && decide (fld w 0 12 ≤ en)))
  | .loop =>
      (if bit w 53 then decide (fld w 28 16 = 0) else decide (fld w 46 4 = 0)) && idxOk x (fld w 0 12) && !x.atEnd &&
      decide (x.loops.length < 4) && decide (x.rel' < fld w 0 12) && x.loops.all (fun l => decide (fld w 0 12 ≤ l.2))
  | .break_ =>
      (condTaken (fld w 50 4) 0).isSome && !(fld w 50 4 == 0 && fld w 46 4 != 0) && !x.atEnd && !x.loops.isEmpty
  | .add | .sub | .adds | .subs | .and_ | .or_ | .xor_ | .shl | .asr | .lsr | .min_ | .max_ | .mulf | .muli =>
      if bit w 41 then decide (fld w 42 4 = 0) else decide (fld w 0 32 = 0)
  | .abs_ | .neg => decide (fld w 42 4 = 0) && !bit w 41 && decide (fld w 0 32 = 0)
  | .macComplex | .macConjugate | .macDualReal =>
      decide ((grpOf (fld w 46 8)).an < 4) && decide (4 ≤ (grpOf (fld w 38 8)).an) &&
      grpLegal x (grpOf (fld w 46 8)) && grpLegal x (grpOf (fld w 38 8))
  | .ld | .st => grpLegal x (grpOf (fld w 42 8))
  | .ldc | .stc => decide (fld w 50 4 % 2 = 0) && grpLegal x (grpOf (fld w 42 8))
  | .sta => decide (fld w 51 2 ≠ 3) && decide (fld w 49 2 ≠ 3) && grpLegal x (grpOf (fld w 36 8))
  | .ldi => decide (fld w 48 6 < 0x2D)
  | .mov => decide (fld w 48 6 < 0x2D) && decide (fld w 42 6 < 0x2D)
  | .aupd => grpLegal x (grpOf (fld w 42 8))
  | .bfly =>
      decide (fld w 18 4 % 2 = 0) && decide (fld w 10 2 ≠ 3) &&
      (if bit w 8 then decide (fld w 12 4 = 0) else decide (fld w 4 4 = 0)) &&
      grpLegal x (grpOf (fld w 46 8)) && grpLegal x (grpOf (fld w 38 8)) && grpLegal x (grpOf (fld w 30 8)) &&
      grpLegal x (grpOf (fld w 22 8))
  | _ => true

/-! ## Cycles (R153, R201) -/

/-- The instruction issues no earlier than the cycles at which what it reads is ready, and takes `n` issue cycles. -/
def Spindle.issue (x : Spindle) (ready : List Nat) (n : Nat) : Spindle :=
  { x with cyc := ready.foldl max x.cyc + n }

/-- The cycle at which D and an accumulator are ready. -/
def Spindle.dAt (x : Spindle) (i : Nat) : Nat := tget 0 x.dRdy i
def Spindle.accAt (x : Spindle) (i : Nat) : Nat := tget 0 x.accRdy i

/-- The spaces that lie in a basin (R148, R152). -/
def Space.inBasin (sp : Space) : Bool := sp == .s || sp == .i || sp == .o

/-- A loaded D register is ready 10 cycles and the bank wait late from a basin, else 1 cycle late (R152, R153). DESIGN CHOICE (log
entry 40): an access of two words to a basin costs what one of one word costs. -/
def Spindle.loadRdy (x : Spindle) (sp : Space) (wait : Nat) (ds : List Nat) : Spindle :=
  let t := x.cyc + (if sp.inBasin then 10 + wait else 1)
  ds.foldl (fun y d => { y with dRdy := tput 0 d t y.dRdy }) x

/-- The bank wait of one basin access: a free value within R451's bound, 4 cycles for each other running spindle of the bobbin that
precedes it, and 4 (log entry 1). -/
def Block.bankWait (b : Block) (s : Nat) : Nat × Block :=
  let r := b.draw
  let n := ((below (s % 8)).filter (fun k => (b.spn (s / 8 * 8 + k)).run)).length
  (r.1 % (4 * n + 5), r.2)

/-- Posted writes that have not left the write buffer by cycle `t`, and the cycle from which it has an entry free (R152). -/
def postedAfter (l : List Nat) (t : Nat) : List Nat × Nat :=
  let q := l.filter (fun c => decide (t < c))
  let t' := if q.length < 8 then t else q.getD (q.length - 8) t
  (q.filter (fun c => decide (t' < c)), t')

/-- An access of spindle `s` to space `sp` at its present cycle: where it goes to the basin, it stalls while the write buffer is full, and a
posted write leaves the buffer one cycle and its bank wait after the write before it (R152). The bank wait, and the block. -/
def Block.basinPort (b : Block) (s : Nat) (sp : Space) (wr : Bool) : Nat × Block :=
  if !sp.inBasin then (0, b)
  else
    let w := b.bankWait s
    let x := w.2.spn s
    let q := postedAfter x.posted x.cyc
    let l := if wr then q.1 ++ [max q.2 (q.1.getLastD q.2) + 1 + w.1] else q.1
    (w.1, w.2.setSpn s { x with cyc := q.2, posted := l })

/-- The cycles at which the registers that a group uses are ready: An, Mn where its mode adds it, Ln where its mode is
modulo or bit-reversed (R153, R176). -/
def Spindle.grpAt (x : Spindle) (g : Grp) : List Nat :=
  tget 0 x.aRdy g.an :: (if g.mode = 0 then [] else [tget 0 x.aRdy (8 + g.mn)]) ++
    (if g.mode < 2 then [] else [tget 0 x.aRdy (16 + g.an)])

/-- An LDI or MOV into An, Mn or Ln delays an instruction whose address group uses that register by 2 cycles (R153, R177). -/
def Spindle.codeRdy (x : Spindle) (c : Nat) : Spindle :=
  if 0x10 ≤ c ∧ c < 0x28 then { x with aRdy := tput 0 (c - 0x10) (x.cyc + 2) x.aRdy } else x

def Spindle.macRdy (x : Spindle) (acc : Nat) : Spindle := { x with accRdy := tput 0 acc (x.cyc + 2) x.accRdy }

/-! ## Meanings on the spindle -/

/-- The value b of an ALU instruction (R186). -/
def aluB (x : Spindle) (w : Nat) : BitVec 32 := if bit w 41 then BitVec.ofNat 32 w else x.dreg (fld w 42 4)

/-- The result of an ALU operation on DA and b (R187). -/
def aluRes (o : SpnOp) (a c : BitVec 32) : BitVec 32 :=
  let sh := c.toNat % 64
  match o with
  | .add => a + c
  | .sub => a - c
  | .adds => BitVec.ofInt 32 (satS 32 (a.toInt + c.toInt))
  | .subs => BitVec.ofInt 32 (satS 32 (a.toInt - c.toInt))
  | .and_ => a &&& c
  | .or_ => a ||| c
  | .xor_ => a ^^^ c
  | .shl => a <<< sh
  | .asr => BitVec.ofInt 32 (a.toInt / 2 ^ sh)
  | .lsr => a >>> sh
  | .min_ => if c.toInt < a.toInt then c else a
  | .max_ => if a.toInt < c.toInt then c else a
  | .abs_ => BitVec.ofInt 32 (satS 32 (if a.toInt < 0 then -a.toInt else a.toInt))
  | .neg => BitVec.ofInt 32 (satS 32 (-a.toInt))
  | .mulf => BitVec.ofInt 32 (satS 32 (rndHE 31 (a.toInt * c.toInt)))
  | .muli => BitVec.ofInt 32 (a.toInt * c.toInt)
  | _ => a

/-- An ALU instruction (R186, R187). -/
def spnAlu (b : Block) (s : Nat) (o : SpnOp) (w : Nat) : Block :=
  let x := b.spn s
  let x1 := x.issue ([x.dAt (fld w 46 4)] ++ (if bit w 41 ∨ o = .abs_ ∨ o = .neg then [] else [x.dAt (fld w 42 4)])) 1
  b.setSpn s (x1.setD (fld w 50 4) (aluRes o (x.dreg (fld w 46 4)) (aluB x w)))

/-- Real and imaginary parts of a complex word (R155). -/
def cre (v : Nat) : Int := toS 32 (v % 2 ^ 32)
def cim (v : Nat) : Int := toS 32 (v / 2 ^ 32 % 2 ^ 32)

/-- The term of a MAC form, in units of 2^-62 (R156). -/
def macTerm (o : SpnOp) (x y : Nat) : Int × Int :=
  let a := cre x
  let b := cim x
  let c := cre y
  let d := cim y
  match o with
  | .macConjugate => (a * c + b * d, b * c - a * d)
  | .macDualReal => (a * c, b * d)
  | _ => (a * c - b * d, a * d + b * c)

/-- Put a sum into an accumulator part, setting AOV when it saturates (R156). -/
def Spindle.accSat (x : Spindle) (i : Nat) (v : Int) : Spindle :=
  let w := satS 80 v
  { x.setAcc i w with aov := x.aov || decide (w ≠ v) }

/-- A MAC instruction (R188, R189). -/
def spnMac (b : Block) (s : Nat) (o : SpnOp) (w : Nat) : Block :=
  let gx := grpOf (fld w 46 8)
  let gy := grpOf (fld w 38 8)
  let x0 := b.spn s
  let rx := b.macRead s .x (grpAddr x0 gx 0)
  let ry := rx.2.macRead s .y (grpAddr x0 gy 0)
  let b1 := ry.2
  let t := macTerm o rx.1 ry.1
  let n : Int := if bit w 57 then -1 else 1
  let acc := 2 * fld w 55 1
  let x1 := (b1.spn s).issue (x0.grpAt gx ++ x0.grpAt gy) 1
  let re := n * t.1 * 2 ^ 9 + (if bit w 56 then 0 else x1.accP acc)
  let im := n * t.2 * 2 ^ 9 + (if bit w 56 then 0 else x1.accP (acc + 1))
  b1.setSpn s (((grpUpdate ((x1.accSat acc re).accSat (acc + 1) im) [gx, gy])).macRdy (fld w 55 1))

/-- LD and LDC (R191): `n` words into D and D+1. -/
def spnLoad (b : Block) (s n : Nat) (w : Nat) : Block :=
  let g := grpOf (fld w 42 8)
  let dd := fld w 50 4
  let x0 := b.spn s
  let a := grpAddr x0 g (toS 16 (fld w 26 16))
  let r := b.dsRead s a (4 * n)
  let x1 := (grpUpdate (r.2.spn s) [g]).issue (x0.grpAt g) 1
  let x2 := (x1.setD dd (BitVec.ofNat 32 r.1))
  let x3 := if n = 2 then x2.setD (dd + 1) (BitVec.ofNat 32 (r.1 / 2 ^ 32)) else x2
  let q := (r.2.setSpn s x3).basinPort s (spaceOf a) false
  q.2.setSpn s ((q.2.spn s).loadRdy (spaceOf a) q.1 (upFrom dd n))

/-- ST and STC (R191). -/
def spnStore (b : Block) (s n : Nat) (w : Nat) : Block :=
  let g := grpOf (fld w 42 8)
  let dd := fld w 50 4
  let x0 := b.spn s
  let a := grpAddr x0 g (toS 16 (fld w 26 16))
  let b1 := b.storeWords s a (bit w 25) ((upFrom dd n).map x0.dreg)
  ((b1.setSpn s ((grpUpdate (b1.spn s) [g]).issue (x0.grpAt g ++ (upFrom dd n).map x0.dAt) 1)).basinPort s (spaceOf a) true).2

/-- STA (R192). DESIGN CHOICE (log entry 40): SOV sets where the value saturates (R157), whether or not the store takes effect. -/
def spnSta (b : Block) (s : Nat) (w : Nat) : Block :=
  let g := grpOf (fld w 36 8)
  let acc := 2 * fld w 53 1
  let x0 := b.spn s
  let a := grpAddr x0 g (toS 16 (fld w 20 16))
  let part := fld w 51 2
  let rs := (if part = 0 then [acc] else if part = 1 then [acc + 1] else [acc, acc + 1]).map (fun i =>
    storeRound 71 (fld w 49 2) (toS 4 (fld w 45 4)) (x0.accP i))
  let b1 := b.storeWords s a (bit w 44) (rs.map (fun r => BitVec.ofInt 32 r.1))
  let x1 := b1.spn s
  let x2 := { x1 with sov := x1.sov || rs.any (·.2) }
  ((b1.setSpn s ((grpUpdate x2 [g]).issue (x0.accAt (fld w 53 1) :: x0.grpAt g) 1)).basinPort s (spaceOf a) true).2

/-- LDI (R193). -/
def spnLdi (b : Block) (s : Nat) (w : Nat) : Block :=
  let c := fld w 48 6
  b.setSpn s ((((b.spn s).issue [] 1).setCode c (BitVec.ofNat 32 w)).codeRdy c)

/-- MOV (R193). -/
def spnMov (b : Block) (s : Nat) (w : Nat) : Block :=
  let c := fld w 48 6
  let x := b.spn s
  let src := fld w 42 6
  let x1 := x.issue (if src < 16 then [x.dAt src] else []) 1
  b.setSpn s ((x1.setCode c ((x.code src).getD 0)).codeRdy c)

/-- LDACC (R194). -/
def spnLdacc (b : Block) (s : Nat) (w : Nat) : Block :=
  let x := b.spn s
  let acc := 2 * fld w 53 1
  let x1 := x.issue [x.dAt (fld w 49 4), x.dAt (fld w 45 4)] 1
  b.setSpn s ((x1.setAcc acc ((x.dreg (fld w 49 4)).toInt * 2 ^ 40)).setAcc (acc + 1)
    ((x.dreg (fld w 45 4)).toInt * 2 ^ 40))

/-- AUPD (R194). -/
def spnAupd (b : Block) (s : Nat) (w : Nat) : Block :=
  let g := grpOf (fld w 42 8)
  let x := b.spn s
  b.setSpn s ((grpUpdate x [g]).issue (x.grpAt g) 1)

/-- The exponent e of an accumulator (R196). -/
def accExp (x : Spindle) (acc : Nat) : Int :=
  (min (redundant 80 (x.accP acc)) (redundant 80 (x.accP (acc + 1))) : Nat) - 8

/-- EXP (R196). -/
def spnExp (b : Block) (s : Nat) (w : Nat) : Block :=
  let x := b.spn s
  let x1 := x.issue [x.dAt (fld w 46 4)] 1
  b.setSpn s (x1.setD (fld w 50 4) (BitVec.ofNat 32 (redundant 32 (x.dreg (fld w 46 4)).toInt)))

/-- EXPA (R196). -/
def spnExpa (b : Block) (s : Nat) (w : Nat) : Block :=
  let x := b.spn s
  let x1 := x.issue [x.accAt (fld w 45 1)] 1
  b.setSpn s (x1.setD (fld w 50 4) (BitVec.ofInt 32 (accExp x (2 * fld w 45 1))))

/-- NORM (R196). -/
def spnNorm (b : Block) (s : Nat) (w : Nat) : Block :=
  let x := b.spn s
  let acc := 2 * fld w 45 1
  let e := (accExp x acc).toNat
  let x1 := x.issue [x.accAt (fld w 45 1)] 1
  let x2 := (x1.setAcc acc (x.accP acc * 2 ^ e)).setAcc (acc + 1) (x.accP (acc + 1) * 2 ^ e)
  b.setSpn s (x2.setD (fld w 50 4) (BitVec.ofNat 32 e))

/-- BXDR (R197). -/
def spnBxdr (b : Block) (s : Nat) (w : Nat) : Block :=
  let x := b.spn s
  b.setSpn s { (x.issue [] 1).setD (fld w 50 4) (BitVec.ofNat 32 x.bxd) with bxd := 31 }

/-- ACLR (R197). -/
def spnAclr (b : Block) (s : Nat) (w : Nat) : Block :=
  let acc := 2 * fld w 45 1
  b.setSpn s ((((b.spn s).issue [] 1).setAcc acc 0).setAcc (acc + 1) 0)

/-- The issue cycles of a BFLY by the spaces of its operands (R201). -/
def bflyCycles (inA inB outA outB : Space) : Nat :=
  let n := fun (sp : Space) => ([inA, inB, outA, outB].filter (· == sp)).length
  max 2 (max (n .x) (n .y)) + 10 * ([inA, inB].filter Space.inBasin).length

/-- A read operand of a BFLY costs its bank wait (R201). -/
def bflyRead (s : Nat) (b : Block) (sp : Space) : Block :=
  let q := b.basinPort s sp false
  q.2.setSpn s { q.2.spn s with cyc := (q.2.spn s).cyc + q.1 }

/-- BFLY (R198 to R200). DESIGN CHOICE (log entry 40): as for STA, SOV sets whether or not the stores take effect. -/
def spnBfly (b : Block) (s : Nat) (w : Nat) : Block :=
  let gia := grpOf (fld w 46 8)
  let gib := grpOf (fld w 38 8)
  let goa := grpOf (fld w 30 8)
  let gob := grpOf (fld w 22 8)
  let x0 := b.spn s
  let ra := b.dsRead s (grpAddr x0 gia 0) 8
  let rb := ra.2.dsRead s (grpAddr x0 gib 0) 8
  let dw := fld w 18 4
  let wr := (x0.dreg dw).toInt
  let wi := if bit w 16 then -(x0.dreg (dw + 1)).toInt else (x0.dreg (dw + 1)).toInt
  let ds := (x0.dreg (fld w 4 4)).toInt
  let sc : Int := if bit w 8 then (if ds < -8 then -8 else if 7 < ds then 7 else ds) else toS 4 (fld w 12 4)
  let one : Int := 2 ^ 31
  let ar := cre ra.1
  let ai := cim ra.1
  let br := cre rb.1
  let bi := cim rb.1
  -- the four parts in units of 2^-62
  let pr := wr * br - wi * bi
  let pi := wr * bi + wi * br
  let dr := ar - br
  let di := ai - bi
  let parts : List Int := if bit w 17
    then [(ar + br) * one, (ai + bi) * one, dr * wr - di * wi, dr * wi + di * wr]
    else [ar * one + pr, ai * one + pi, ar * one - pr, ai * one - pi]
  let rs := parts.map (storeRound 62 (fld w 10 2) sc)
  let ws := rs.map (fun r => BitVec.ofInt 32 r.1)
  let oa := grpAddr x0 goa 0
  let ob := grpAddr x0 gob 0
  let b2 := (rb.2.storeWords s oa (bit w 9) (ws.take 2)).storeWords s ob (bit w 9) (ws.drop 2)
  let x1 := b2.spn s
  let x2 := { x1 with sov := x1.sov || rs.any (·.2) }
  let rdy := [gia, gib, goa, gob].flatMap x0.grpAt ++ [x0.dAt dw, x0.dAt (dw + 1)] ++
    (if bit w 8 then [x0.dAt (fld w 4 4)] else [])
  let cyc := bflyCycles (spaceOf (grpAddr x0 gia 0)) (spaceOf (grpAddr x0 gib 0)) (spaceOf oa) (spaceOf ob)
  let b3 := b2.setSpn s ((grpUpdate x2 [gia, gib, goa, gob]).issue rdy cyc)
  let b4 := [grpAddr x0 gia 0, grpAddr x0 gib 0].foldl (fun x a => bflyRead s x (spaceOf a)) b3
  [oa, ob].foldl (fun x a => (x.basinPort s (spaceOf a) true).2) b4

/-! ## Control and sequencing (R179 to R185) -/

/-- Continue at a kernel-relative index (R173). -/
def Spindle.goto (x : Spindle) (i : Nat) : Spindle := { x with pc := x.desc.pBase + i }

/-- The loop end check of R183 for the instruction at kernel-relative index `i`: the spindle after it, with its next
instruction chosen. At most 4 loops are active. -/
def loopEnd (i : Nat) : Nat → Spindle → Spindle
  | 0, x => x
  | n + 1, x =>
    match x.loops with
    | [] => x
    | (st, en) :: r =>
      if en ≠ i then x
      else
        let dpt := r.length
        if 1 < x.lcReg dpt then (x.setLc dpt (x.lcReg dpt - 1)).goto st
        else loopEnd i n { x.setLc dpt 0 with loops := r }

/-- The next instruction after a non-control instruction at `i`: the following one, unless the loop end check branches. -/
def Spindle.step' (x : Spindle) : Spindle :=
  let i := x.rel'
  loopEnd i 4 (x.goto (i + 1))

/-- A taken branch costs 2 stall cycles (R153, R201). -/
def Spindle.taken (x : Spindle) (i : Nat) : Spindle := { x.goto i with cyc := x.cyc + 2 }

/-- BR (R180, R181). -/
def spnBr (b : Block) (s : Nat) (w : Nat) : Block :=
  let x := b.spn s
  let x1 := x.issue (if fld w 50 4 = 0 then [] else [x.dAt (fld w 46 4)]) 1
  let t := (condTaken (fld w 50 4) (x.dreg (fld w 46 4)).toInt).getD false
  b.setSpn s (if t then x1.taken (fld w 0 12) else x1.goto (x.rel' + 1))

/-- LOOP (R182). -/
def spnLoop (b : Block) (s : Nat) (w : Nat) : Block :=
  let x := b.spn s
  let x1 := x.issue (if bit w 53 then [x.dAt (fld w 46 4)] else []) 1
  let cnt := if bit w 53 then (x.dreg (fld w 46 4)).toNat % 65536 else fld w 28 16
  if cnt = 0 then b.setSpn s (x1.taken (fld w 0 12 + 1))
  else
    let dpt := x.loops.length
    b.setSpn s ({ x1.setLc dpt cnt with loops := (x.rel' + 1, fld w 0 12) :: x.loops }.goto (x.rel' + 1))

/-- BREAK (R184). -/
def spnBreak (b : Block) (s : Nat) (w : Nat) : Block :=
  let x := b.spn s
  let x1 := x.issue (if fld w 50 4 = 0 then [] else [x.dAt (fld w 46 4)]) 1
  let t := (condTaken (fld w 50 4) (x.dreg (fld w 46 4)).toInt).getD false
  match x.loops with
  | (_, en) :: r =>
      if t then b.setSpn s ({ x1.setLc r.length 0 with loops := r }.taken (en + 1)) else b.setSpn s (x1.goto (x.rel' + 1))
  | [] => b.setSpn s x1

/-- A non-control instruction: its effect, then the next instruction (R183). -/
def spnPlain (b : Block) (s : Nat) (f : Block → Block) : Block :=
  let b1 := f b
  b1.setSpn s (b1.spn s).step'

end Sys2Proof.Machine
end

