-- ==== Sys2Proof/Machine/Creel.lean ====
section
/-! DEFINITION. The creel (spec/07_creel_placement.md): the system share, the placement rule, the running occupancy,
kernel descriptors and loading, the fault map's response, and migrations. -/

namespace Sys2Proof.Machine

/-! ## Where a validation failure is located (R525) -/

/-- The location of a failure: given whole, at a chunk's header, or at a payload offset of a chunk. -/
inductive Loc where
  | abs (tag inst ofs : Nat)
  | hdr (tag inst : Nat)
  | pay (tag inst ofs : Nat)
  /-- A field of a chunk's header. -/
  | chdr (tag inst ofs : Nat)
  deriving DecidableEq, Repr

/-- A failed check: its code and location. -/
structure VErr where
  code : Nat
  loc : Loc
  deriving DecidableEq, Repr

/-! ## The system share (R210, R235, R300) -/

/-- Samples per block as a draft sets them; domain X counts at 1.01 X_RATE / f_blk, rounded up (R90, R93, R300). -/
def draftSpb (d : Draft) (fBlk dom : Nat) : Nat :=
  if dom = 0 then 4 * d.domn.fMult else if dom = 1 then 4 else ceilDiv (101 * d.domn.xRate) (100 * fBlk)

/-- The packet time as (numerator, denominator) seconds (R282). -/
def ptime (i : Nat) : Nat × Nat :=
  match i with
  | 0 => (125, 1000000)
  | 1 => (250, 1000000)
  | 2 => (1, 3000)
  | 3 => (1, 1000)
  | _ => (4, 1000)

/-- N: samples per packet at a rate, to the nearest integer (R282). -/
def packetN (rate i : Nat) : Nat := (divHE (rate * (ptime i).1 : Nat) (ptime i).2).toNat

/-- Bytes of a sample word on the network (R283). -/
def encBytes (enc : Nat) : Nat := if enc = 0 then 2 else 3

/-- The rate of a domain under a draft and a family (R90). -/
def draftRate (d : Draft) (fB dom : Nat) : Nat :=
  if dom = 0 then d.domn.fMult * fB else if dom = 1 then fB else d.domn.xRate

/-- The domain of a skein (R48). -/
def skinDom (d : Draft) (k : Skin) : Nat := (d.laneDom? k.firstLane).getD 0

/-- The least power of two not less than n. -/
def pow2Up (n : Nat) : Nat := 2 ^ log2Up n

/-- B: samples per lane of a receive skein's jitter buffer (R293). -/
def jitterB (n linkOfs : Nat) : Nat := pow2Up (linkOfs + 2 * n)

/-- A cursor over the basins and each basin's share so far (R210). -/
structure Share where
  cur : Nat := 7
  used : List Nat := [0, 0, 0, 0, 0, 0, 0, 0]
  /-- Basins that failed their test, which no item may reach (R456). -/
  bad : List Nat := []
  deriving DecidableEq, Repr

/-- Replace one element of a list. -/
def setAt {α : Type} : List α → Nat → α → List α
  | [], _, _ => []
  | _ :: r, 0, v => v :: r
  | a :: r, n + 1, v => a :: setAt r n v

/-- The basin of an item placed from basin `n` down: the share stays within 512 KiB (R210). -/
def shareBasin (size : Nat) (u : List Nat) : Nat → Option Nat
  | 0 => if u.getD 0 0 + size ≤ 524288 then some 0 else none
  | m + 1 => if u.getD (m + 1) 0 + size ≤ 524288 then some (m + 1) else shareBasin size u m

/-- Whether an item would reach a failed basin (R456). -/
def Share.fails (sh : Share) (size : Nat) : Bool := (shareBasin size sh.used sh.cur).elim false (fun c => sh.bad.contains c)

/-- The share with an item added, if it fits in a basin that has not failed (R210, R456). -/
def Share.put (sh : Share) (size : Nat) : Option Share :=
  match shareBasin size sh.used sh.cur with
  | none => none
  | some c => if sh.bad.contains c then none else some { sh with cur := c, used := setAt sh.used c (sh.used.getD c 0 + size) }

/-- Delay-staging items of one deck (R235): (size, card offset). -/
def delayItems (spb : Nat) (cards : List (BitVec 128)) : List (Nat × Nat) :=
  (cards.zipIdx).filterMap (fun ci =>
    let c := cardFields ci.1
    if c.op = opDLW then some (64 * ceilDiv (8 * spb) 64, 16 * ci.2)
    else if c.op = opDLY then some (2 * 64 * ceilDiv (4 * (spb + 3) + 60) 64, 16 * ci.2)
    else none)

/-- Fold the items of delay staging. -/
def shareDelay (d : Draft) (fBlk dom : Nat) (sh : Share) : Except VErr Share :=
  (delayItems (draftSpb d fBlk dom) (d.deck dom)).foldlM (fun s it =>
    match s.put it.1 with
    | some s' => .ok s'
    | none => .error ⟨0x62, .pay tagDECK dom it.2⟩) sh

/-- Insertion by a numeric key, before the entries of an equal or greater key. -/
def insKey {α : Type} (k : α → Nat) (a : α) : List α → List α
  | [] => [a]
  | b :: r => if k a ≤ k b then a :: b :: r else b :: insKey k a r

/-- A stable sort by a numeric key. -/
def sortKey {α : Type} (k : α → Nat) (l : List α) : List α := l.reverse.foldl (fun acc a => insKey k a acc) []

/-- The receive buffer's bytes (R293). -/
def rxBufBytes (d : Draft) (fB : Nat) (k : Skin) : Nat :=
  4 * k.lanes * jitterB (packetN (draftRate d fB (skinDom d k)) k.ptime) k.linkOfs

/-- The flow engine's items (R300): the share, the spilled skeins and their bytes so far. -/
def shareRx (d : Draft) (fB fBlk : Nat) (acc : Share × List Nat × Nat) (k : Skin) :
    Except VErr (Share × List Nat × Nat) :=
  let n := rxBufBytes d fB k
  match acc.1.put n with
  | some s => .ok (s, acc.2)
  | none =>
    if acc.1.fails n then .error ⟨0x62, .pay tagSKIN k.inst 0x02⟩
    else
      match acc.1.put (2 * 64 * ceilDiv (4 * k.lanes * draftSpb d fBlk (skinDom d k)) 64) with
      | none => .error ⟨0x62, .pay tagSKIN k.inst 0x02⟩
      | some s =>
          if acc.2.2 + n ≤ 67108864 then .ok (s, acc.2.1 ++ [k.inst], acc.2.2 + n)
          else .error ⟨0x62, .pay tagSKIN k.inst 0x44⟩

/-- The system share of a draft: the share of each basin and the spilled receive skeins (R210, R235, R300). -/
def sysShare (d : Draft) (fB : Nat) (bad : List Nat := []) : Except VErr (Share × List Nat) := do
  let fBlk := fB / 4
  let s0 ← shareDelay d fBlk 0 { bad := bad }
  let s1 ← shareDelay d fBlk 1 s0
  let sk := sortKey (·.inst) d.skins
  let s2 ← (sk.filter (fun k => 128 ≤ k.inst)).foldlM (fun (s : Share) (k : Skin) =>
    let pay := packetN (draftRate d fB (skinDom d k)) k.ptime * k.lanes * encBytes k.enc
    match s.put (2 * 64 * ceilDiv pay 64) with
    | some s' => .ok s'
    | none => .error ⟨0x62, .pay tagSKIN k.inst 0x02⟩) s1
  let r ← (sk.filter (fun k => k.inst < 128)).foldlM (shareRx d fB fBlk) (s2, [], 0)
  return (r.1, r.2.1)

/-! ## Placement (R203 to R212) -/

/-- What one kernel occupies at a place (R205, R216). -/
structure Occ where
  s : Nat
  dom : Nat
  cycles : Nat
  pEnd : Nat
  xEnd : Nat
  yEnd : Nat
  bEnd : Nat
  deriving DecidableEq, Repr

/-- The buffer area of a kernel (R162, R205). -/
def bufArea (spb nIn nOut sSize : Nat) (l2 : Bool) : Nat :=
  let n := ringLen l2
  upTo 64 (n * nIn * spb * 4) + upTo 64 (n * nOut * spb * 4) + (if l2 then 2 * upTo 64 sSize else 0)

def maxOf (l : List Nat) (d : Nat) : Nat := l.foldl max d

def occOn (os : List Occ) (s : Nat) : List Occ := os.filter (fun o => o.s == s)
def usedCyc (os : List Occ) (s : Nat) : Nat := ((occOn os s).map (·.cycles)).sum
def usedProg (os : List Occ) (s : Nat) : Nat := maxOf ((occOn os s).map (·.pEnd)) 0
def usedX (os : List Occ) (s : Nat) : Nat := maxOf ((occOn os s).map (·.xEnd)) 0
def usedY (os : List Occ) (s : Nat) : Nat := maxOf ((occOn os s).map (·.yEnd)) 0
def usedBasin (os : List Occ) (n : Nat) : Nat := maxOf ((os.filter (fun o => o.s / 8 == n)).map (·.bEnd)) 0x8000

/-- The basic fit of R205: the first four tests. -/
def basicFit (os : List Occ) (k : Kern) (s : Nat) : Bool :=
  (occOn os s).all (fun o => o.dom == k.dom) && decide ((occOn os s).length < 32) &&
  decide (usedCyc os s + k.cycles ≤ 90000) && decide (usedProg os s + k.progWords ≤ 4096)

/-- The place of a kernel on a spindle that passed the basic fit, if X, Y, the buffer area and a tier fit (R205, R206,
R209). `limit` is what the basin offers below the system share. -/
def tierFit (os : List Occ) (spb : Nat) (share : List Nat) (k : Kern) (s : Nat) : Option CPlace :=
  let limit := 0x100000 - share.getD (s / 8) 0
  let xu := usedX os s
  let yu := usedY os s
  let bu := usedBasin os (s / 8)
  let x8 := upTo 8 k.xSize
  let y8 := upTo 8 k.ySize
  let s8 := upTo 8 k.sSize
  let l2 := k.cls == 2
  let buf := bufArea spb k.nIn k.nOut k.sSize l2
  if 65536 < xu + x8 ∨ 65536 < yu + y8 ∨ limit < bu + buf then none
  else
    let p : CPlace := { k := k.id, s := s, tier := 0, pBase := usedProg os s, xBase := if k.xSize = 0 then 0 else xu,
                        yBase := if k.ySize = 0 then 0 else yu, area := bu, sHome := 0,
                        entry := (occOn os s).length }
    if k.sSize = 0 then some p
    else if xu + x8 + s8 ≤ 65536 then some { p with tier := 1, sHome := xu + x8 }
    else if yu + y8 + s8 ≤ 65536 then some { p with tier := 2, sHome := yu + y8 }
    else if bu + buf + upTo 64 k.sSize ≤ limit then some { p with tier := 3, sHome := basinBase (s / 8) + bu + buf }
    else if l2 then some { p with tier := 4, sHome := cisternBase + k.id * 0x40000 }
    else none

/-- What a place occupies. -/
def occOf (spb : Nat) (k : Kern) (p : CPlace) : Occ :=
  let x := p.xBase + upTo 8 k.xSize
  let y := p.yBase + upTo 8 k.ySize
  let bufEnd := p.area + bufArea spb k.nIn k.nOut k.sSize (k.cls == 2)
  { s := p.s, dom := k.dom, cycles := k.cycles, pEnd := p.pBase + k.progWords,
    xEnd := if p.tier = 1 then p.sHome + upTo 8 k.sSize else if k.xSize = 0 then 0 else x,
    yEnd := if p.tier = 2 then p.sHome + upTo 8 k.sSize else if k.ySize = 0 then 0 else y,
    bEnd := if p.tier = 3 then bufEnd + upTo 64 k.sSize else bufEnd }

/-- Whether a computed place passes R205 against an occupancy in which no gap is reused. -/
def fitsAt (os : List Occ) (k : Kern) (c : CPlace) : Bool :=
  (occOn os c.s).all (fun x => x.dom == k.dom) && decide ((occOn os c.s).length < 32) &&
  decide (usedCyc os c.s + k.cycles ≤ 90000) && decide (usedProg os c.s ≤ c.pBase) &&
  (k.xSize == 0 || decide (usedX os c.s ≤ c.xBase)) && (c.tier != 1 || decide (usedX os c.s ≤ c.sHome)) &&
  (k.ySize == 0 || decide (usedY os c.s ≤ c.yBase)) && (c.tier != 2 || decide (usedY os c.s ≤ c.sHome)) &&
  decide (usedBasin os (c.s / 8) ≤ c.area)

/-- The pin of a kernel (R53): the first pin record. -/
def pinOf (d : Draft) (k : Nat) : Option Nat :=
  (d.plces.find? (fun r => r.kind == 0 && r.kernel == k)).map (fun r => 8 * r.bobbin + r.spindle)

/-- Whether the forbids of a kernel exclude a spindle (R207). -/
def forbidden (d : Draft) (k s : Nat) : Bool :=
  d.plces.any (fun r => r.kind == 1 && r.kernel == k && (r.bobbin == 0xFF || r.bobbin == s / 8) &&
    (r.spindle == 0xFF || r.spindle == s % 8))

/-- The spindles a kernel may try, in order (R205). -/
def tries (d : Draft) (fmap : List Nat) (k : Nat) : List Nat :=
  (below 64).filter (fun s => !(fmap.contains s) && !(forbidden d k s) && (pinOf d k).elim true (· == s))

/-- First fit of one kernel against an occupancy: its place, or whether any spindle passed the basic fit (R205, R208). -/
def firstFit (d : Draft) (fmap share : List Nat) (fB : Nat) (os : List Occ) (k : Kern) : Except Bool CPlace :=
  let c := (tries d fmap k.id).filter (basicFit os k)
  match c.findSome? (tierFit os (draftSpb d (fB / 4) k.dom) share k) with
  | some p => .ok p
  | none => .error (!c.isEmpty)

/-- Placement order (R204) as a numeric key. -/
def placeKey (d : Draft) (k : Kern) : Nat :=
  (if (pinOf d k.id).isSome then 0 else 2 ^ 60) + (k.cls - 1) * 2 ^ 50 + (2 ^ 20 - k.cycles) * 2 ^ 16 + k.id

def placeOrder (d : Draft) : List Kern := sortKey (placeKey d) d.kerns

/-- One kernel of the computed placement: the occupancy, the places and the kernels that fitted nowhere so far. -/
def placeStep (d : Draft) (fmap share : List Nat) (fB : Nat)
    (a : List Occ × List CPlace × List (Nat × Bool)) (k : Kern) : List Occ × List CPlace × List (Nat × Bool) :=
  match firstFit d fmap share fB a.1 k with
  | .ok p => (a.1 ++ [occOf (draftSpb d (fB / 4) k.dom) k p], a.2.1 ++ [p], a.2.2)
  | .error near => (a.1, a.2.1, a.2.2 ++ [(k.id, near)])

/-- The computed placement, with the kernels that fit nowhere (R203 to R208, R215). -/
def placeAll (d : Draft) (fmap share : List Nat) (fB : Nat) : List CPlace × List (Nat × Bool) :=
  ((placeOrder d).foldl (placeStep d fmap share fB) ([], [], [])).2

/-! ## The running occupancy (R216) -/

/-- λ: 1 for L1, 2 for L2 (R160). -/
def lam (l2 : Bool) : Nat := if l2 then 2 else 1

/-- Whether a place counts in the running occupancy at release `r`: an old form until the release after it processes its
last block; the source of a switched migration until R223's release; no destination of an aborted one. -/
def Place.counts (p : Place) (r : Nat) : Bool :=
  match p.last with
  | none => !p.ended
  | some l => if p.moved then decide (r < l + 2 * lam p.l2 + 1) else decide (r < l + lam p.l2 + 1)

def Place.occ (spb : Nat) (p : Place) : Occ :=
  let bufEnd := p.area + bufArea spb p.nIn p.nOut p.sSize p.l2
  { s := p.s, dom := p.dom, cycles := p.cycles, pEnd := p.pBase + p.progWords,
    xEnd := if p.tier = 1 then p.sHome + upTo 8 p.sSize else if p.xSize = 0 then 0 else p.xBase + upTo 8 p.xSize,
    yEnd := if p.tier = 2 then p.sHome + upTo 8 p.sSize else if p.ySize = 0 then 0 else p.yBase + upTo 8 p.ySize,
    bEnd := if p.tier = 3 then bufEnd + upTo 64 p.sSize else bufEnd }

/-- The running occupancy (R216): places that count, an isolated spindle's not among them, and restarts being loaded. -/
def Block.occ (b : Block) : List Occ :=
  ((b.crl.run.filter (fun p => p.counts (b.release p.dom) && !(b.spn p.s).isol)) ++ b.crl.restarts).map (fun p => p.occ (b.spb p.dom))

/-- The system share in force. -/
def Block.share (b : Block) : List Nat :=
  b.stg.force.elim (List.replicate 8 0) (fun d =>
    match sysShare d b.fB with
    | .ok r => r.1.used
    | .error _ => List.replicate 8 0)

/-! ## Descriptors and loading (R52, R168) -/

/-- LAST_BLK for none (R168). -/
def noLast : Nat := 0xFFFFFFFFFFFFFFFF

def descBytes (p : Place) : Bytes :=
  leBytes 2 (p.k % 2048 + 0x8000) ++ leBytes 1 (b2n p.l2 + 2 * p.dom) ++ leBytes 1 p.tier ++ leBytes 1 p.nIn ++
  leBytes 1 p.nOut ++ leBytes 2 p.pBase ++ leBytes 2 p.progWords ++ leBytes 2 p.xBase ++ leBytes 2 p.yBase ++
  leBytes 2 0 ++ leBytes 4 p.cycles ++ leBytes 4 p.xSize ++ leBytes 4 p.ySize ++ leBytes 4 p.sSize ++
  leBytes 8 p.sHome ++ leBytes 4 p.area ++ leBytes 4 0 ++ leBytes 8 p.first ++ leBytes 8 (p.last.getD noLast)

/-- A descriptor read from a basin (R168). -/
def descOf (bs : Bytes) : Desc :=
  { valid := bit (u16 bs 0) 15, k := u16 bs 0 % 2048, l2 := bit (u8 bs 2) 0, dom := fld (u8 bs 2) 1 1, tier := u8 bs 3,
    nIn := u8 bs 4, nOut := u8 bs 5, pBase := u16 bs 6, pLen := u16 bs 8, xBase := u16 bs 0xA, yBase := u16 bs 0xC,
    cycles := u32 bs 0x10, xSize := u32 bs 0x14, ySize := u32 bs 0x18, sSize := u32 bs 0x1C, sHome := u64 bs 0x20,
    area := u32 bs 0x28, first := u64 bs 0x30, last := u64 bs 0x38 }

/-- Write a spindle's run list at a basin offset: its descriptors, then one with VALID = 0 (R159, R210). -/
def Block.writeList (b : Block) (s ofs : Nat) (ps : List Place) : Block :=
  let bs := (ps.take 32).flatMap descBytes
  b.wrBytes (basinBase (s / 8) + ofs) (bs ++ (if ps.length < 32 then List.replicate 64 0 else []))

/-- The two run-list pages of a spindle (R210). -/
def listPage (s i : Nat) : Nat := (s % 8) * 0x1000 + i * 0x800

/-- The page that is not in force. -/
def Block.otherPage (b : Block) (s : Nat) : Nat :=
  if b.reg (Reg.SPN_RL_PTR (s / 8) (s % 8)) = listPage s 0 then listPage s 1 else listPage s 0

/-- Whether the run list of release `r` holds a place: an ended form stays until release LAST_BLK + 3 (R166). -/
def Place.inList (p : Place) (r : Nat) : Bool :=
  p.listed && !p.ended && p.last.elim true (fun l => decide (r < l + 3))

/-- A spindle that is not enabled has no run list yet: it takes an empty one in the page `ofs`. -/
def Block.firstList (b : Block) (s ofs : Nat) : Block :=
  if b.rbit (Reg.SPN_SCTRL (s / 8) (s % 8)) 0 then b else (b.writeList s ofs []).setReg (Reg.SPN_RL_PTR (s / 8) (s % 8)) ofs

/-- Write the next run list of a spindle and arm the switch at release `r` (R166, R225). An isolated spindle runs no list. -/
def Block.armList (b : Block) (s r : Nat) : Block :=
  if (b.spn s).isol then b else
  let n := s / 8
  let k := s % 8
  let ps := sortKey (·.entry) (b.crl.run.filter (fun p => p.s == s && p.inList r))
  let ofs := b.otherPage s
  let b1 := b.firstList s (if ofs = listPage s 0 then listPage s 1 else listPage s 0)
  let b2 := { b1 with crl := { b1.crl with run := b1.crl.run.map (fun (p : Place) => if p.s == s && p.ended then { p with listed := false } else p) } }
  (((b2.writeList s ofs ps).setReg (Reg.SPN_RL_NXT n k) ofs).setReg64 (Reg.SPN_RL_AT_LO n k) (Reg.SPN_RL_AT_HI n k) r).orReg
    (Reg.SPN_SCTRL n k) 3

/-- A switch of run lists is armed on a spindle (R166). -/
def Block.rlArm (b : Block) (s : Nat) : Bool := b.rbit (Reg.SPN_SCTRL (s / 8) (s % 8)) 1

/-- A place built from a kernel's header and a computed place. -/
def placeOf (k : Kern) (p : CPlace) (first : Nat) : Place :=
  { k := k.id, dom := k.dom, l2 := k.cls == 2, nIn := k.nIn, nOut := k.nOut, cycles := k.cycles,
    progWords := k.progWords, xSize := k.xSize, ySize := k.ySize, sSize := k.sSize, inLane := k.inLane,
    outLane := k.outLane, s := p.s, tier := p.tier, pBase := p.pBase, xBase := p.xBase, yBase := p.yBase,
    area := p.area, sHome := p.sHome, entry := p.entry, first := first, outFrom := first }

/-- The physical base of a place's S home (R168). -/
def Place.home (p : Place) : Nat :=
  if p.tier = 1 then spnWindow p.s + p.sHome else if p.tier = 2 then spnWindow p.s + 0x10000 + p.sHome else p.sHome

/-- Load a kernel's program and initial images into a place; memory beyond an image starts at 0 (R52, R160). Its buffer
area, for `spb` samples a block, is cleared. -/
def Block.loadKernel (b : Block) (spb : Nat) (k : Kern) (p : Place) : Block :=
  let w := spnWindow p.s
  let pad := fun (bs : Bytes) (n : Nat) => bs ++ List.replicate (n - bs.length) (0 : BitVec 8)
  let b1 := b.wrBytes (w + 0x20000 + 8 * p.pBase) (k.prog.flatMap (fun i => leBytes 8 i.toNat))
  let b2 := b1.wrBytes (w + p.xBase) (pad k.xImg k.xSize)
  let b3 := b2.wrBytes (w + 0x10000 + p.yBase) (pad k.yImg k.ySize)
  let b4 := b3.wrBytes p.home (pad k.sImg k.sSize)
  b4.zeroMem p.basin (bufArea spb p.nIn p.nOut p.sSize p.l2)

/-! ## Places and their state -/

def Block.setCrl (b : Block) (f : Creel → Creel) : Block := { b with crl := f b.crl }

/-- Change the places that satisfy a test. -/
def Block.modPlaces (b : Block) (t : Place → Bool) (f : Place → Place) : Block :=
  b.setCrl (fun c => { c with run := c.run.map (fun p => if t p then f p else p) })

/-- Whether a running place is at a computed place: spindle, tier and every offset (R213). -/
def atPlace (p : Place) (c : CPlace) : Bool :=
  p.s == c.s && p.tier == c.tier && p.pBase == c.pBase && p.xBase == c.xBase && p.yBase == c.yBase &&
  p.area == c.area && p.sHome == c.sHome

/-- The place from which a kernel runs now: not a destination, not an ended form. -/
def Block.runPlace (b : Block) (k : Nat) : Option Place :=
  b.crl.run.find? (fun p => p.k == k && !p.dest && p.last.isNone)

/-- The destination of the migration of a kernel. -/
def Block.destPlace (b : Block) (k : Nat) : Option Place := b.crl.run.find? (fun p => p.k == k && p.dest && !p.ended)

/-- CONVERGED (R213): every kernel of the draft in force runs at its computed place. -/
def Block.isConverged (b : Block) : Bool :=
  b.stg.force.elim true (fun d => d.kerns.all (fun k =>
    match b.runPlace k.id, b.crl.computed.find? (fun c => c.k == k.id) with
    | some p, some c => atPlace p c
    | _, _ => false))

/-- Bring CONVERGED up to date; CRL_INT.CONVERGED sets when it goes from 0 to 1. -/
def Block.updConverged (b : Block) : Block :=
  let v := b.isConverged
  let b1 := if v && !b.crl.converged then b.setInt Reg.CRL_INT 5 else b
  b1.setCrl (fun c => { c with converged := v })

/-- A fault of the creel (R226): code, class, spindle, kernel. CRL_FLT_INFO keeps the kernel of the first error. -/
def Block.crlFault (b : Block) (code cls s k : Nat) : Block :=
  let first := !(b.frec srcCRL).pend
  let b1 := b.raise srcCRL code cls s s
  if first then b1.setReg Reg.CRL_FLT_INFO (if code = 6 then 0 else k) else b1

/-- STUCK (R219, R224). -/
def Block.crlStuck (b : Block) (s k : Nat) : Block :=
  ((b.setCrl (fun c => { c with stuck := true })).setInt Reg.CRL_INT 4).crlFault 5 0 s k

/-- The computed placement of the draft in force under the present fault map, and the kernels to move to it. -/
def Block.recompute (b : Block) : Block :=
  match b.stg.force with
  | none => b
  | some d => b.setCrl (fun c => { c with computed := (placeAll d c.fmap b.share b.fB).1 })

/-- The kernels whose running place differs from their computed place want to move there (R219). -/
def Block.wantComputed (b : Block) (trigger : Nat) : Block :=
  let w := b.crl.computed.filter (fun c => (b.runPlace c.k).elim false (fun p => !(atPlace p c)))
  b.setCrl (fun c => { c with want := w, trigger := trigger, stuck := false, pinned := [], retry := [] })

/-! ## Restarts, NO_PLACE and the fault map (R214, R215) -/

/-- A kernel that fits no usable spindle does not run; its outtake reads 0 and NO_PLACE is raised (R215). -/
def Block.noPlace (b : Block) (p : Place) : Block :=
  let blk := b.blk
  let b1 := b.modPlaces (fun q => q.k == p.k && !q.dest && q.last.isNone)
    (fun q => { q with last := some (blk - 1), zeroFrom := some (q.zeroFrom.getD blk) })
  ((b1.setCrl (fun c => { c with noPlace := p.k :: c.noPlace })).setInt Reg.CRL_INT 6).crlFault 4 1 p.s p.k

/-- A wake is requested for a domain that is not up; one that is switching off joins the queue when that is done
(R460, R461). -/
def Block.wakeReq (b : Block) (d : Nat) : Block :=
  if b.domOn d || (tget 0 b.sys.waking d != 0) || b.rbit Reg.PWR_DOM_PEND d || b.sys.later.contains d || b.sys.pmicLost then b
  else if tget 0 b.sys.offing d != 0 then b.setSys (fun s => { s with later := s.later ++ [d] })
  else b.setRfld Reg.PWR_DOM_PEND d 1 1

/-- The spindle is awake: its bobbin's domain is on (R458). -/
def Block.bobbinOn (b : Block) (n : Nat) : Bool := b.rbit Reg.PWR_DOM_ON (3 + n)

/-- The wake of a bobbin is requested before anything is copied there (R217). -/
def Block.wakeBobbin (b : Block) (s : Nat) : Block := b.wakeReq (3 + s / 8)

/-- A kernel is to be loaded into a place: loading begins where the place has room beside the kernels that run, and waits for it
where not (R146, R205, R215); its bobbin is woken (R217). -/
def Block.loadBegin (b : Block) (k : Kern) (c : CPlace) : Block :=
  let q := placeOf k c 0
  (b.setCrl (fun r => if fitsAt b.occ k c then { r with restarts := r.restarts ++ [q] } else { r with waits := r.waits ++ [q] })).wakeBobbin c.s

/-- A kernel of an isolated spindle restarts at a new place once it is loaded (R215). -/
def Block.restart (b : Block) (p : Place) (k : Kern) (c : CPlace) : Block :=
  let blk := b.blk
  let b1 := b.modPlaces (fun q => q.k == p.k && !q.dest && q.last.isNone)
    (fun q => { q with last := some (blk - 1), zeroFrom := some (q.zeroFrom.getD blk) })
  ((b1.loadBegin k c).setInt Reg.CRL_INT 2).crlFault 3 1 p.s p.k

/-- One kernel of a spindle that entered the fault map finds its new place, first-fit against the running occupancy and the
places that the spindle's other kernels have found, and restarts or is to migrate there. -/
def Block.replace (iso : Bool) (b : Block) (p : Place) : Block :=
  match b.stg.force.bind (fun d => d.kern? p.k) with
  | none => b
  | some k =>
    match b.stg.force with
    | none => b
    | some d =>
      let fit :=
        if b.rbit Reg.CRL_CTRL 0 then (b.crl.computed.find? (fun c => c.k == p.k)).elim (.error false) .ok
        else
          let mine := b.crl.want.filter (fun c => (b.runPlace c.k).any (fun q => q.s == p.s))
          firstFit d b.crl.fmap b.share b.fB
            (mine.filterMap (fun c => (d.kern? c.k).map (fun kk => occOf (b.spb kk.dom) kk c)) ++ b.occ) k
      match fit with
      | .error _ => b.noPlace p
      | .ok c =>
          if iso then b.restart p k c
          else b.setCrl (fun r => { r with want := r.want.filter (fun w => w.k != p.k) ++ [c], trigger := 1, pinned := r.pinned.filter (· != p.k) })

/-- Kernels running on a spindle, in placement order. -/
def Block.kernelsOn (b : Block) (s : Nat) : List Place :=
  let d := b.stg.force.getD {}
  sortKey (fun p => (d.kern? p.k).elim 0 (placeKey d)) (b.crl.run.filter (fun p => p.s == s && !p.dest && p.last.isNone))

/-- Migrations whose destination entered the fault map, and how one ends, are below; a spindle in the fault map. -/
def Block.setFmap (b : Block) (s : Nat) (on : Bool) : Block :=
  let b1 := b.setCrl (fun c => { c with fmap := if on then (if c.fmap.contains s then c.fmap else s :: c.fmap)
                                              else c.fmap.filter (· != s) })
  let a := if s < 32 then Reg.CRL_FMAP_LO else Reg.CRL_FMAP_HI
  (b1.setRfld a (s % 32) 1 (b2n on)).setInt Reg.CRL_INT 3

/-! ## Migrations (R220 to R225) -/

/-- CRL_MIG_LAST (R226 registers). -/
def Block.migLast (b : Block) (m : Mig) (result : Nat) : Block :=
  b.setReg Reg.CRL_MIG_LAST (m.trigger * 2 ^ 28 + result * 2 ^ 24 + m.dst * 2 ^ 17 + m.src * 2 ^ 11 + m.k)

/-- A migration is aborted (R224): its destination's entry and intake end at the next release, it is counted, and it is retried unless it
met MISMATCH or has been retried 3 times; then K stays. -/
def Block.migAbort (b : Block) (m : Mig) (result : Nat) : Block :=
  let r := b.blk
  let b1 := b.setCrl (fun c => { c with
    migs := c.migs.filter (fun x => x.k != m.k),
    run := c.run.map (fun p => if p.k == m.k && p.dest then { p with ended := true } else p),
    retry := if result = 1 ∨ result = 6 ∨ 3 ≤ m.retries then c.retry
             else c.retry ++ [(m.k, m.retries + 1, r + 16, m.trigger)],
    pinned := if result = 1 ∨ (result ≠ 6 ∧ 3 ≤ m.retries) then m.k :: c.pinned else c.pinned })
  let b2 := (b1.migLast m result).count Reg.CRL_MIG_CNT 16 16 1
  let b3 := b2.setInt Reg.CRL_INT 1
  let b4 := if result = 1 then b3.crlFault 2 1 m.dst m.k else b3.crlFault 1 0 m.dst m.k
  let b5 := if m.st = .shadow ∧ !b4.rlArm m.dst then b4.armList m.dst (b4.release ((b4.runPlace m.k).elim 0 (·.dom)) + 1) else b4
  if result ≠ 1 ∧ result ≠ 6 ∧ 3 ≤ m.retries then b5.crlStuck m.src m.k else b5

/-- The switch of a migration at release `r` (R223). -/
def Block.migSwitch (b : Block) (m : Mig) (r : Nat) : Block :=
  let l2 := (b.runPlace m.k).elim false (·.l2)
  let f := fun (p : Place) =>
    if p.k == m.k && p.dest && !p.ended then { p with dest := false, outFrom := r - lam l2 }
    else if p.k == m.k && p.last.isNone then { p with last := some (r - lam l2 - 1), moved := true }
    else p
  let b1 := b.setCrl (fun c => { c with run := c.run.map f, migs := c.migs.filter (fun x => x.k != m.k),
                                        want := c.want.filter (fun w => w.k != m.k) })
  let b2 := ((b1.migLast m 0).count Reg.CRL_MIG_CNT 0 16 1).setInt Reg.CRL_INT 0
  (b2.armList m.src r).updConverged

end Sys2Proof.Machine
end

