-- ==== Sys2Proof/Machine/Frame.lean ====
section
/-! DEFINITION. Reading and editing Ethernet frames: tags, IP, UDP, checksums and PTP headers
(spec/09_media_ports.md, spec/10_flows.md, spec/11_network_time.md). A frame is its bytes from the DA, without FCS
unless said otherwise. -/

namespace Sys2Proof.Machine

/-- The FCS of a frame, in the order in which it is sent (R262). -/
def fcsOf (f : Bytes) : Bytes := leBytes 4 (crc32e f)

/-- The bitwise complement of the FCS (R263, R266). -/
def badFcs (f : Bytes) : Bytes := leBytes 4 (crc32e f ^^^ 0xFFFFFFFF)

/-- Padding with zeros to 60 bytes (R262). -/
def padTo60 (f : Bytes) : Bytes := f ++ List.replicate (60 - f.length) 0

/-- Replace bytes at an offset, within the frame's length. -/
def splice (f : Bytes) (o : Nat) (bs : Bytes) : Bytes :=
  let n := min bs.length (f.length - o)
  f.take o ++ bs.take n ++ f.drop (o + n)

/-- An Ethernet header behind at most one tag of TPID 0x8100 (R255). -/
structure EthHdr where
  tagged : Bool := false
  tci : Nat := 0
  etype : Nat := 0
  /-- Offset of what follows the EtherType. -/
  off : Nat := 14
  deriving DecidableEq, Repr

def ethHdr (f : Bytes) : EthHdr :=
  if be16 f 12 = 0x8100 then { tagged := true, tci := be16 f 14, etype := be16 f 16, off := 18 }
  else { tagged := false, tci := 0, etype := be16 f 12, off := 14 }

/-- The VID of a frame; 0 for an untagged one. -/
def vidOf (f : Bytes) : Nat := (ethHdr f).tci % 4096

/-- DA and SA as 48-bit values, byte 0 in [47:40]. -/
def daOf (f : Bytes) : Nat := be48 f 0
def saOf (f : Bytes) : Nat := be48 f 6

/-- Whether a 48-bit address is a group address. -/
def isGroup (a : Nat) : Bool := bit a 40

/-- The broadcast address. -/
def bcast : Nat := 0xFFFFFFFFFFFF

/-- The hash bin of a destination address (R254). -/
def hashBin (f : Bytes) : Nat := crc32e (slice 0 6 f) / 2 ^ 26

/-- IP version and offset of a frame's IP header, if it has one. -/
def ipAt (f : Bytes) : Option (Nat × Nat) :=
  let h := ethHdr f
  if h.etype = 0x0800 ∧ u8 f h.off / 16 = 4 then some (4, h.off)
  else if h.etype = 0x86DD ∧ u8 f h.off / 16 = 6 then some (6, h.off)
  else none

/-- The IP DSCP of a frame. -/
def dscpOf (f : Bytes) : Option Nat :=
  (ipAt f).map (fun p => if p.1 = 4 then u8 f (p.2 + 1) / 4 else be16 f p.2 / 64 % 64)

/-- Whether an IPv4 packet is a fragment (MF, or a fragment offset not 0). -/
def frag4 (f : Bytes) (o : Nat) : Bool := decide (be16 f (o + 6) % 0x4000 ≠ 0)

/-- Offset of the UDP header of an unfragmented UDP packet. -/
def udpAt (f : Bytes) : Option Nat :=
  match ipAt f with
  | some (4, o) => if u8 f (o + 9) = 17 ∧ frag4 f o = false then some (o + 4 * (u8 f o % 16)) else none
  | some (_, o) => if u8 f (o + 6) = 17 then some (o + 40) else none
  | none => none

/-- The ones' complement sum of 16-bit words, big-endian, an odd last byte padded with 0. -/
def onesSum : Bytes → Nat → Nat
  | [], a => a
  | [x], a => let s := a + 256 * x.toNat
              s % 65536 + s / 65536
  | x :: y :: r, a => let s := a + 256 * x.toNat + y.toNat
                      onesSum r (s % 65536 + s / 65536)

/-- The Internet checksum of bytes: the complement of their ones' complement sum. -/
def inetSum (bs : Bytes) : Nat := 65535 - onesSum bs 0

/-- The pseudo-header and the UDP packet over which a UDP checksum runs; `n` is the UDP length. -/
def udpSummed (f : Bytes) (u n : Nat) : Bytes :=
  match ipAt f with
  | some (4, o) => slice (o + 12) 8 f ++ [0, 17] ++ beBytes 2 n ++ slice u n f
  | some (_, o) => slice (o + 8) 32 f ++ beBytes 4 n ++ [0, 0, 0, 17] ++ slice u n f
  | none => []

/-- The UDP checksum field for a frame whose checksum field is 0: an all-zero sum is sent as all ones. -/
def udpSum (f : Bytes) (u n : Nat) : Nat :=
  let s := inetSum (udpSummed f u n)
  if s = 0 then 65535 else s

/-- Recompute the UDP checksum under IPv6, and under IPv4 when it is not 0 (R316). -/
def fixUdp (f : Bytes) : Bytes :=
  match udpAt f, ipAt f with
  | some u, some (v, _) =>
      if v = 4 ∧ be16 f (u + 6) = 0 then f
      else
        let g := splice f (u + 6) [0, 0]
        splice g (u + 6) (beBytes 2 (udpSum g u (be16 g (u + 4))))
  | _, _ => f

/-- Offset of the PTP header and whether it is in a UDP packet to port 319, or 0x88F7 (R315); port 320 carries the
general messages. -/
def ptpAt (f : Bytes) : Option (Nat × Bool) :=
  match udpAt f with
  | some u => if be16 f (u + 2) = 319 then some (u + 8, true)
              else if be16 f (u + 2) = 320 then some (u + 8, false) else none
  | none => let h := ethHdr f
            if h.etype = 0x88F7 then some (h.off, true) else none

/-- A frame that meets the conditions of R315 for a PTP event message: its header's offset. -/
def ptpLike (f : Bytes) : Option Nat :=
  match ptpAt f with
  | some (o, true) =>
      if f.length < o + 2 then none
      else if u8 f (o + 1) % 16 = 2 ∧ u8 f (o + 1) / 16 ≤ 1 ∧ u8 f o % 16 ≤ 1 then some o else none
  | _ => none

/-- Whether a frame that meets the conditions is too short for its header or its messageLength (R315). -/
def ptpShort (f : Bytes) (o : Nat) : Bool :=
  decide (f.length < o + 34) || decide (f.length < o + be16 f (o + 2))

/-- The header's offset of a PTP event message. -/
def ptpEvent (f : Bytes) : Option Nat := (ptpLike f).filter (fun o => !(ptpShort f o))

/-- Whether an event message is a Delay_Req; else it is a Sync. -/
def isDelayReq (f : Bytes) (o : Nat) : Bool := u8 f o % 16 == 1

/-- Whether a frame is a PTP message of any type: it goes through transmit queue 0 (R261). -/
def isPtp (f : Bytes) : Bool := (ptpAt f).isSome

/-- Add to a correctionField, in units of 2^-16 ns, holding the greatest value once reached (R318). -/
def addCorr (f : Bytes) (o : Nat) (x : Int) : Bytes :=
  let old := toS 64 (be64 f (o + 8))
  let sum := old + x
  let v := if old = maxS 64 ∨ sum < minS 64 ∨ maxS 64 < sum then maxS 64 else sum
  splice f (o + 8) (beBytes 8 (ofS 64 v))

end Sys2Proof.Machine
end

