-- ==== Sys2Proof/Machine/Net.lean ====
section
/-! DEFINITION. The Ethernet ports and the forwarding block: receive path, transmit path, forwarding, link state, the
forwarding table, the field bus and MDIO (spec/09_media_ports.md, R251 to R280), and the PTP insertions of R313 to R318.
Ports: 0 to 3 are M0 to M3, 4 is C0, 5 is T0. -/

namespace Sys2Proof.Machine

/-! ## Ports and their registers -/

/-- Base of a port's page (R272, R274, R280). -/
def portBase (p : Nat) : Nat := if p < 4 then 0x400000 + 0x10000 * p else if p = 4 then 0x700000 else 0x710000

/-- The fault source of a port. -/
def portSrc (p : Nat) : Nat := if p < 4 then srcNET p else if p = 4 then srcCTL else srcFBS

def Block.port (b : Block) (p : Nat) : Port := tget {} b.net.ports p

def Block.modPort (b : Block) (p : Nat) (f : Port → Port) : Block :=
  { b with net := { b.net with ports := tmod {} p f b.net.ports } }

/-- Whether a port is in use: LINK up on M0 to M3 and C0 (R252, R275), enabled on T0. -/
def Block.portUp (b : Block) (p : Nat) : Bool :=
  if p < 5 then bit (b.reg (portBase p + 4)) 0 else bit (b.reg Reg.FBS_CFG) 0

/-- SPEED of a port. -/
def Block.portSpeed (b : Block) (p : Nat) : Nat := fld (b.reg (portBase p)) 0 2

/-- A port's MAC address in wire order, byte 0 in [47:40]. -/
def Block.portMac (b : Block) (p : Nat) : Bytes :=
  leBytes 4 (b.reg (portBase p + 0x18)) ++ leBytes 2 (b.reg (portBase p + 0x1C))

/-- Set an event bit of a port's INT register: OVERFLOW, UNDERRUN and CNT_HALF lie elsewhere on T0 (R280). -/
def Block.portInt (b : Block) (p i : Nat) : Block := b.setInt (portBase p + 8) i

def intCntHalf (p : Nat) : Nat := if p = 5 then 3 else 4
def intOverflow (p : Nat) : Nat := if p = 5 then 2 else 3

/-- Add to counter k of a port: it wraps, and a rise of bit 31 sets its CNT_HALF bits (R270). -/
def Block.cnt (b : Block) (p k n : Nat) : Block :=
  let a := portBase p + 0x400 + 4 * k
  let old := b.reg a
  let new := (old + n) % 2 ^ 32
  let b1 := b.setReg a new
  if !bit old 31 && bit new 31 then (b1.setInt (portBase p + 0x300) k).portInt p (intCntHalf p) else b1

/-- A fault of a port (R271). -/
def Block.portFault (b : Block) (p code unit : Nat) : Block := b.raise (portSrc p) code 0 0 unit

/-! ## Stamps (R312 to R314) -/

/-- A receive stamp referred to the reference plane: `age` is how long ago, in 125 ps units, the first bit after the SFD
crossed the ball, on the 500 MHz clock. -/
def Block.stampRx (b : Block) (p age : Nat) : Nat :=
  let s : Int := (b.stampAt (16 * b.tsu.ticks - age) : Int) * 125 - (if p < 5 then (b.rfld (Reg.TSU_RX_LAT p) 0 20 : Int) else 0)
  (s / 125).toNat

/-- A transmit stamp. -/
def Block.stampTx (b : Block) (p tap : Nat) : Nat :=
  (b.stamp tap * 125 + (if p < 5 then b.rfld (Reg.TSU_TX_LAT p) 0 20 else 0)) / 125

/-- Seconds, nanoseconds and SUB of a stamp. -/
def stampSec (s : Nat) : Nat := s / 8000000000 % 2 ^ 48
def stampNs (s : Nat) : Nat := s / 8 % 1000000000
def stampSub (s : Nat) : Nat := s % 8

/-- TSU_ASYM(p) in units of 2^-16 ns (R316, R317). -/
def Block.asym (b : Block) (p : Nat) : Int × Block :=
  b.drawRound (toS 32 (b.reg (Reg.TSU_ASYM p)) * 8192) 125

/-- Count a short PTP event message and raise PTP_BAD (R315). -/
def Block.ptpBad (b : Block) (f : Bytes) : Block :=
  match ptpLike f with
  | some o => if ptpShort f o then (b.count Reg.TSU_CNT 16 16 1).raise srcTSU 7 0 0 0 else b
  | none => b

/-- Enter a stamp in the TXS FIFO (R316). -/
def Block.txsPush (b : Block) (e : Txs) : Block :=
  if 64 ≤ b.tsu.txs.length then (b.count Reg.TSU_CNT 0 16 1).raise srcTSU 6 0 0 0
  else ({ b with tsu := { b.tsu with txs := b.tsu.txs ++ [e] } }).setInt Reg.TSU_INT 3

/-- What hardware writes into an event message that firmware originates (R316): the stamp, SUB, the asymmetry of a
Delay_Req, the checksum. -/
def Block.ptpInsert (b : Block) (p : Nat) (f : Bytes) (o s : Nat) : Bytes × Block :=
  let f1 := splice f (o + 34) (beBytes 6 (stampSec s) ++ beBytes 4 (stampNs s))
  let f2 := addCorr f1 o (stampSub s * 8192 : Nat)
  let r := if isDelayReq f o then
      let a := b.asym p
      (addCorr f2 o (-a.1), a.2)
    else (f2, b)
  (fixUdp r.1, r.2.txsPush { port := p, type := u8 f o % 16, seq := be16 f (o + 30), stamp := s })

/-- TIME.TC_EN of the draft in force. -/
def Block.tcEn (b : Block) : Bool := b.stg.force.elim false (fun d => (d.time?).elim false (·.tcEn))

/-- The residence time of a forwarded event message, `r` in 125 ps units (R318). -/
def Block.residence (b : Block) (f : Bytes) (r : Int) : Bytes :=
  match ptpEvent f with
  | some o => if b.tcEn then fixUdp (addCorr f o (r * 8192)) else f
  | none => f

/-! ## Host rings on transmit (R425, R426) -/

/-- Base address of entry `i` of a port's transmit ring. -/
def Block.txDesc (b : Block) (r i : Nat) : Nat :=
  b.reg (Reg.HST_TXRING_BASE_LO r) + 2 ^ 32 * (b.reg (Reg.HST_TXRING_BASE_HI r) % 256) + 32 * i

/-- Write a stamp into a descriptor. -/
def Block.descStamp (b : Block) (a s : Nat) : Block :=
  ((b.wrLE (a + 0x10) 4 (stampNs s)).wrLE (a + 0x14) 1 (stampSub s)).wrLE (a + 0x18) 8 (stampSec s)

/-- A transmit entry is completed: the stamp if asked, DONE, HEAD, and its bit of HST_RING_EVT. -/
def Block.txEntryDone (b : Block) (r i : Nat) (s : Option Nat) : Block :=
  let a := b.txDesc r i
  let b1 := s.elim b (fun x => b.descStamp a x)
  let b2 := b1.wrLE (a + 0x0A) 2 (b1.rdLE (a + 0x0A) 2 ||| 1)
  (b2.setReg (Reg.HST_TXRING_HEAD r) ((i + 1) % max 1 (b2.reg (Reg.HST_TXRING_SIZE r)))).orReg Reg.HST_RING_EVT (2 ^ (8 + r))

/-- What a host frame's entry gets when its frame has left or has been discarded. -/
def Block.hostDone (b : Block) (t : TxFrame) (s : Option Nat) : Block :=
  match t.host with
  | some (r, i) => b.txEntryDone r i (if t.stampReq then s else none)
  | none => b

/-! ## Sending a frame (R262, R270, R316, R318) -/

/-- Count a frame sent: TX_OK, TX_OCTETS and its address class. -/
def Block.cntTx (b : Block) (p : Nat) (f : Bytes) : Block :=
  let k := if daOf f = bcast then 24 else if isGroup (daOf f) then 23 else 22
  ((b.cnt p 20 1).cnt p 21 (f.length + 4)).cnt p k 1

/-- A frame leaves whole. `s` is its transmit stamp, `q` its queue. -/
def Block.sendFrame (b : Block) (p q s : Nat) (t : TxFrame) : Block :=
  let f := padTo60 t.bytes
  let r := match t.rx with
    | some (_, s0) => (b.residence f ((s : Int) - s0), b)
    | none =>
      match ptpEvent f with
      | some o => if q = 0 ∧ bit (u8 f (o + 6)) 1 = false then b.ptpInsert p f o s else (f, b)
      | none => (f, b.ptpBad f)
  let stamped := t.stampReq || (ptpEvent f).isSome
  let b1 := r.2.emit (.frame p (r.1 ++ fcsOf r.1) (if stamped then some s else none))
  (b1.cntTx p r.1).hostDone t (some s)

/-! ## Transmit queues (R261, R273, R280) -/

/-- The number of transmit queues of a port. -/
def txQueues (p : Nat) : Nat := if p < 4 then 8 else if p = 4 then 4 else 1

/-- The first host queue of a port. -/
def hostQueue (p : Nat) : Nat := if p < 4 then 5 else 2

def Block.txq (b : Block) (p q : Nat) : List TxFrame := tget [] (b.port p).tx q

/-- Bytes a queue holds, FCS included (log entry 9). -/
def txUsed (l : List TxFrame) : Nat := (l.map (fun t => t.bytes.length + 4)).sum

/-- Whether a queue has room for a frame: sizes of R261; on C0 the 4 queues share 16 KiB; T0 has 8 KiB. -/
def Block.txRoom (b : Block) (p q n : Nat) : Bool :=
  if p = 4 then decide (((below 4).map (fun i => txUsed (b.txq 4 i))).sum + n ≤ 16 * 1024)
  else decide (txUsed (b.txq p q) + n ≤
    1024 * (if p = 5 then 8 else match q with | 1 => 48 | 2 => 24 | 4 => 16 | _ => 8))

def Block.setTxq (b : Block) (p q : Nat) (l : List TxFrame) : Block :=
  b.modPort p (fun x => { x with tx := tput [] q l x.tx })

/-- Enter a frame into a transmit queue, if the link is up and there is room; whether it entered. -/
def Block.txPut (b : Block) (p q : Nat) (t : TxFrame) : Bool × Block :=
  if b.portUp p && b.txRoom p q (t.bytes.length + 4) then (true, b.setTxq p q (b.txq p q ++ [t])) else (false, b)

/-- A host frame in progress ends whole: its data came in time. -/
def Block.finishCur (b : Block) (p : Nat) : Block :=
  match (b.port p).cur with
  | some (t, s) => (b.modPort p (fun x => { x with cur := none })).sendFrame p (hostQueue p) s t
  | none => b

/-- Whether a cut-through copy is leaving a port. -/
def Block.cutting (b : Block) (p : Nat) : Bool :=
  (below 4).any (fun i => (b.port i).cuts.any (fun c => c.egress == p))

/-- Whether the head of a queue may start: whole, or, from a host queue, with THR bytes present (R261, R263, R273). -/
def Block.ready (b : Block) (p q : Nat) : Bool :=
  match b.txq p q with
  | [] => false
  | t :: _ => t.whole || (decide (hostQueue p ≤ q) && decide (fld (b.reg (portBase p + 0x10)) 0 16 < t.bytes.length) &&
      decide (fld (b.reg (portBase p + 0x10)) 0 16 ≤ t.present))

/-- A frame that firmware offers enters its queue, if it can. -/
def Block.offer (b : Block) (p : Nat) : Option (Nat × Bytes) → Block
  | some (q, f) => (b.txPut p q { bytes := f, present := f.length }).2
  | none => b

/-- FRAME_TRANSMIT: a frame boundary of port p. A frame in progress has ended; the lowest-numbered ready queue starts. -/
def Block.frameTransmit (p tap : Nat) (fw : Option (Nat × Bytes)) (b : Block) : Block :=
  if 4 < p then b
  else
    let b1 := (b.finishCur p).offer p (fw.filter (fun x => x.1 < hostQueue p))
    if !b1.portUp p || b1.cutting p then b1
    else match (below (txQueues p)).find? (fun q => b1.ready p q) with
      | none => b1
      | some q =>
        match b1.txq p q with
        | [] => b1
        | t :: r =>
          let b2 := b1.setTxq p q r
          let s := b2.stampTx p tap
          if t.whole then b2.sendFrame p q s t else b2.modPort p (fun x => { x with cur := some (t, s) })

/-- TX_UNDERRUN (R263): the host frame in progress runs out of data after `sent` bytes. -/
def Block.txUnderrun (p sent : Nat) (b : Block) : Block :=
  match (b.port p).cur with
  | none => b
  | some (t, s) =>
    let f := t.bytes.take (min sent (t.bytes.length - 1))
    let b1 := (b.modPort p (fun x => { x with cur := none })).emit (.frame p (f ++ badFcs f) (some s))
    let b2 := (((b1.cnt p 25 1).portInt p 2).portFault p 3 0).hostDone t (some s)
    let a := portBase p + 0x10
    let thr := fld (b2.reg a) 0 16
    if bit (b2.reg (portBase p)) 4 then b2.setReg a (setFld (b2.reg a) 0 16 (max thr (min (thr + 256) (fld (b2.reg a) 16 16))))
    else b2

/-! ## Receive queues (R257 to R259) -/

def rxQueues (p : Nat) : Nat := if p < 4 then 8 else if p = 4 then 4 else 1

/-- SIZE of a receive queue in bytes. -/
def Block.rxSize (b : Block) (p q : Nat) : Nat :=
  if p = 5 then 16 * 1024 else 1024 * fld (b.reg (portBase p + 0x40 + 4 * q)) 0 9

/-- DEST of a receive queue: T0's queue is firmware's. -/
def Block.rxDest (b : Block) (p q : Nat) : Nat :=
  if p = 5 then 1 else fld (b.reg (portBase p + 0x40 + 4 * q)) 28 2

def Block.rxq (b : Block) (p q : Nat) : List RxFrame := tget [] (b.port p).rx q

def Block.setRxq (b : Block) (p q : Nat) (l : List RxFrame) : Block :=
  b.modPort p (fun x => { x with rx := tput [] q l x.rx })

/-- Buffer space of a frame (R258): 64 bytes of record and its length rounded up to 64. -/
def rxCost (f : RxFrame) : Nat := 64 + (f.bytes.length + 4 + 63) / 64 * 64

def rxUsed (l : List RxFrame) : Nat := (l.map rxCost).sum

/-- Discard the oldest frames that nobody reads until there is room; the frames kept and how many were discarded. -/
def makeRoom (room : Nat) : List RxFrame → List RxFrame → Nat × List RxFrame
  | kept, [] => (0, kept)
  | kept, f :: r =>
      if rxUsed (kept ++ f :: r) ≤ room then (0, kept ++ f :: r)
      else if f.reading then makeRoom room (kept ++ [f]) r
      else let x := makeRoom room kept r
           (x.1 + 1, x.2)

/-- Frames dropped or discarded for want of room (R259). -/
def Block.overflow (b : Block) (p q n : Nat) : Block :=
  (below n).foldl (fun x _ => ((x.cnt p 19 1).portInt p (intOverflow p)).portFault p 4 q) b

/-- Enter a received frame into its queue (R258, R259). -/
def Block.rxPut (b : Block) (p q : Nat) (f : RxFrame) : Block :=
  let size := b.rxSize p q
  let l := b.rxq p q
  if rxUsed l + rxCost f ≤ size then b.setRxq p q (l ++ [f])
  else if size < rxCost f ∨ bit (b.reg (portBase p)) 5 then b.overflow p q 1
  else
    let x := makeRoom (size - rxCost f) [] l
    if rxUsed x.2 + rxCost f ≤ size then (b.setRxq p q (x.2 ++ [f])).overflow p q x.1
    else (b.setRxq p q x.2).overflow p q (x.1 + 1)

/-! ## Filters (R254, R255) -/

/-- Whether a frame is accepted locally. -/
def Block.accepts (b : Block) (p : Nat) (f : Bytes) : Bool :=
  let mac := b.portMac p
  let own := decide (beNat mac ≠ 0) && (f.take 6 == mac)
  let bin := hashBin f
  own || decide (daOf f = bcast) ||
  (isGroup (daOf f) && (if bin < 32 then bit (b.reg (portBase p + 0x30)) bin else bit (b.reg (portBase p + 0x34)) (bin - 32)))

/-- Whether a filter's conditions hold for a frame. -/
def filterHits (ma mb : Nat) (f : Bytes) : Bool :=
  let h := ethHdr f
  let mask := fld mb 16 12
  let tagOk := match fld ma 25 2 with
    | 1 => !h.tagged
    | 2 => h.tagged && decide ((h.tci % 4096) &&& mask = fld ma 0 12 &&& mask)
    | _ => true
  bit ma 31 && tagOk && (!bit ma 24 || decide (h.etype = fld mb 0 16))

/-- The receive queue that the filters choose; none drops the frame. -/
def Block.classify (b : Block) (p : Nat) (f : Bytes) : Option Nat :=
  if p = 5 then some 0
  else
    let regs := (below (if p = 4 then 16 else 64)).map (fun i =>
      (b.reg (portBase p + 0x100 + 8 * i), b.reg (portBase p + 0x104 + 8 * i)))
    match regs.find? (fun r => filterHits r.1 r.2 f) with
    | some r => if bit r.1 30 then none else some (fld r.1 27 3)
    | none => let d := b.reg (portBase p + 0x14)
              if bit d 3 then none else some (fld d 0 3)

/-! ## Forwarding (R265 to R269) -/

/-- The bucket of a key. -/
def fwdBucket (k : Nat) : Nat :=
  fld k 0 10 ^^^ fld k 10 10 ^^^ fld k 20 10 ^^^ fld k 30 10 ^^^ fld k 40 10 ^^^ fld k 50 10

/-- The key of a VID and an address. -/
def fwdKey (vid mac : Nat) : Nat := vid * 2 ^ 48 + mac

def Block.fwdEnt (b : Block) (i : Nat) : FwdEntry := tget {} b.net.fwd i

def Block.setFwd (b : Block) (i : Nat) (e : FwdEntry) : Block :=
  { b with net := { b.net with fwd := tput {} i e b.net.fwd } }

/-- The entry that matches a key, the ways searched in order. -/
def Block.fwdFind (b : Block) (vid mac : Nat) : Option Nat :=
  (upFrom (4 * fwdBucket (fwdKey vid mac)) 4).find? (fun i =>
    let e := b.fwdEnt i
    e.valid && e.vid == vid && e.mac == mac)

/-- Ports of FWD_CTRL.PORTS. -/
def Block.participates (b : Block) (p : Nat) : Bool := decide (p < 4) && b.rbit Reg.FWD_CTRL (4 + p)

/-- Whether a DA is one of the 16 that are never forwarded (R260). -/
def reservedDa (a : Nat) : Bool := a / 16 == 0x0180C200000

/-- The ports a frame goes to (R265). -/
def Block.fwdSet (b : Block) (p : Nat) (f : Bytes) : List Nat :=
  if !b.rbit Reg.FWD_CTRL 0 || !b.participates p || reservedDa (daOf f) then []
  else
    let m := match b.fwdFind (vidOf f) (daOf f) with
      | some i => (b.fwdEnt i).ports
      | none => if isGroup (daOf f) then b.rfld Reg.FWD_CTRL 12 4 else b.rfld Reg.FWD_CTRL 8 4
    (below 4).filter (fun e => bit m e && decide (e ≠ p) && b.participates e && b.portUp e)

/-- The class queue of a forwarded frame (R261). -/
def fwdQueue (f : Bytes) : Nat :=
  if isPtp f then 0
  else match dscpOf f with
    | some d => if 32 ≤ d ∧ d ≤ 47 then 2 else 4
    | none => 4

/-- The ports that the frame arriving at a port goes to: its lookup uses the table as it stood when it started (R269). -/
def Block.lookup (b : Block) (p : Nat) (f : Bytes) : List Nat := (b.port p).look.getD (b.fwdSet p f)

/-- Whether an operation in progress on the table changes a bucket: a WRITE or a DELETE in it, or a flush (R269). -/
def tblChanges (k : Nat) : Option (Nat × Nat) → Bool
  | some (op, i) => if op = 2 ∨ op = 3 then i / 4 == k else decide (op = 5 ∨ op = 6)
  | none => false

/-- Learning from a good frame (R268). A command on the same bucket goes before it, and the next frame learns again (R269;
DESIGN CHOICE, log entry 42: an operation in progress is in the learn's cycle). -/
def Block.learn (b : Block) (p : Nat) (f : Bytes) : Block :=
  let sa := saOf f
  let vid := vidOf f
  if !b.rbit Reg.FWD_CTRL 1 || !b.participates p || isGroup sa || tblChanges (fwdBucket (fwdKey vid sa)) b.net.tbl then b
  else match b.fwdFind vid sa with
    | some i =>
        let e := b.fwdEnt i
        if e.static then b else b.setFwd i { e with ports := 2 ^ p, hit := true }
    | none =>
        match (upFrom (4 * fwdBucket (fwdKey vid sa)) 4).find? (fun i => !(b.fwdEnt i).valid) with
        | some i => b.setFwd i { valid := true, static := false, hit := true, vid := vid, mac := sa, ports := 2 ^ p }
        | none => b.count Reg.FWD_STAT 0 16 1

/-- Cut-through latency in ns (R267). -/
def Block.cutLatency (b : Block) (p e : Nat) : Nat :=
  if b.portSpeed p = 2 ∧ b.portSpeed e = 2 then
    (if b.rfld (Reg.NET_CFG p) 2 2 = 2 ∨ b.rfld (Reg.NET_CFG e) 2 2 = 2 then 1040 else 640)
  else 960

/-- Whether a frame may be sent to an egress port by cut-through (R265). -/
def Block.cutOk (b : Block) (p e : Nat) (f : Bytes) : Bool :=
  (b.lookup p f).contains e && (b.port e).cur.isNone && !b.cutting e && (b.txq e 0).isEmpty && (b.txq e 1).isEmpty &&
  (b.txq e 2).isEmpty && (b.txq e (fwdQueue f)).isEmpty && decide (b.portSpeed e ≤ b.portSpeed p) &&
  decide ((ethHdr f).etype ≠ 0x8808)

/-- CUT_THROUGH (R265, R266): 64 bytes `f` of a frame have arrived at port p and its copy starts at the idle port e. -/
def Block.cutThrough (p e : Nat) (f : Bytes) (tap : Nat) (b : Block) : Block :=
  if p < 4 ∧ e < 4 ∧ 64 ≤ f.length ∧ b.portUp p ∧ b.cutOk p e f ∧ !((b.port p).cuts.any (fun c => c.egress == e)) then
    let es := b.lookup p f
    let s := b.stampTx e tap
    let s0 := b.stampRx p (8 * b.cutLatency p e)
    let c : CutCopy := { egress := e, stamp := s, residence := (s : Int) - s0 }
    b.modPort p (fun x => { x with cuts := x.cuts ++ [c], look := some es })
  else b

/-- The cut-through copies of a frame that failed end with the complement of the FCS of the bytes sent (R266). -/
def Block.stomp (b : Block) (f : Bytes) (cs : List CutCopy) : Block :=
  cs.foldl (fun x c => (x.emit (.frame c.egress (f ++ badFcs f) (some c.stamp))).cnt c.egress 26 1) b

/-- The copies of a good frame end whole, each with its own residence time. -/
def Block.cutEnd (b : Block) (f : Bytes) (cs : List CutCopy) : Block :=
  cs.foldl (fun x c =>
    let g := x.residence f c.residence
    (x.emit (.frame c.egress (g ++ fcsOf g) (if (ptpEvent g).isSome then some c.stamp else none))).cntTx c.egress g) b

/-- Store-and-forward copies (R265): a full class queue drops the copy, counted in FWD_DROP at the arrival port. -/
def Block.storeForward (b : Block) (p s : Nat) (f : Bytes) (es : List Nat) : Block :=
  es.foldl (fun x e =>
    let r := x.txPut e (fwdQueue f) { bytes := f, present := f.length, rx := some (p, s) }
    if r.1 then r.2 else r.2.cnt p 29 1) b

/-! ## FRAME_RECEIVE (R253, R260) -/

/-- The counter of a malformed frame; none for a good one. -/
def Block.malformed (b : Block) (p : Nat) (f : Bytes) (codeErr : Bool) : Option Nat :=
  if codeErr then some 15
  else if f.length < 64 then some 13
  else if fld (b.reg (portBase p)) 16 14 < f.length then some 14
  else if f.drop (f.length - 4) != fcsOf (f.take (f.length - 4)) then some 12
  else if (ethHdr f).etype = 0x8808 then some 16
  else none

/-- The counter of a good frame's size (R270); `n` counts its octets. -/
def sizeCounter (n : Nat) : Nat :=
  if n ≤ 64 then 5 else if n ≤ 127 then 6 else if n ≤ 255 then 7 else if n ≤ 511 then 8 else if n ≤ 1023 then 9
  else if n ≤ 1522 then 10 else 11

/-- Count a good frame. -/
def Block.cntRx (b : Block) (p : Nat) (f : Bytes) (n : Nat) : Block :=
  let k := if daOf f = bcast then 4 else if isGroup (daOf f) then 3 else 2
  (((b.cnt p 0 1).cnt p 1 n).cnt p k 1).cnt p (sizeCounter n) 1

/-- A Sync received has TSU_ASYM added to its correctionField (R317). -/
def Block.rxAsym (b : Block) (p : Nat) (f : Bytes) : Bytes × Block :=
  match ptpEvent f with
  | some o => if p < 5 ∧ isDelayReq f o = false then
      let a := b.asym p
      (addCorr f o a.1, a.2) else (f, b)
  | none => (f, b)

/-- Local acceptance and queueing of a good frame. -/
def Block.rxLocal (b : Block) (p : Nat) (f : Bytes) (s age : Nat) (forwarded : Bool) : Block :=
  if b.accepts p f then
    match b.classify p f with
    | some q => let r := b.rxAsym p f
                r.2.rxPut p q { port := p, bytes := r.1, stamp := s, checked := b.tickTime, clk := 16 * b.tsu.ticks - age, tick := b.tsu.ticks }
    | none => b.cnt p 18 1
  else if forwarded then b else b.cnt p 17 1

/-- A frame `f`, FCS included, ends at port p; `codeErr` when the PCS, preamble or RX_ER was in error. -/
def Block.frameIn (p : Nat) (f : Bytes) (codeErr : Bool) (age : Nat) (b : Block) : Block :=
  if 5 < p ∨ !b.portUp p then b
  else
    let cs := (b.port p).cuts
    let look := (b.port p).look
    let b0 := b.modPort p (fun x => { x with cuts := [], look := none })
    match b0.malformed p f codeErr with
    | some k =>
        let g := f.take (min (f.length - 4) (fld (b0.reg (portBase p)) 16 14))
        (b0.cnt p k 1).stomp g cs
    | none =>
        let g := f.take (f.length - 4)
        let s := b0.stampRx p age
        let b1 := (b0.cntRx p g f.length).ptpBad g
        let es := look.getD (b1.fwdSet p g)
        let cut := cs.filter (fun c => c.egress < 4)
        let rest := es.filter (fun e => !(cut.any (fun c => c.egress == e)))
        let fwd := !es.isEmpty || !cut.isEmpty
        let b2 := if fwd then b1.cnt p 27 1 else b1
        let b3 := if cut.isEmpty then b2 else b2.cnt p 28 1
        let b4 := ((b3.cutEnd g cut).storeForward p s g rest).learn p g
        b4.rxLocal p g s age fwd

/-- Errors of a port's physical layer since its last frame are counted (R270, R276). -/
def Block.physErrs (b : Block) (p : Nat) (e : PhyErr) : Block :=
  let b1 := if p < 5 then b.cnt p 30 e.pcs else b
  if p < 4 then b1.cnt p 31 e.fec else b1

/-- FRAME_RECEIVE: a frame `f` ends at port p, and the errors of the physical layer up to there are counted. -/
def Block.frameReceive (p : Nat) (f : Bytes) (err : PhyErr) (age : Nat) (b : Block) : Block :=
  if 5 < p ∨ !b.portUp p then b else (b.physErrs p err).frameIn p f err.code age

/-! ## Links (R252, R275) -/

/-- LINK_UP: the lock conditions have held for 10 ms. `speed` is C0's SGMII speed. -/
def Block.linkUp (p speed : Nat) (b : Block) : Block :=
  if 4 < p ∨ b.portSpeed p = 0 ∨ b.portUp p ∨ !b.domOn (if p < 4 then 13 else 14) then b
  else
    let st := if p = 4 then 7 + 16 * (if b.portSpeed 4 = 2 then min speed 2 else 0)
      else 3 + 8 * b2n (b.rfld (Reg.NET_CFG p) 2 2 == 2)
    (b.setReg (portBase p + 4) st).portInt p 0

/-- The host frames that a flushed port gives back (log entry 9). -/
def Block.giveBack (b : Block) (l : List TxFrame) : Block := l.foldl (fun x t => x.hostDone t none) b

/-- The cut-through copies on their way to a port are lost with its link (R252). -/
def Block.dropCuts (b : Block) (e : Nat) : Block :=
  let lose := fun (x : Port) => { x with cuts := x.cuts.filter (fun c => c.egress != e) }
  { b with net := { b.net with ports := b.net.ports.map (fun x => (x.1, lose x.2)) } }

/-- A link falls: the transmit queues are flushed (R252). -/
def Block.linkFall (b : Block) (p st : Nat) : Block :=
  let l := (b.port p).tx.flatMap (·.2)
  let c := (b.port p).cur.elim [] (fun x => [x.1])
  let b1 := ((b.setReg (portBase p + 4) st).portInt p 1).modPort p (fun x => { x with tx := [], cur := none, cuts := [], look := none })
  ((b1.dropCuts p).giveBack (c ++ l)).portFault p 1 0

/-- LINK_DOWN: a lock condition has failed for 100 us: `why` 0 block lock (C0: SYNC), 1 HI_BER (C0: AN_DONE), 2 FEC
lock. -/
def Block.linkDown (p why : Nat) (b : Block) : Block :=
  if 4 < p ∨ !b.portUp p then b
  else
    let old := b.reg (portBase p + 4)
    let st := (if p = 4 then (if why = 0 then setFld old 1 1 0 else setFld old 2 1 0)
      else match why with
        | 0 => setFld old 1 1 0
        | 1 => setFld old 2 1 1
        | _ => setFld old 3 1 0)
    let b1 := b.linkFall p (setFld st 0 1 0)
    if p < 4 ∧ why = 1 then b1.portFault p 2 0 else b1

/-- A write of NET_CFG (R252): MAXLEN within its range, O, U, and FEC, whose write drops the link. -/
def Block.netCfgWrite (p v : Nat) (b : Block) : Block :=
  if p < 4 then
    let a := Reg.NET_CFG p
    let old := b.reg a
    let ml := if 64 ≤ fld v 16 14 ∧ fld v 16 14 ≤ 9600 then fld v 16 14 else fld old 16 14
    let bad := decide (fld v 2 2 = 3) || (decide (fld v 2 2 = 2) && decide (b.portSpeed p = 1))
    let w := setFld (setFld (setFld old 16 14 ml) 4 2 (fld v 4 2)) 2 2 (if bad then fld old 2 2 else fld v 2 2)
    let b1 := b.setReg a w
    if !bad && b1.portUp p then b1.linkFall p (setFld (b1.reg (Reg.NET_STAT p)) 0 1 0) else b1
  else b

/-! ## Register writes with effects (R258, R263) -/

/-- RXQ_WRITE (R258). -/
def Block.rxqWrite (p q v : Nat) (b : Block) : Block :=
  if 4 < p ∨ rxQueues p ≤ q then b
  else
    let a := portBase p + 0x40 + 4 * q
    let old := b.reg a
    let total := ((below (rxQueues p)).map (fun i => if i = q then fld v 0 9 else fld (b.reg (portBase p + 0x40 + 4 * i)) 0 9)).sum
    let dest := if p = 4 ∧ fld v 28 2 = 0 then fld old 28 2 else fld v 28 2
    if (if p = 4 then 32 else 256) < total then b
    else
      let new := fld v 0 9 + dest * 2 ^ 28
      let b1 := b.setReg a new
      if fld old 28 2 = dest ∧ fld old 0 9 = fld v 0 9 then b1
      else (b1.setRxq p q []).cnt p 19 (b1.rxq p q).length

/-- A write of NET_TX_THR or CTL_TX_THR: THR above MAX leaves the register unchanged. -/
def Block.txThrWrite (p v : Nat) (b : Block) : Block :=
  if fld v 16 16 < fld v 0 16 then b else b.setReg (portBase p + 0x10) (v % 2 ^ 32)

/-! ## The forwarding table (R269) -/

/-- MAC registers D0 and D1 hold byte 0 in [7:0]; the table keeps byte 0 in [47:40]. -/
def macOfRegs (d0 d1 : Nat) : Nat := beNat (leBytes 4 d0 ++ leBytes 2 d1)

def regsOfMac (m : Nat) : Nat × Nat := (leNat ((beBytes 6 m).take 4), leNat ((beBytes 6 m).drop 4))

/-- FWD_TBL_CMD with INDEX written and HIT clear. -/
def Block.tblIndex (b : Block) (i : Nat) : Block := b.setReg Reg.FWD_TBL_CMD (i % 4096)

def Block.tblRead (i : Nat) (b : Block) : Block :=
  let e := b.fwdEnt (i % 4096)
  let m := regsOfMac e.mac
  let b1 := (b.tblIndex i).setReg Reg.FWD_TBL_D0 m.1
  let b2 := b1.setReg Reg.FWD_TBL_D1 (b2n e.valid * 2 ^ 31 + b2n e.static * 2 ^ 30 + b2n e.hit * 2 ^ 29 + e.vid * 2 ^ 16 + m.2)
  b2.setReg Reg.FWD_TBL_D2 e.ports

def Block.tblWrite (i : Nat) (b : Block) : Block :=
  let d1 := b.reg Reg.FWD_TBL_D1
  (b.tblIndex i).setFwd (i % 4096)
    { valid := bit d1 31, static := bit d1 30, hit := bit d1 29, vid := fld d1 16 12,
      mac := macOfRegs (b.reg Reg.FWD_TBL_D0) (fld d1 0 16), ports := b.rfld Reg.FWD_TBL_D2 0 4 }

def Block.tblDelete (i : Nat) (b : Block) : Block := (b.tblIndex i).setFwd (i % 4096) {}

def Block.tblFind (i : Nat) (b : Block) : Block :=
  let d1 := b.reg Reg.FWD_TBL_D1
  match b.fwdFind (fld d1 16 12) (macOfRegs (b.reg Reg.FWD_TBL_D0) (fld d1 0 16)) with
  | some j => b.setReg Reg.FWD_TBL_CMD (2 ^ 30 + j)
  | none => b.tblIndex i

def Block.tblFlush (all : Bool) (i : Nat) (b : Block) : Block :=
  let b1 := b.tblIndex i
  { b1 with net := { b1.net with fwd := if all then [] else b1.net.fwd.filter (fun e => e.2.valid && e.2.static) } }

/-- The operation of a command on the table. -/
def Block.tblOp (op i : Nat) (b : Block) : Block :=
  match op with
  | 1 => b.tblRead i
  | 2 => b.tblWrite i
  | 3 => b.tblDelete i
  | 4 => b.tblFind i
  | 5 => b.tblFlush false i
  | _ => b.tblFlush true i

/-- The operation in progress completes, and BUSY clears (R269). -/
def Block.tblEnd (b : Block) : Block :=
  match b.net.tbl with
  | some (op, i) => (Block.tblOp op i { b with net := { b.net with tbl := none } })
  | none => b

/-- A write of FWD_TBL_CMD: INDEX, and an operation that starts. DESIGN CHOICE (log entry 42): while BUSY a write has no effect. -/
def Block.tblCmd (v : Nat) (b : Block) : Block :=
  let i := fld v 0 12
  let op := fld v 16 3
  if b.net.tbl.isSome then b
  else if op = 0 ∨ op = 7 then b.setRfld Reg.FWD_TBL_CMD 0 12 i
  else
    let b1 := b.tblIndex i
    { b1 with net := { b1.net with tbl := some (op, i) } }

/-- A whole operation on the table: one in progress completes first (R269). -/
def Block.tblRun (op i : Nat) (b : Block) : Block := b.tblEnd.tblOp op i

/-- AGE_SWEEP (R268). -/
def Block.ageSweep (b : Block) : Block :=
  if b.rfld Reg.FWD_CTRL 16 16 = 0 then b
  else
    let keep := b.net.fwd.filter (fun e => !e.2.valid || e.2.static || e.2.hit)
    let t := keep.map (fun e => if e.2.valid && !e.2.static then (e.1, { e.2 with hit := false }) else e)
    { b with net := { b.net with fwd := t } }

/-! ## The field bus (R277 to R280) -/

/-- The phase of T0 and its attempt change. -/
def Block.setFbs (b : Block) (f : Port → Port) : Block := b.modPort 5 f

/-- One step of the LFSR with polynomial x^32 + x^22 + x^2 + x + 1 (R278), in one of its four forms (log entry 42). -/
def lfsrStep (form s : Nat) : Nat :=
  let hi := s / 2 ^ 31 % 2
  let lo := s % 2
  match form with
  | 0 => (2 * s % 2 ^ 32) ^^^ (hi * 0x00400007)
  | 1 => 2 * s % 2 ^ 32 + (hi + s / 2 ^ 21 + s / 2 + s) % 2
  | 2 => (s / 2) ^^^ (lo * 0xE0000200)
  | _ => s / 2 + 2 ^ 31 * ((lo + s / 2 ^ 10 + s / 2 ^ 30 + s / 2 ^ 31) % 2)

/-- A linear map of 32 bits, given by the images of its bits, applied to a word. -/
def linApply (m : List Nat) (s : Nat) : Nat :=
  (below 32).foldl (fun x i => if bit s i then x ^^^ m.getD i 0 else x) 0

/-- `n` steps of a linear map, by squaring: `fuel` is at least the bits of `n`. -/
def linRun : Nat → List Nat → Nat → Nat → Nat
  | 0, _, _, s => s
  | fuel + 1, m, n, s => if n = 0 then s else linRun fuel (m.map (linApply m)) (n / 2) (if n % 2 = 1 then linApply m s else s)

/-- `n` steps of the LFSR. -/
def lfsrRun (form n s : Nat) : Nat := linRun n (if n = 0 then [] else (below 32).map (fun i => lfsrStep form (2 ^ i))) n s

/-- A bit time of T0 in ns (R277). -/
def bitTime : Nat := 100

/-- The state of the back-off LFSR, which advances once per bit time from the seed (R278, R280). -/
def Block.lfsr (b : Block) : Nat :=
  lfsrRun Config.lfsrForm.toNat (2 * (b.sys.tickBase + b.tsu.ticks - b.net.seedAt) / bitTime) (b.reg Reg.FBS_SEED)

/-- rand(2^k) (R278). -/
def Block.lfsrRand (b : Block) (k : Nat) : Nat := Config.lfsrTake b.lfsr k % 2 ^ k

/-- The word of FBS_SEED is the state of the LFSR now. -/
def Block.seedNow (b : Block) : Block := { b with net := { b.net with seedAt := b.sys.tickBase + b.tsu.ticks } }

/-- A write of FBS_SEED: 0 leaves the register unchanged (R280). -/
def Block.seedWrite (v : Nat) (b : Block) : Block := if v = 0 then b else (b.setReg Reg.FBS_SEED v).seedNow

/-- DEFERRAL (R278): CRS is absent from here on, and 96 bit times begin. Counted once per frame. `fw` is a frame that firmware
enters. -/
def Block.deferral (fw : Option Bytes) (b : Block) : Block :=
  let b1 := if b.portUp 5 then b.offer 5 (fw.map (fun f => (0, f))) else b
  if !b1.portUp 5 || (b1.txq 5 0).isEmpty then b1
  else match (b1.port 5).phase with
    | .idle =>
        let b2 := if (b1.port 5).deferred then b1 else b1.cnt 5 29 1
        b2.setFbs (fun x => { x with phase := .deferring, deferred := true, attempt := x.attempt + 1, since := b2.pclk })
    | .deferring => b1.setFbs (fun x => { x with since := b1.pclk })
    | _ => b1

/-- The head frame of T0 is done with. -/
def Block.fbsNext (b : Block) : Block :=
  (b.setTxq 5 0 (b.txq 5 0).tail).setFbs (fun x => { x with phase := .idle, attempt := 0, deferred := false, slots := 0 })

/-- The bit times of a frame on T0: preamble, SFD, frame and FCS. -/
def frameBits (f : Bytes) : Nat := 64 + 8 * (f.length + 4)

/-- FIELD_BUS_TRANSMIT (R278): the interframe gap of 96 bit times ends and T0 sends. `clear` when no collision falls in the frame;
`crsLost` when CRS is absent during it. -/
def Block.fieldBusTransmit (clear crsLost : Bool) (b : Block) : Block :=
  if (b.port 5).phase ≠ .deferring then b
  else match b.txq 5 0 with
    | [] => b
    | t :: _ =>
      let b0 := b.toPclk ((b.port 5).since + 96 * bitTime)
      let b1 := if crsLost then b0.cnt 5 30 1 else b0
      if clear then
        let f := padTo60 t.bytes
        let b2 := (b1.emit (.frame 5 (f ++ fcsOf f) none)).cntTx 5 f
        let b3 := if 1 < (b2.port 5).attempt then b2.cnt 5 25 1 else b2
        (b3.toPclk (b3.pclk + frameBits f * bitTime)).fbsNext
      else b1.setFbs (fun x => { x with phase := .sending, since := b1.pclk })

/-- A frame is given up (R279): its counter, its FBS_INT bit and its fault. -/
def Block.fbsGiveUp (b : Block) (counter int code : Nat) : Block :=
  ((b.cnt 5 counter 1).portInt 5 int).portFault 5 code 0 |>.fbsNext

/-- COLLISION (R278): COL begins `bits` bit times after the start of the preamble, and the jam of 32 bits follows. -/
def Block.collision (bits : Nat) (b : Block) : Block :=
  if (b.port 5).phase ≠ .sending then b
  else
    let b1 := ((b.toPclk ((b.port 5).since + (bits + 32) * bitTime)).emit (.jam bits)).cnt 5 31 1
    let n := (b1.port 5).attempt
    if 512 < bits then b1.fbsGiveUp 27 1 6
    else if 16 ≤ n then b1.fbsGiveUp 28 0 5
    else
      b1.setFbs (fun x => { x with phase := .backoff, slots := b1.lfsrRand (min n 10), since := b1.pclk })

/-- BACKOFF (R278): the wait expires, and T0 defers again for its next attempt. -/
def Block.backoff (b : Block) : Block :=
  if (b.port 5).phase ≠ .backoff then b
  else
    let b1 := b.toPclk ((b.port 5).since + 512 * bitTime * (b.port 5).slots)
    b1.setFbs (fun x => { x with phase := .deferring, attempt := x.attempt + 1, since := b1.pclk })

/-- A write of FBS_MDIO: GO starts one frame; a reserved OP leaves the field (R10). -/
def Block.mdioWrite (v : Nat) (b : Block) : Block :=
  let a := Reg.FBS_MDIO
  let op := fld v 28 2
  let bad := if bit v 30 then op == 2 else (op == 0 || op == 3)
  let w := setFld (fld v 0 16 + fld v 18 5 * 2 ^ 18 + fld v 23 5 * 2 ^ 23 + b2n (bit v 30) * 2 ^ 30) 28 2
    (if bad then b.rfld a 28 2 else op)
  let go := bit v 31 && !b.net.mdio
  let b1 := b.setReg a (w + b2n (go || b.net.mdio) * 2 ^ 31)
  if go then ({ b1 with net := { b1.net with mdio := true } }).emit (.mdio w) else b1

/-- MDIO_DONE: the frame ends, GO clears, and a read's data appears in DATA. -/
def Block.mdioDone (data : Nat) (b : Block) : Block :=
  if !b.net.mdio then b
  else
    let a := Reg.FBS_MDIO
    let w := b.reg a
    let rd := if bit w 30 then fld w 28 2 == 3 else fld w 28 2 == 2
    let b1 := { b with net := { b.net with mdio := false } }
    b1.setReg a (setFld (setFld w 31 1 0) 0 16 (if rd then data else fld w 0 16))

/-! ## The commands -/

/-- FRAME_RECEIVE (R253). -/
def execFrameReceive (p : Nat) (f : Bytes) (err : PhyErr) (age : Nat) : State → Answer :=
  onBlk (Block.frameReceive p f err age)
/-- CUT_THROUGH (R266). -/
def execCutThrough (p e : Nat) (f : Bytes) (tap : Nat) : State → Answer := onBlk (Block.cutThrough p e f tap)
/-- FRAME_TRANSMIT (R261). -/
def execFrameTransmit (p tap : Nat) (fw : Option (Nat × Bytes)) : State → Answer := onBlk (Block.frameTransmit p tap fw)
/-- TX_UNDERRUN (R263). -/
def execTxUnderrun (p sent : Nat) : State → Answer := onBlk (Block.txUnderrun p sent)
/-- LINK_UP (R252). -/
def execLinkUp (p speed : Nat) : State → Answer := onBlk (Block.linkUp p speed)
/-- LINK_DOWN (R252). -/
def execLinkDown (p why : Nat) : State → Answer := onBlk (Block.linkDown p why)
/-- FEC_WRITE (R252). -/
def execFecWrite (p v : Nat) : State → Answer := onReg (Reg.NET_CFG p) true (Block.netCfgWrite p v)
/-- RXQ_WRITE (R258). -/
def execRxqWrite (p q v : Nat) : State → Answer := onReg (portBase p + 0x40 + 4 * q) true (Block.rxqWrite p q v)
/-- TABLE_READ (R269). -/
def execTableRead (i : Nat) : State → Answer := onReg Reg.FWD_TBL_CMD true (Block.tblRun 1 i)
/-- TABLE_WRITE (R269). -/
def execTableWrite (i : Nat) : State → Answer := onReg Reg.FWD_TBL_CMD true (Block.tblRun 2 i)
/-- TABLE_DELETE (R269). -/
def execTableDelete (i : Nat) : State → Answer := onReg Reg.FWD_TBL_CMD true (Block.tblRun 3 i)
/-- TABLE_FIND (R269). -/
def execTableFind (i : Nat) : State → Answer := onReg Reg.FWD_TBL_CMD true (Block.tblRun 4 i)
/-- FLUSH_DYNAMIC (R269). -/
def execFlushDynamic (i : Nat) : State → Answer := onReg Reg.FWD_TBL_CMD true (Block.tblRun 5 i)
/-- FLUSH_ALL (R269). -/
def execFlushAll (i : Nat) : State → Answer := onReg Reg.FWD_TBL_CMD true (Block.tblRun 6 i)
/-- AGE_SWEEP (R268). -/
def execAgeSweep : State → Answer := onBlk Block.ageSweep
/-- FIELD_BUS_TRANSMIT (R278). -/
def execFieldBusTransmit (clear crsLost : Bool) : State → Answer := onBlk (Block.fieldBusTransmit clear crsLost)
/-- DEFERRAL (R278). -/
def execDeferral (fw : Option Bytes) : State → Answer := onBlk (Block.deferral fw)
/-- COLLISION (R278). -/
def execCollision (bits : Nat) : State → Answer := onBlk (Block.collision bits)
/-- BACKOFF (R278). -/
def execBackoff : State → Answer := onBlk Block.backoff
/-- MDIO_GO (R513). -/
def execMdioGo (v : Nat) : State → Answer := onReg Reg.FBS_MDIO true (Block.mdioWrite v)
/-- MDIO_DONE (R513). -/
def execMdioDone (data : Nat) : State → Answer := onBlk (Block.mdioDone data)

end Sys2Proof.Machine
end

