-- ==== Sys2Proof/Machine/Neighbour.lean ====
section
/-! DEFINITION. The frames that firmware sends and reads for the port addresses of PORT: ARP, neighbour discovery, and group
membership (R257, R261, R273, R287, R291, R409). The manual names these protocols; the forms of their packets are theirs
(PRESUMED, log entry 43). -/

namespace Sys2Proof.Machine

/-- Firmware's transmit queue of a port (R261, R273). -/
def fwQueue (p : Nat) : Nat := if p < 4 then 3 else if p = 4 then 1 else 0

/-- Firmware sends a frame from a port: DA, EtherType and payload, with the port's VLAN (R61). -/
def Block.fwSend (b : Block) (p : Nat) (da : Bytes) (et : Nat) (pay : Bytes) : Block :=
  let v := (b.stg.force.elim {} (fun d => d.addr p)).vlan
  let f := da ++ b.portMac p ++ (if v = 0 then [] else beBytes 2 0x8100 ++ beBytes 2 v) ++ beBytes 2 et ++ pay
  (b.txPut p (fwQueue p) { bytes := f, present := f.length }).2

/-- An ARP packet: operation 1 asks, 2 answers. -/
def arpPacket (op : Nat) (mac ip tmac tip : Bytes) : Bytes :=
  [0, 1, 8, 0, 6, 4] ++ beBytes 2 op ++ mac ++ ip ++ tmac ++ tip

/-- An ICMPv6 message of a type, code 0, with its checksum. -/
def icmp6 (src dst : Bytes) (type : Nat) (rest : Bytes) : Bytes :=
  let m := fun (sum : Nat) => beBytes 1 type ++ [0] ++ beBytes 2 sum ++ rest
  m (inetSum (src ++ dst ++ beBytes 4 (4 + rest.length) ++ [0, 0, 0, 58] ++ m 0))

/-- A packet of neighbour discovery. -/
def ndPacket (src dst : Bytes) (type : Nat) (rest : Bytes) : Bytes :=
  beBytes 4 0x60000000 ++ beBytes 2 (4 + rest.length) ++ [58, 255] ++ src ++ dst ++ icmp6 src dst type rest

/-- Every IPv6 node of the link. -/
def allNodes : Bytes := beBytes 16 0xFF020000000000000000000000000001

/-- A neighbour advertisement of `ip`. -/
def advert (flags : Nat) (ip dst mac : Bytes) : Bytes := ndPacket ip dst 136 (beBytes 4 flags ++ ip ++ [2, 1] ++ mac)

/-- Firmware asks for the MAC address of `hop`: an ARP request, or a neighbour solicitation. -/
def Block.askSend (b : Block) (p af : Nat) (a : AddrRec) (hop : Bytes) : Block :=
  let mac := b.portMac p
  if af = 4 then b.fwSend p (beBytes 6 bcast) 0x0806 (arpPacket 1 mac a.ipv4 (List.replicate 6 0) hop)
  else
    let low := slice 13 3 hop
    let dst := beBytes 13 0xFF0200000000000000000001FF ++ low
    b.fwSend p ([0x33, 0x33, 0xFF] ++ low) 0x86DD (ndPacket a.ipv6 dst 135 ([0, 0, 0, 0] ++ hop ++ [1, 1] ++ mac))

/-- What an ARP packet or a neighbour advertisement says: an address and its MAC address. -/
def neighbour (f : Bytes) : Option (Bytes × Bytes) :=
  let h := ethHdr f
  let o := h.off
  if h.etype = 0x0806 then
    (if slice o 6 f = [0, 1, 8, 0, 6, 4] ∧ (be16 f (o + 6) = 1 ∨ be16 f (o + 6) = 2) then some (slice (o + 14) 4 f, slice (o + 8) 6 f) else none)
  else if h.etype = 0x86DD ∧ u8 f (o + 6) = 58 ∧ u8 f (o + 7) = 255 ∧ u8 f (o + 40) = 136 ∧ slice (o + 64) 2 f = [2, 1] then
    some (slice (o + 48) 16 f, slice (o + 66) 6 f)
  else none

/-- The driving unit's firmware answers an ARP request or a neighbour solicitation for a port's address (R409). -/
def Block.answerAddr (b : Block) (d : Draft) (p : Nat) (f : Bytes) : Block :=
  let a := d.addr p
  let h := ethHdr f
  let o := h.off
  let mac := b.portMac p
  if !b.drives || !b.sys.firmware || vidOf f != a.vlan then b
  else if h.etype = 0x0806 ∧ slice o 8 f = [0, 1, 8, 0, 6, 4, 0, 1] ∧ slice (o + 24) 4 f = a.ipv4 ∧ beNat a.ipv4 ≠ 0 then
    b.fwSend p (slice (o + 8) 6 f) 0x0806 (arpPacket 2 mac a.ipv4 (slice (o + 8) 6 f) (slice (o + 14) 4 f))
  else if h.etype = 0x86DD ∧ u8 f (o + 6) = 58 ∧ u8 f (o + 7) = 255 ∧ u8 f (o + 40) = 135 ∧ slice (o + 48) 16 f = a.ipv6 ∧
      beNat a.ipv6 ≠ 0 then
    let src := slice (o + 8) 16 f
    if beNat src = 0 then b.fwSend p [0x33, 0x33, 0, 0, 0, 1] 0x86DD (advert 0x20000000 a.ipv6 allNodes mac)
    else b.fwSend p (slice 6 6 f) 0x86DD (advert 0x60000000 a.ipv6 src mac)
  else b

/-- A gratuitous ARP and an unsolicited neighbour advertisement on each port that has an address (R409). -/
def Block.announceAddrs (b : Block) : Block :=
  match b.stg.force with
  | none => b
  | some d => (below 5).foldl (fun x p =>
      let a := d.addr p
      let mac := b.portMac p
      let x1 := if beNat a.ipv4 = 0 then x else x.fwSend p (beBytes 6 bcast) 0x0806 (arpPacket 1 mac a.ipv4 (List.replicate 6 0) a.ipv4)
      if beNat a.ipv6 = 0 then x1 else x1.fwSend p [0x33, 0x33, 0, 0, 0, 1] 0x86DD (advert 0x20000000 a.ipv6 allNodes mac)) b

/-- Firmware joins a group on a port with IGMPv3 or MLDv2, in include mode for the source `src`, or in exclude mode with an
empty source list, and sets the port's hash bin of the group (R291). -/
def Block.joinGroup (p af : Nat) (a : AddrRec) (group src mac : Bytes) (b : Block) : Block :=
  let bin := hashBin mac
  let b1 := b.setRfld (portBase p + (if bin < 32 then 0x30 else 0x34)) (bin % 32) 1 1
  let n := if af = 4 then 4 else 16
  let one := beNat (slice 0 n src) != 0
  let head := beBytes 1 (if one then 5 else 4) ++ [0] ++ beBytes 2 (b2n one) ++ slice 0 n group ++ (if one then slice 0 n src else [])
  if af = 4 then
    let igmp := fun (sum : Nat) => [0x22, 0] ++ beBytes 2 sum ++ [0, 0, 0, 1] ++ head
    let ip := fun (sum : Nat) => [0x46, 0xC0] ++ beBytes 2 (24 + (igmp 0).length) ++ [0, 0, 0x40, 0, 1, 2] ++ beBytes 2 sum ++ a.ipv4 ++
      [224, 0, 0, 22, 0x94, 4, 0, 0]
    b1.fwSend p [0x01, 0, 0x5E, 0, 0, 0x16] 0x0800 (ip (inetSum (ip 0)) ++ igmp (inetSum (igmp 0)))
  else
    let dst := beBytes 16 0xFF020000000000000000000000000016
    let m := icmp6 a.ipv6 dst 143 ([0, 0, 0, 1] ++ head)
    b1.fwSend p [0x33, 0x33, 0, 0, 0, 0x16] 0x86DD (beBytes 4 0x60000000 ++ beBytes 2 (8 + m.length) ++ [0, 1] ++ a.ipv6 ++ dst ++
      [58, 0, 5, 2, 0, 0, 1, 0] ++ m)

end Sys2Proof.Machine
end

