-- ==== Sys2Proof/Machine/Cistern.lean ====
section
/-! DEFINITION. The cistern (spec/08_cistern.md): address mapping, regions, the request queues, maintenance, training,
frequency change, the bandwidth budget, and the reservoirs. -/

namespace Sys2Proof.Machine

def Block.setCst (b : Block) (f : Cistern → Cistern) : Block := { b with cst := f b.cst }

/-! ## Address mapping (R229) -/

/-- A valid mask set: each mask has bit 6 + i set and bits 6 to 10 otherwise clear (R229). -/
def Block.masksValid (b : Block) : Bool :=
  (below 5).all (fun i => fld (b.reg (Reg.CST_BANKHASH i)) 6 5 == 2 ^ i)

/-! ## Regions (R232, R233) -/

/-- The end of the delay-line region (R233). -/
def lineEnd (d : Draft) : Nat := 0x424000000 + (d.dlays.map (fun r => 4 * lineWords r.len)).sum

/-- Bases of the staging buffer, the held copy and the draft in force (R232). -/
def Block.stagingBase (b : Block) : Nat := cisternBase + b.cstSize - 0x3000000
def Block.heldBase (b : Block) : Nat := cisternBase + b.cstSize - 0x2000000
def Block.forceBase (b : Block) : Nat := cisternBase + b.cstSize - 0x1000000

/-- The end of the delay lines of the draft in force: the start of the free region. -/
def Block.freeBase (b : Block) : Nat := b.stg.force.elim 0x424000000 lineEnd

def isDistaff (m : Nat) : Bool := m == 13 || m == 14

/-- Whether a master may write an address (R232). -/
def Block.mayWrite (b : Block) (m a : Nat) : Bool :=
  if a < 0x420000000 then (decide (3 ≤ m) && decide (m ≤ 10)) || m == 12 || isDistaff m
  else if a < 0x424000000 then m == 1 || m == 2 || isDistaff m
  else if a < b.freeBase then m == 0 || isDistaff m
  else if a < b.stagingBase then true
  else if a < b.heldBase then m == 15 || m == 11 || isDistaff m
  else isDistaff m

/-- Bytes at an address, cut where an address `x` lies among them. -/
def cutAt (x : Nat) (l : List (Nat × Bytes)) : List (Nat × Bytes) :=
  l.flatMap (fun p => if p.1 < x ∧ x < p.1 + p.2.length then [(p.1, p.2.take (x - p.1)), (x, p.2.drop (x - p.1))] else [p])

/-- A write as the regions cut it (R232). -/
def Block.pieces (b : Block) (a : Nat) (bs : Bytes) : List (Nat × Bytes) :=
  [0x420000000, 0x424000000, b.freeBase, b.stagingBase, b.heldBase].foldl (fun l x => cutAt x l) [(a, bs)]

/-- The part of a write that lies in regions which its master may write takes effect; the rest raises REGION (R232). A word written in part is read,
merged and written (R231). -/
def Block.cstStore (m a : Nat) (bs : Bytes) (b : Block) : Block :=
  let ps := b.pieces a bs
  let b1 := if ps.all (fun p => b.mayWrite m p.1) then b else b.cstFault 3 0 7
  (ps.filter (fun p => b.mayWrite m p.1)).foldl (fun x p => (x.mergeNote m p.1 p.2.length).wrBytes p.1 p.2) b1

/-! ## Bandwidth (R246, R247) -/

/-- The budget at a rate code, in bytes per second (R246). -/
def cstBudget (ecc : Bool) (rate : Nat) : Nat :=
  let x := (6400 / 2 ^ rate) * 4000000
  if ecc then x / 8 * 7 else x

/-- The rate of a domain for a limit: X counts at 1.01 X_RATE, here times 100 (R93). -/
def limitRate100 (d : Draft) (fB dom : Nat) : Nat := if dom = 2 then 101 * d.domn.xRate else 100 * draftRate d fB dom

/-- The items of a draft's demand in the order of R246, each in bytes per second times 100 with its location. -/
def demandItems (d : Draft) (fmap : List Nat) (fB : Nat) : List (Nat × Loc) :=
  let deck := fun (dom : Nat) => ((d.deck dom).zipIdx).filterMap (fun ci =>
    let op := (cardFields ci.1).op
    if op = opDLW ∨ op = opDLY then some (4 * limitRate100 d fB dom, Loc.pay tagDECK dom (16 * ci.2)) else none)
  let spilled := match sysShare d fB with
    | .ok r => r.2
    | .error _ => []
  let sp := spilled.map (fun i =>
    let k := (d.skin? i).getD {}
    (8 * k.lanes * limitRate100 d fB (skinDom d k), Loc.pay tagSKIN i 0x44))
  let t4 := ((placeAll d fmap (match sysShare d fB with
      | .ok r => r.1.used
      | .error _ => []) fB).1.filter (·.tier == 4)).map (fun p =>
    (200 * ((d.kern? p.k).getD {}).sSize * 12000, Loc.pay tagKERN p.k 0x18))
  deck 0 ++ deck 1 ++ sp ++ t4

/-- The demand of a draft, in bytes per second times 100 (R246). -/
def draftDemand (d : Draft) (fmap : List Nat) (fB : Nat) : Nat := ((demandItems d fmap fB).map (·.1)).sum

/-- A reservoir's demand, in bytes per second times 100 (R247). -/
def Block.rsvDemand (b : Block) (ply : Nat) : Nat :=
  b.stg.force.elim 0 (fun d => (d.ply? ply).elim 0 (fun r =>
    4 * r.count * limitRate100 d b.fB ((d.laneDom? r.first).getD 0)))

/-- The demand of the running reservoirs. -/
def Block.rsvSum (b : Block) : Nat :=
  ((b.cst.rsv.filter (fun r => r.2.acc)).map (fun r => b.rsvDemand r.2.ply)).sum

def Block.forceDemand (b : Block) : Nat := b.stg.force.elim 0 (fun d => draftDemand d b.crl.fmap b.fB)

/-! ## Training and states (R230, R241) -/

/-- TRAIN_FAIL (R250): a frequency change that waits ends with it. -/
def Block.trainFail (b : Block) (chan : Nat) : Block := (b.setCst (fun c => { c with st := 5, fchg := none })).cstFault 4 2 chan

/-- CST_CMD = INIT; `second` is the second rate that firmware names (R241). -/
def Block.cstInit (second : Nat) (b : Block) : Block :=
  if b.cst.st ≠ 0 then b
  else if !b.masksValid then b.trainFail 7
  else b.setCst (fun c => { c with st := 1, target := b.rfld Reg.CST_FREQ 0 2, second := second % 3, held0 := none, held1 := none,
                                   ecc := b.rbit Reg.CST_CFG 3 })

/-- Registers take values that the spec leaves open. -/
def Block.drawRegs (as : List Nat) (b : Block) : Block := as.foldl (fun x a => let r := x.drawBits 32; r.2.setReg a r.1) b

/-- The words of shadow set `i`. -/
def tsetRegs (i : Nat) : List Nat := (below 32).map (if i = 0 then Reg.CST_TSET0 else Reg.CST_TSET1)

/-- Training ends, within 30 ms (R241): the sets hold the two rates' training, whose words are free values (R242). -/
def Block.cstInitDone (ok : Bool) (chan : Nat) (b : Block) : Block :=
  if b.cst.st ≠ 1 then b
  else if !ok then b.trainFail chan
  else ((b.setCst (fun c => { c with st := 2, rate := c.target, set := 0, held0 := some c.target, held1 := some c.second })).drawRegs
    (tsetRegs 0 ++ tsetRegs 1)).setInt Reg.CST_INT 0

/-- Firmware loads a word of a stored training into a set: the inactive one then holds the rate whose training its words are (R242); which
rate that is, the spec leaves to the words (log entry 41). -/
def Block.tsetLoad (i : Nat) (b : Block) : Block :=
  let r := some (Config.tsetRate ((tsetRegs i).map b.reg) % 3)
  if i = b.cst.set then b else b.setCst (fun c => if i = 0 then { c with held0 := r } else { c with held1 := r })

/-! ## Request queues (R236 to R238) -/

def Block.nsNow (b : Block) : Nat := b.now / 2 ^ 32

/-- Whether a queue takes a request now; one that it does not take waits at the matrix (R236, R244). -/
def Block.rdRoom (b : Block) : Bool := b.cst.st != 3 && decide (b.cst.rdq.length < 64)
def Block.wrRoom (b : Block) : Bool := b.cst.st != 3 && decide (b.cst.wrq.length < 64)

/-- A read joins its queue, or waits at the matrix (R236, R244); a batch of writes that an empty read queue began ends (R237). -/
def Block.queueRead (cut : Bool) (b : Block) (q : Nat × Nat × Nat) : Block :=
  let r : CReq := { master := q.1, addr := q.2.1, len := q.2.2, cut := cut, arrived := b.nsNow }
  if b.rdRoom then b.setCst (fun c => { c with rdq := c.rdq ++ [r], drain := if c.drain = some false then none else c.drain })
  else b.setCst (fun c => { c with rdWait := c.rdWait ++ [r] })

/-- The read served next (R236): one that has waited 4 us, oldest first; else the least master number, then the oldest. -/
def nextRead (now : Nat) (q : List CReq) : Option CReq :=
  match q.find? (fun r => decide (r.arrived + 4000 ≤ now)) with
  | some r => some r
  | none => (sortKey (·.master) q).head?

/-- The word at an address of the cistern has gone into error, which only inline ECC sees (R231). -/
def Block.cstErr (b : Block) (a : Nat) (ecc : Ecc) : Block :=
  let k := match ecc with
    | .ok => 0
    | .corr => 1
    | .uncorr => 2
  if k = 0 ∨ !b.cst.ecc ∨ a < cisternBase then b else b.setSys (fun y => { y with memErr := tput 0 (a / 8) k y.memErr })

/-- A read of a queue is served: its data, and what ECC finds (R231, R236). -/
def Block.serveRead (b : Block) (r : CReq) : Block :=
  let b1 := (b.setCst (fun c => { c with rdq := c.rdq.erase r })).eccNote false r.master r.addr r.len
  if r.cut then b1 else b1.emit (.read r.addr r.len (b.rdLE r.addr r.len))

/-- Requests that wait at the matrix enter the queues as room appears. -/
def Block.cstRefill (b : Block) : Block :=
  if b.cst.st = 3 then b
  else
    let c := b.cst
    let nr := 64 - c.rdq.length
    let nw := 64 - c.wrq.length
    b.setCst (fun c => { c with rdq := c.rdq ++ c.rdWait.take nr, rdWait := c.rdWait.drop nr,
                                 wrq := c.wrq ++ c.wrWait.take nw, wrWait := c.wrWait.drop nw })

/-- CISTERN_READ: the requests that arrive join the queue, and the controller serves one read, but in a frequency change and while a full write
queue is drained (R236, R237). `ecc` is an error that the word at byte offset `w` of that read has come by (R231). -/
def Block.cisternRead (reqs : List (Nat × Nat × Nat)) (ecc : Ecc) (w : Nat) (b : Block) : Block :=
  let b1 := reqs.foldl (Block.queueRead false) b
  if b1.cst.st = 3 ∨ b1.cst.drain = some true then b1
  else match nextRead b1.nsNow b1.cst.rdq with
    | none => b1
    | some r => ((b1.cstErr (r.addr + w) ecc).serveRead r).cstRefill

/-- CISTERN_WRITE (R232, R238): the write joins its queue, or waits at the matrix. The memory is one, and ordered: every read from now on returns
the data. `ecc` is an error that the first word has come by. -/
def Block.cisternWrite (m a : Nat) (data : Bytes) (ecc : Ecc) (b : Block) : Block :=
  if b.cst.st ≠ 2 ∧ b.cst.st ≠ 3 then (if (b.pieces a data).all (fun p => b.mayWrite m p.1) then b else b.cstFault 3 0 7)
  else
    let b1 := (b.cstErr a ecc).cstStore m a data
    let r : CReq := { master := m, addr := a, len := data.length, data := data, arrived := b.nsNow }
    if !(b.pieces a data).any (fun p => b.mayWrite m p.1) then b1
    else if b.wrRoom then b1.setCst (fun c => { c with wrq := c.wrq ++ [r] })
    else b1.setCst (fun c => { c with wrWait := c.wrWait ++ [r] })

/-- WRITE_BATCH (R237): the controller turns to writes where the write queue has reached HIGH or the read queue is empty, and serves `served` of them;
the batch ends at LOW, or, begun at an empty read queue, when a read arrives. -/
def Block.writeBatch (served : Nat) (b : Block) : Block :=
  if b.cst.st ≠ 2 then b
  else
    let low := b.rfld Reg.CST_WM 0 7
    let n := b.cst.wrq.length
    let turn := if b.cst.drain.isSome then b.cst.drain
      else if b.rfld Reg.CST_WM 16 7 ≤ n then some true else if b.cst.rdq.isEmpty && decide (0 < n) then some false else none
    match turn with
    | none => b
    | some full =>
      let k := min served (if full then n - low else n)
      let left := n - k
      let more := if left ≤ (if full then low else 0) then none else some full
      (b.setCst (fun c => { c with wrq := c.wrq.drop k, drain := more })).cstRefill

/-! ## Maintenance (R239, R240) -/

/-- Whether the devices have a bank: channel * 32 + rank * 16 + bank (R227, R228). -/
def Block.hasBank (b : Block) (bank : Nat) : Bool := decide (bank < 64) && (!bit bank 4 || b.rbit Reg.CST_CFG 2)

/-- REFRESH of a bank, `elapsed` intervals after the one before: at most 8 stay postponed (R239). -/
def Block.refresh (bank elapsed : Nat) (b : Block) : Block :=
  if b.cst.st ≠ 2 ∨ !b.hasBank bank then b
  else b.setCst (fun c => { c with refOwed := tmod 0 bank (fun o => min 8 (o + elapsed - 1)) c.refOwed })

/-- Time moves on to 1 ms x `ms` after an earlier check. -/
def Block.afterCheck (b : Block) (t ms : Nat) : Block := b.afterNs (t + ms * 1000000 - b.nsNow)

/-- TEMP_CHECK (R239): the devices report a refresh scale, and whether they are above range. -/
def Block.tempCheck (scale : Nat) (above : Bool) (b : Block) : Block :=
  if b.cst.st ≠ 2 then b
  else
    let b1 := b.afterCheck b.cst.tempAt 16
    let b2 := b1.setCst (fun c => { c with tempAt := b1.nsNow, refScale := scale, hot := above })
    if above then b2.cstFault 7 1 7 else b2

/-- ZQ_LATCH (R240). -/
def Block.zqLatch (b : Block) : Block :=
  if b.cst.st ≠ 2 then b
  else
    let b1 := b.afterCheck b.cst.zqAt 32
    b1.setCst (fun c => { c with zqAt := b1.nsNow })

/-- The DQS interval oscillator of a channel is compared with its trained value (R240): the drift in 1/1024 UI, and whether a retrain
passes. -/
def Block.dqsJudge (chan : Nat) (drift : Int) (ok : Bool) (b : Block) : Block :=
  let b2 := b.setCst (fun c => { c with dqsAt := tput 0 chan b.nsNow c.dqsAt })
  if -256 ≤ drift ∧ drift ≤ 256 then
    b2.setCst (fun c => { c with delays := tmod 0 chan (fun x => x + drift) c.delays })
  else
    let b3 := b2.cstFault 5 0 chan
    if ok then b3.setCst (fun c => { c with delays := tput 0 chan 0 c.delays }) else b3.trainFail chan

/-- DQS_CHECK of a channel, every 4 ms (R240). -/
def Block.dqsCheck (chan : Nat) (drift : Int) (ok : Bool) (b : Block) : Block :=
  if b.cst.st ≠ 2 then b else (b.afterCheck (tget 0 b.cst.dqsAt chan) 4).dqsJudge chan drift ok

/-! ## Frequency change and retention (R243, R244) -/

/-- Whether a rate is held in a shadow set. -/
def Block.rateHeld (b : Block) (r : Nat) : Bool := b.cst.held0 == some r || b.cst.held1 == some r

/-- The demand that governs a change (R243): of the draft in force, or of a draft in state VALID or ARMED. -/
def Block.chgDemand (b : Block) : Nat :=
  let staged := if b.stg.st = .valid ∨ b.stg.st = .armed then b.stg.eff.elim 0 (fun d => draftDemand d b.crl.fmap b.fB) else 0
  max b.forceDemand staged + b.rsvSum

/-- CST_CMD = FCHG (R243). -/
def Block.cstFchg (b : Block) : Block :=
  let t := b.rfld Reg.CST_FREQ 0 2
  let at' := b.reg64 Reg.CST_FCHG_AT_LO Reg.CST_FCHG_AT_HI
  if !b.rateHeld t || decide (100 * cstBudget b.cst.ecc t < b.chgDemand) || b.cst.st != 2 then
    (b.setInt Reg.CST_INT 3).cstFault 6 0 7
  else b.setCst (fun c => { c with fchg := some (max at' (b.blk + 1), t) })

/-- The queues drain: every queued read is answered (R244). -/
def Block.drainReads (b : Block) : Block :=
  (b.cst.rdq.foldl Block.serveRead b).setCst (fun c => { c with rdq := [], wrq := [], drain := none })

/-- FREQUENCY_CHANGE: at the change block the queues drain and the clock relocks (R244). -/
def Block.freqChange (b : Block) : Block :=
  match b.cst.fchg with
  | none => b
  | some (n, _) => if b.cst.st = 2 then (b.toBlk n).drainReads.setCst (fun c => { c with st := 3 }) else b.setCst (fun c => { c with fchg := none })

/-- FCHG_DONE: service resumes at most 15 us after the change block, after the DQS oscillator check of each channel (R240, R244). A retrain that fails leaves the cistern FAILED. -/
def Block.fchgDone (e : FchgEnd) (b : Block) : Block :=
  match b.cst.st, b.cst.fchg with
  | 3, some (n, t) =>
      let b1 := b.advance (tickInstant b.fBlk n + min e.ns 15000 * 2 ^ 32)
      let b2 := b1.setCst (fun c => { c with st := 2, rate := t, fchg := none, set := if c.held0 = some t then 0 else 1 })
      let b3 := ((e.dqs.take 2).zipIdx).foldl (fun x d => x.dqsJudge d.2 d.1.1 d.1.2) b2
      if b3.cst.st = 2 then (b3.setInt Reg.CST_INT 2).cstRefill else b3
  | _, _ => b

/-- CST_CMD = enter retention, and leave retention (R465, R468). -/
def Block.enterRetention (b : Block) : Block :=
  if b.cst.st = 2 then b.drainReads.setCst (fun c => { c with st := 4 }) else b

def Block.leaveRetention (b : Block) : Block :=
  if b.cst.st = 4 then (b.setCst (fun c => { c with st := 2 })).cstRefill else b

/-- A write of CST_CMD; other values have no effect. -/
def Block.cstCmd (v : Nat) (b : Block) : Block :=
  match v % 16 with
  | 1 => b.cstInit b.cst.second
  | 2 => b.cstFchg
  | 3 => b.enterRetention
  | 4 => b.leaveRetention
  | _ => b

/-- A write of a CST_BANKHASH register (R230). -/
def Block.bankhashWrite (i v : Nat) (b : Block) : Block :=
  if b.cst.st = 0 then b.setReg (Reg.CST_BANKHASH i) (v % 2 ^ 28) else b.cstFault 3 0 7

/-! ## Reservoirs (R247 to R249) -/

def Block.rsv (b : Block) (n : Nat) : Rsv := tget {} b.cst.rsv n
def Block.setRsv (b : Block) (n : Nat) (r : Rsv) : Block := b.setCst (fun c => { c with rsv := tput {} n r c.rsv })

/-- Whether a start of reservoir n recording a ply is refused (R249). -/
def Block.rsvRefused (b : Block) (n ply : Nat) : Bool :=
  let base := b.reg64 (Reg.CST_RSV_BASE_LO n) (Reg.CST_RSV_BASE_HI n)
  let len := b.reg (Reg.CST_RSV_LEN n)
  match b.stg.force.bind (fun d => d.ply? ply) with
  | none => true
  | some p =>
      decide (base < b.freeBase) || decide (b.stagingBase < base + len) || base % 64 != 0 || len % 64 != 0 ||
      len % (4 * p.count) != 0 || isBus p.first ||
      decide (100 * (if b.cst.st = 2 then cstBudget b.cst.ecc b.cst.rate else 0) <
        b.forceDemand + b.rsvSum + b.rsvDemand ply)

/-- CST_RSV_CTRL after a write of `v`: W1C bits cleared, PLY and MODE replaced, EN as given. -/
def rsvCtrl (old v en : Nat) : Nat :=
  setFld (setFld (setFld (old - (old &&& v &&& 0x0E000000)) 0 9 (fld v 0 9)) 17 1 (fld v 17 1)) 16 1 en

/-- The domain of a ply of the draft in force. -/
def Block.plyDom (b : Block) (p : Nat) : Nat :=
  b.stg.force.elim 0 (fun d => (d.ply? p).elim 0 (fun r => (d.laneDom? r.first).getD 0))

/-- WPTR as it stands: the offset at the last block tick, or at the last 64th sample of X (R248). -/
def Block.rsvShown (b : Block) (n : Nat) : Nat :=
  let r := b.rsv n
  if r.run && b.plyDom r.ply == 2 then r.shown else if b.blk = r.atBlk then r.shown else r.wptr

/-- A write of CST_RSV_CTRL with EN = 1: PLY and MODE take the values written, and the reservoir starts or is refused. DESIGN CHOICE (log entry 41):
one that runs starts anew; refused, it goes on as it was. -/
def Block.rsvStart (n v : Nat) (b : Block) : Block :=
  let c := Reg.CST_RSV_CTRL n
  let b0 := b.setReg c (rsvCtrl (b.reg c) v 1)
  if (b0.setRsv n { b.rsv n with acc := false }).rsvRefused n (fld v 0 9) then b0.orReg c 0x02000000
  else
    let at' := b.reg64 (Reg.CST_RSV_AT_LO n) (Reg.CST_RSV_AT_HI n)
    (b0.clrBit c 24).setRsv n { acc := true, begin := max at' (b.blk + 1), ply := fld v 0 9, once := bit v 17 }

/-- A reservoir stops recording. -/
def Block.rsvEnd (b : Block) (n : Nat) (bitSet : Nat) : Block :=
  let r := b.rsv n
  let c := Reg.CST_RSV_CTRL n
  let b1 := (b.setRsv n { wptr := r.wptr, shown := b.rsvShown n, atBlk := b.blk, ply := r.ply }).clrBit c 24
  if bitSet = 0 then b1 else (b1.orReg c bitSet).setInt Reg.CST_INT 4

/-- A write of CST_RSV_CTRL with EN = 0: it stops after the sample in progress (R249). -/
def Block.rsvStop (n v : Nat) (b : Block) : Block :=
  let c := Reg.CST_RSV_CTRL n
  let dom := b.plyDom (b.rsv n).ply
  let b1 := b.setReg c (rsvCtrl (b.reg c) v 0)
  if (b1.pass dom).active && (b1.rsv n).run then b1.setRsv n { b1.rsv n with stopping := true }
  else if (b1.rsv n).acc then b1.rsvEnd n 0 else b1

/-- RESERVOIR_BEGIN: at its block tick the reservoir records from the first sample (R248). -/
def Block.rsvBegin (n : Nat) (b : Block) : Block :=
  let r := b.rsv n
  if !r.acc ∨ r.run then b
  else
    let b1 := b.toBlk r.begin
    let dom := b1.plyDom r.ply
    let first := if dom = 2 then b1.loom.xTick + 1 else r.begin * b1.spb dom
    (b1.setRsv n { r with run := true, first := first }).orReg (Reg.CST_RSV_CTRL n) 0x01000000

/-- One reservoir records the sample of a pass that ends (R248). -/
def Block.rsvRecord (dom s : Nat) (b : Block) (n : Nat) : Block :=
  let r := b.rsv n
  match b.stg.force.bind (fun d => d.ply? r.ply) with
  | none => b
  | some p =>
    if !r.run ∨ isBus p.first ∨ b.plyDom p.ply ≠ dom ∨ s < r.first then b
    else
      let base := b.reg64 (Reg.CST_RSV_BASE_LO n) (Reg.CST_RSV_BASE_HI n)
      let bs := (upFrom p.first p.count).flatMap (fun l =>
        leBytes 4 (if b.laneMuted l then 0 else (b.lane l s).toNat))
      let b1 := (b.mergeNote 0 (base + r.wptr) bs.length).wrBytes (base + r.wptr) bs
      let w := r.wptr + 4 * p.count
      let full := decide (b.reg (Reg.CST_RSV_LEN n) ≤ w)
      let w1 := if full && !r.once then 0 else w
      let r1 := { r with wptr := w1, cnt := r.cnt + 1, atBlk := b.blk,
                         shown := if dom = 2 then (if (r.cnt + 1) % 64 = 0 then w1 else r.shown) else b.rsvShown n }
      let b2 := b1.setRsv n r1
      if full && r.once then b2.rsvEnd n 0x04000000
      else if r.stopping then b2.rsvEnd n 0
      else b2

/-- Every reservoir records at the end of a pass. -/
def Block.rsvRecordAll (b : Block) (dom s : Nat) : Block := (below 8).foldl (Block.rsvRecord dom s) b

/-- At block tick N of a commit, reservoirs whose ply the draft `d` no longer has, or whose ring now lies in its delay-line
region, stop with STOPPED (R249). -/
def Block.rsvCommit (b : Block) (d : Draft) : Block :=
  (below 8).foldl (fun x n =>
    let base := x.reg64 (Reg.CST_RSV_BASE_LO n) (Reg.CST_RSV_BASE_HI n)
    if (x.rsv n).acc && ((d.ply? (x.rsv n).ply).isNone || decide (base < lineEnd d)) then
      x.rsvEnd n 0x08000000
    else x) b

/-! ## The commands -/

/-- INIT (R241). -/
def execInit (second : Nat) (s : State) : Answer := onReg Reg.CST_CMD true (Block.cstInit second) s
/-- INIT_DONE (R241). -/
def execInitDone (ok : Bool) (chan : Nat) (s : State) : Answer := onBlk (Block.cstInitDone ok chan) s
/-- FCHG (R243). -/
def execFchg (s : State) : Answer := onReg Reg.CST_CMD true Block.cstFchg s
/-- FREQUENCY_CHANGE (R244). -/
def execFrequencyChange (s : State) : Answer := onBlk Block.freqChange s
/-- FCHG_DONE (R244). -/
def execFchgDone (e : FchgEnd) (s : State) : Answer := onBlk (Block.fchgDone e) s
/-- ENTER_RETENTION (R465). -/
def execEnterRetention (s : State) : Answer := onReg Reg.CST_CMD true Block.enterRetention s
/-- LEAVE_RETENTION (R468). -/
def execLeaveRetention (s : State) : Answer := onReg Reg.CST_CMD true Block.leaveRetention s
/-- CISTERN_READ (R236). -/
def execCisternRead (reqs : List (Nat × Nat × Nat)) (ecc : Ecc) (w : Nat) (s : State) : Answer :=
  onBlk (Block.cisternRead reqs ecc w) s
/-- CISTERN_WRITE (R238). -/
def execCisternWrite (m a : Nat) (data : Bytes) (ecc : Ecc) (s : State) : Answer :=
  onBlk (Block.cisternWrite m a data ecc) s
/-- WRITE_BATCH (R237). -/
def execWriteBatch (served : Nat) (s : State) : Answer := onBlk (Block.writeBatch served) s
/-- REFRESH (R239). -/
def execRefresh (bank elapsed : Nat) (s : State) : Answer := onBlk (Block.refresh bank elapsed) s
/-- TEMP_CHECK (R239). -/
def execTempCheck (scale : Nat) (above : Bool) (s : State) : Answer := onBlk (Block.tempCheck scale above) s
/-- ZQ_LATCH (R240). -/
def execZqLatch (s : State) : Answer := onBlk Block.zqLatch s
/-- DQS_CHECK (R240). -/
def execDqsCheck (chan : Nat) (drift : Int) (ok : Bool) (s : State) : Answer := onBlk (Block.dqsCheck chan drift ok) s
/-- BANKHASH_WRITE (R230). -/
def execBankhashWrite (i v : Nat) (s : State) : Answer := onReg (Reg.CST_BANKHASH i) true (Block.bankhashWrite i v) s
/-- RESERVOIR_START (R249). -/
def execReservoirStart (n v : Nat) (s : State) : Answer := onReg (Reg.CST_RSV_CTRL n) true (Block.rsvStart n v) s
/-- RESERVOIR_STOP (R249). -/
def execReservoirStop (n v : Nat) (s : State) : Answer := onReg (Reg.CST_RSV_CTRL n) true (Block.rsvStop n v) s
/-- RESERVOIR_BEGIN (R248). -/
def execReservoirBegin (n : Nat) (s : State) : Answer := onBlk (Block.rsvBegin n) s

end Sys2Proof.Machine
end

