-- ==== Sys2Proof/Machine/RillStore.lean ====
section
/-! DEFINITION. The slots and elastic stores of the rills (spec/13_rills.md): which lane a slot maps to, and how the
words of a sample reach the input lanes (R361 to R366). -/

namespace Sys2Proof.Machine

def Block.setRil (b : Block) (f : Ril → Ril) : Block := { b with ril := f b.ril }
def Block.rill (b : Block) (n : Nat) : Rill := tget {} b.ril.rills n
def Block.setRill (b : Block) (n : Nat) (x : Rill) : Block := b.setRil (fun r => { r with rills := tput {} n x r.rills })

/-- The balls of a rill: DO, BCK and WS. -/
def pinRill (n k : Nat) : Nat := 256 + 3 * n + k

/-- How many slots below `i` a mask sets. -/
def slotsBelow (mask i : Nat) : Nat := ((below i).filter (fun j => bit mask j)).length

/-- The place among a hank's 16 lanes that slot `c` of rill `n` maps to, if the slot is active (R366). -/
def slotLane (mask n c : Nat) : Option Nat :=
  let slot := 2 * (n % 8) + c
  if bit mask slot then some (slotsBelow mask slot) else none

def rilIn (h i : Nat) : Nat := 0x1000 + 16 * h + i
def rilOut (h i : Nat) : Nat := 0x1060 + 16 * h + i

/-- The level of a ramp or fade one sample on (R105): a ramp's gain on its sample j is (j + 1)/32, a fade's (31 - j)/32. -/
def lvlNext (up : Bool) (l : Nat) : Nat := if up then min 32 (l + 1) else l - 1

/-- Whether a rill has no elastic store: a clock master, or the X source (R361). -/
def Block.noStore (b : Block) (n : Nat) : Bool :=
  (b.rill n).role == 0 || (b.domn.xEn && b.domn.xKind == 0 && b.domn.xIdx == n)

/-- The gain that the mute of its ply leaves a rill's lane, one sample on (R365). -/
def Block.laneFade (b : Block) (l : Nat) : Nat × Block :=
  let g := lvlNext (!b.laneMuted l) (tget 32 b.ril.fades l)
  (g, b.setRil (fun r => { r with fades := tput 32 l g r.fades }))

/-- A word at the lesser of two gains, so that a rill that starts as its ply is released ramps in once (R365). -/
def faded (v : Int) (g h : Nat) : Int := rndHE 5 (v * (min g h : Nat))

/-- One channel's word of sample `s` reaches the lane that its slot maps to; a slot whose lane the draft does not list
is dropped (R366). `g` is the rill's own gain. -/
def Block.handWord (b : Block) (n s mask c g : Nat) (v : Int) : Block :=
  match slotLane mask n c with
  | none => b
  | some i =>
    let l := rilIn (n / 8) i
    if (b.stg.force.bind (fun d => d.lane? l)).isNone then b
    else
      let r := b.laneFade l
      r.2.setLane l s (faded v g r.1)

/-- A rill hands over its words of sample `s` (R361): the stored words, or the last ones where none is stored, with the
ramp or fade of the input; a rill that is off delivers 0 (R357). -/
def Block.handRill (s : Nat) (b : Block) (n : Nat) : Block :=
  let x := b.rill n
  if s ≤ x.handed then b
  else
    let w := (x.store.find? (fun e => e.tick == s)).getD x.last
    let lvl := lvlNext (x.st == 2 && !x.inSlip) x.inLvl
    let g := if x.role = 2 then 0 else lvl
    let b1 := b.setRill n { x with inLvl := lvl, last := w, handed := s, store := x.store.filter (fun e => s < e.tick) }
    (b1.handWord n s w.mask 0 g w.left).handWord n s w.mask 1 g w.right

/-- A rill without a store whose first frame has not begun delivers 0 (R78, R365). -/
def Block.handIdle (s : Nat) (b : Block) (n : Nat) : Block :=
  let x := b.rill n
  (b.handWord n s x.mask 0 0 0).handWord n s x.mask 1 0 0

/-- The input lanes of a hank that no active slot of a rill in use maps to deliver 0 (R357, R366). -/
def Block.handRest (dom s : Nat) (b : Block) (h : Nat) : Block :=
  let m := b.reg (Reg.RIL_HANK_MASK_ACTIVE h)
  let used := ((below 16).filter (fun j => (b.rill (8 * h + j / 2)).role != 2)).filterMap (fun j => slotLane m (j / 2) (j % 2))
  ((below 16).filter (fun i => !used.contains i)).foldl (fun y i =>
    if (y.stg.force.bind (fun d => d.laneDom? (rilIn h i))) == some dom then y.setLane (rilIn h i) s 0 else y) b

/-- At tick `s` of a domain its rills with an elastic store hand over the words of sample `s` (step 1 of R31); the others
do so at their frames, and deliver 0 before the first one. -/
def Block.handRills (dom s : Nat) (b : Block) : Block :=
  let ns := (below 48).filter (fun n => (b.rill n).dom == dom && (b.rill n) != {})
  let b1 := ns.foldl (fun y n =>
    if y.noStore n && (y.rill n).st == 2 then (if (y.rill n).edge.isNone then y.handIdle s n else y) else y.handRill s n) b
  (below 6).foldl (Block.handRest dom s) b1

end Sys2Proof.Machine
end

