-- ==== Sys2Proof/Machine/LoomPass.lean ====
section
/-! DEFINITION. The passes of the loom (R122 to R126), single cards as commands (R113), delay lines (R139, R140), and
direct edits (R130 to R134). -/

namespace Sys2Proof.Machine

def Block.setLoom (b : Block) (f : Loom → Loom) : Block := { b with loom := f b.loom }

/-! ## The encoding rules of a card (R97, R99, R113, R114, R133, R140) -/

/-- Whether no bit outside a mask is set. -/
def onlyBits (w m : Nat) : Bool := decide (w &&& (2 ^ 64 - 1 - m) = 0)

/-- Whether a lane may be read at SRC in a deck of domain `dom`: an unlisted lane reads 0; otherwise its domain is the
deck's, or the read is between F and B (R22, R97 to R99). -/
def srcOk (d : Draft) (dom l : Nat) : Bool :=
  match d.laneDom? l with
  | none => true
  | some x => x == dom || (x != 2 && dom != 2)

/-- Whether a lane may be written at DST: it is listed and lies in the deck's domain (R120, R133). -/
def dstOk (d : Draft) (dom l : Nat) : Bool := d.laneDom? l == some dom

/-- DIR of a listed lane: 0 into a kernel, 1 out of one. -/
def laneDir (d : Draft) (l : Nat) : Nat := (d.lane? l).elim 0 (·.dir)

/-- Whether a card keeps R113 and R114 in a deck of domain `dom`. DESIGN CHOICE (log entry 17): a KIN or KOUT card of an F deck
may name a B kernel or the reverse, its port lane lying in the deck's domain. -/
def cardForm (d : Draft) (dom : Nat) (c : Card) : Bool :=
  let any := srcOk d dom c.src
  let out := isGeneral c.dst && dstOk d dom c.dst
  let noC := c.coef == 0
  let noS := c.src == 0
  let noD := c.dst == 0
  c.rsv == 0 && decide (c.flags < 2 ^ 13) && (c.meter || c.midx == 0) &&
  match c.op with
  | 0x00 | 0x3F => noS && noD && noC && c.opnd == 0 && !c.inv && !c.meter
  | 0x01 => any && out && noC && c.opnd == 0
  | 0x02 => any && out && noC && onlyBits c.opnd 0xFFFFFFFF
  | 0x03 => any && out && c.opnd == 0
  | 0x04 => any && out && !isBus c.dst && c.opnd == 0
  | 0x05 => noS && out && noC && c.opnd == 0 && !c.inv
  | 0x06 => any && out && isBus c.dst && c.opnd == 0
  | 0x07 => any && out && onlyBits c.opnd 0x0FFF00000000007F && decide (fld c.opnd 0 5 ≤ 16)
  | 0x08 => any && out && onlyBits c.opnd 0x0FFF00000000004F && decide (1 ≤ fld c.opnd 0 4)
  | 0x09 => any && isBus c.src && out && !isBus c.dst && onlyBits c.opnd 0x0FFFFF0FFFFFFFFF &&
      decide (1 ≤ fld c.opnd 0 32) && decide (fld c.opnd 0 32 < 2 ^ 31)
  | 0x0A => noS && out && noC && onlyBits c.opnd 0x00000FFFFFFFF7FF
  | 0x0B => any && noD && noC && onlyBits c.opnd 0x7FF
  | 0x0C => any && out && noC && onlyBits c.opnd 0x0FFF000000000FFF
  | 0x0D => any && isPort c.dst && dstOk d dom c.dst && laneDir d c.dst == 0 && noC && onlyBits c.opnd 0x7FF && dom != 2
  | 0x0E => any && isPort c.src && laneDir d c.src == 1 && out && noC && onlyBits c.opnd 0x7FF && dom != 2
  | 0x0F => any && noD && noC && c.opnd == 0 && c.meter && !c.inv
  | 0x10 => any && isSluIn c.dst && dstOk d dom c.dst && noC && c.opnd == 0
  | _ => false

/-- Whether the kernel a KIN or KOUT card names owns the port lane (R114). -/
def portOk (d : Draft) (c : Card) : Bool :=
  (d.kern? c.kernel).elim false (fun k =>
    if c.op = opKIN then decide (k.inLane ≤ c.dst) && decide (c.dst < k.inLane + k.nIn)
    else decide (k.outLane ≤ c.src) && decide (c.src < k.outLane + k.nOut))

/-- Whether a DLY card's delay keeps R140: from 2P + 2 to LENGTH - 3. -/
def delayOk (d : Draft) (dom : Nat) (c : Card) : Bool :=
  (d.dlay? c.line).elim false (fun r =>
    decide (2 * (if dom = 0 then 4 * d.domn.fMult else 4) + 2 ≤ fld c.opnd 12 20) && decide (fld c.opnd 12 20 + 3 ≤ r.len))

/-- The code with which a card fails on its own, in the order of R526. -/
def cardCode (d : Draft) (dom : Nat) (c : Card) : Option Nat :=
  if !cardForm d dom c then some 0x50
  else if (c.op == opKIN || c.op == opKOUT) && !portOk d c then some 0x53
  else if (c.op == opDLY || c.op == opDLW) && !((d.dlay? c.line).elim false (fun r => r.dom == dom)) then some 0x54
  else if c.op == opDLY && !delayOk d dom c then some 0x50
  else none

/-! ## Edits (R131 to R134) -/

/-- Entries of the edit queue in use (R134). -/
def Block.editsQueued (b : Block) : Nat := b.loom.edits.length + b.loom.resv

/-- Store entry of a card position of a deck. -/
def Block.cardEntry (b : Block) (dom pos : Nat) : Nat := (tget (0, 0) b.loom.decks dom).1 + pos

/-- The block at which an edit released now is due (R132): the first block tick at least a whole block period away, and
not before AT when AT_EN is set. A release at the tick of the time clock at which a block tick comes is at that block
tick (log entry 17). -/
def Block.editDue (b : Block) : Nat :=
  let n := if b.tickTime < tickInstant b.fBlk b.blk + 2 ^ 33 then b.blk + 1 else b.blk + 2
  if b.rbit Reg.LOM_EDIT_CTRL 1 then max n (b.reg64 Reg.LOM_EDIT_AT_LO Reg.LOM_EDIT_AT_HI) else n

/-- An edit is refused (R133). -/
def Block.editRefused (b : Block) (dom : Nat) : Block := (b.setInt Reg.LOM_INT 5).raise srcLOM 4 0 dom dom

/-- An edit joins the queue, or finds it full (R134). -/
def Block.editQueue (b : Block) (e : Edit) : Block :=
  if 256 ≤ b.editsQueued then (b.setInt Reg.LOM_INT 4).raise srcLOM 5 0 e.dom e.dom
  else
    let e1 := if b.rbit Reg.LOM_EDIT_CTRL 0 then { e with held := true } else { e with held := false, due := b.editDue }
    b.setLoom (fun l => { l with edits := l.edits ++ [e1] })

/-- A coefficient edit of an index with a value (R131, R133). DESIGN CHOICE (log entry 17): the fault of a refused one, and of a
card edit with DECK = 3, records DOM 0. -/
def Block.coefEdit (idx val : Nat) (b : Block) : Block :=
  if b.stg.force.isNone ∨ (!b.loom.coefBank.wide ∧ 8192 ≤ idx) then b.editRefused 0
  else b.editQueue { card := false, entry := coefEntry b.loom.coefBank idx, val := val % 2 ^ 32 }

/-- A write of LOM_EDIT_CVAL (R131). -/
def Block.cvalWrite (v : Nat) (b : Block) : Block :=
  let i := b.rfld Reg.LOM_EDIT_CIDX 0 14
  let b1 := b.coefEdit i v
  if b.rbit Reg.LOM_EDIT_CTRL 2 then b1.setRfld Reg.LOM_EDIT_CIDX 0 14 (i + 1) else b1

/-- The card of a position once every queued edit to it has applied (R133). -/
def Block.cardAhead (b : Block) (dom pos : Nat) : BitVec 128 :=
  match (b.loom.edits.filter (fun e => e.card && e.dom == dom && e.pos == pos)).getLast? with
  | some e => BitVec.ofNat 128 e.val
  | none => tget 0 b.loom.cards (b.cardEntry dom pos)

/-- Whether a card edit is refused (R133). DESIGN CHOICE (log entry 17): so is one whose DLW or DLY card names a line that the
draft does not define, or a line of another domain (R526's 0x54). -/
def Block.cardEditBad (b : Block) (dom pos img : Nat) : Bool :=
  let c := cardFields (BitVec.ofNat 128 img)
  let o := cardFields (b.cardAhead dom pos)
  match b.stg.force with
  | none => true
  | some d =>
      decide (2 < dom) || decide ((tget (0, 0) b.loom.decks dom).2 ≤ pos) || (cardCode d dom c).isSome ||
      c.courseEnd != o.courseEnd || c.op == opEND || o.op == opEND || c.op == opKIN || c.op == opKOUT ||
      o.op == opKIN || o.op == opKOUT

/-- A card edit of a deck position with an image (R131, R133). -/
def Block.cardEdit (dom pos img : Nat) (b : Block) : Block :=
  if b.cardEditBad dom pos img then b.editRefused (if dom = 3 then 0 else dom)
  else b.editQueue { card := true, dom := dom, pos := pos, val := img }

/-- A write of LOM_EDIT_CARD3 (R131). -/
def Block.card3Write (v : Nat) (b : Block) : Block :=
  b.cardEdit (b.rfld Reg.LOM_EDIT_CPOS 16 2) (b.rfld Reg.LOM_EDIT_CPOS 0 14)
    (b.reg Reg.LOM_EDIT_CARD0 + 2 ^ 32 * b.reg Reg.LOM_EDIT_CARD1 + 2 ^ 64 * b.reg Reg.LOM_EDIT_CARD2 +
      2 ^ 96 * (v % 2 ^ 32))

/-- Held edits are released together (R132). -/
def Block.releaseEdits (b : Block) : Block :=
  let n := b.editDue
  b.setLoom (fun l => { l with edits := l.edits.map (fun e => if e.held then { e with held := false, due := n } else e) })

/-- A write of LOM_EDIT_CTRL: HOLD from 1 to 0 releases the held edits (R132). DESIGN CHOICE (log entry 17): AT_EN at their
release is the value that this write gives it. -/
def Block.editCtrlWrite (v : Nat) (b : Block) : Block :=
  let b1 := b.setReg Reg.LOM_EDIT_CTRL (v % 8)
  if b.rbit Reg.LOM_EDIT_CTRL 0 && !bit v 0 then b1.releaseEdits else b1

/-! ## Applying edits (R121, R132, R133, R145) -/

/-- What feeds each meter: (meter, domain, position, operation, bus format). -/
def Block.feeders (b : Block) : List (Nat × Nat × Nat × Nat × Bool) :=
  (below 3).flatMap (fun dom => ((b.deckCards dom).zipIdx).filterMap (fun ci =>
    let c := cardFields ci.1
    if c.meter then some (c.midx, dom, ci.2, c.op, c.op != opMETER && isBus c.dst) else none))

/-- A slot is to be initialised by the next card that names it. -/
def Block.freshSlot (b : Block) (i : Nat) : Block :=
  b.setLoom (fun l => { l with slots := tput {} i {} l.slots })

/-- Domain X keeps the state as it is for the passes of its samples up to now (R74, R132). -/
def Block.xHold (b : Block) : Block :=
  let v : XView := { upTick := b.loom.xTick + 1, draft := b.stg.force, cards := b.deckCards 2, coefs := b.loom.coefs,
                     bank := b.loom.coefBank }
  if b.loom.xOld.any (fun w => w.upTick == v.upTick) then b else b.setLoom (fun l => { l with xOld := l.xOld ++ [v] })

/-- Slots and meters restart: those that only domain X's passes are to find so, from its first pass that no view holds back. -/
def Block.restartAt (dom : Nat) (slots meters : List Nat) (b : Block) : Block :=
  if dom = 2 ∧ !b.loom.xOld.isEmpty then
    b.setLoom (fun l => { l with xOld := l.xOld.dropLast ++ (l.xOld.getLast?.map (fun v =>
      { v with fresh := v.fresh ++ slots, meters := v.meters ++ meters })).toList })
  else (slots.foldl Block.freshSlot b).setLoom (fun l => { l with meters := meters.foldl (fun t m => tput {} m {} t) l.meters })

/-- Meters whose feeding card, operation or format changed restart (R145). -/
def Block.meterRestart (b : Block) (old : List (Nat × Nat × Nat × Nat × Bool)) : Block :=
  let new := b.feeders
  let ch := (old.filter (fun f => !new.contains f)) ++ (new.filter (fun f => !old.contains f))
  (b.restartAt 0 [] ((ch.filter (fun f => f.2.1 != 2)).map (·.1))).restartAt 2 [] ((ch.filter (fun f => f.2.1 == 2)).map (·.1))

/-- A line of the domain that no DLW card of its deck writes holds 0 (R139). -/
def Block.linesSweep (dom : Nat) (b : Block) : Block :=
  match b.stg.force with
  | none => b
  | some d =>
    let ws := (((b.deckCards dom).map cardFields).filter (fun c => c.op == opDLW)).map (·.line)
    let gone := (d.dlays.filter (fun r => r.dom == dom && !ws.contains r.line)).map (·.line)
    b.setLoom (fun l => { l with lines := gone.foldl (fun t i => tput {} i {} t) l.lines })

/-- One edit applies to the store. -/
def Block.applyEdit (b : Block) (e : Edit) : Block :=
  if !e.card then b.setLoom (fun l => { l with coefs := tput 0 e.entry (BitVec.ofNat 32 e.val) l.coefs })
  else
    let i := b.cardEntry e.dom e.pos
    let o := cardFields (tget 0 b.loom.cards i)
    let c := cardFields (BitVec.ofNat 128 e.val)
    let b1 := b.setLoom (fun l => { l with cards := tput 0 i (BitVec.ofNat 128 e.val) l.cards })
    if c.hasSlot && !(o.op == c.op && o.state == c.state) then b1.restartAt e.dom [c.state] [] else b1

/-- Edits apply, in the order in which they were queued: in F and B at once, in X from its next sample (R132). -/
def Block.applyEdits (es : List Edit) (b : Block) : Block :=
  let old := b.feeders
  let b1 := (es.foldl Block.applyEdit b.xHold).meterRestart old
  (b1.linesSweep 0).linesSweep 1

/-! ## Decks and coefficients that a commit loads (R74, R75, R127, R129) -/

/-- The store entry and image of every card of a deck that lies at an entry. -/
def deckPut (base : Nat) (cs : List (BitVec 128)) (t : Tab (BitVec 128)) : Tab (BitVec 128) :=
  (cs.zipIdx).foldl (fun t c => tput 0 (base + c.2) c.1 t) t

/-- Coefficients are replaced as a whole. -/
def coefPut (cs : List (Nat × BitVec 32)) : Tab (BitVec 32) := cs.foldl (fun t c => tput 0 c.1 c.2 t) []

/-- A deck of a domain takes effect over the cards `old` of the deck before it: a slot keeps its contents only when a card
byte-identical to one as currently applied in the domain names it (R129). -/
def Block.deckLoad (b : Block) (dom base : Nat) (old cs : List (BitVec 128)) : Block :=
  let kept := (cs.filter (fun c => old.contains c)).map cardFields
  let fresh := ((cs.map cardFields).filter (fun c => c.hasSlot && !(kept.any (fun k => k.hasSlot && k.state == c.state)))).map
    (·.state)
  (b.restartAt dom fresh []).setLoom (fun l => { l with decks := tput (0, 0) dom (base, cs.length) l.decks, cards := deckPut base cs l.cards })

/-- The pass of domain X for sample `s` begins: what no pass is to see again is dropped, and what its end restarts restarts
(R74, R132). -/
def Block.xAdvance (s : Nat) (b : Block) : Block :=
  let gone := b.loom.xOld.filter (fun v => decide (v.upTick ≤ s))
  if gone.isEmpty then b
  else
    let b1 := b.setLoom (fun l => { l with xOld := l.xOld.filter (fun v => decide (s < v.upTick)) })
    let b2 := gone.foldl (fun x v => (v.fresh.foldl Block.freshSlot x).setLoom (fun l =>
      { l with meters := v.meters.foldl (fun t m => tput {} m {} t) l.meters })) b1
    if b2.loom.xOld.isEmpty then b2.linesSweep 2 else b2

/-! ## Passes (R123 to R126) -/

/-- The place whose outtake the passes of block w read for kernel k: old forms first (R33, R34, R76, R223). -/
def Block.outPlace (b : Block) (k w : Nat) : Option (Place × Nat) :=
  let fit := fun (p : Place) => p.k == k && !p.dest && decide (2 * lam p.l2 ≤ w) &&
    decide (p.outFrom ≤ w - 2 * lam p.l2) && p.last.elim true (fun l => decide (w - 2 * lam p.l2 ≤ l))
  let c := b.crl.run.filter fit
  ((c.find? (fun p => p.last.isSome)).or c.head?).map (fun p => (p, w - 2 * lam p.l2))

/-- Where the outtake word of a port lane of kernel k for sample s lies (R33, R123, R161), if a place reaches it: the port is
the lane's place in the kernel of the draft in force, and a form with fewer ports gives 0 (R76). -/
def Block.outAt (b : Block) (dom s k l : Nat) : Option Nat :=
  let spb := b.spb dom
  match b.outPlace k (s / spb), b.stg.force.bind (fun d => d.kern? k) with
  | some (p, blk), some h =>
      if p.zeroFrom.elim false (fun z => decide (z ≤ blk)) || decide (l < h.outLane) ||
          decide (p.nOut ≤ l - h.outLane) then none
      else some (bufWord (outRing p.basin spb p.nIn p.l2) (ringLen p.l2) p.nOut spb blk (l - h.outLane) (s % spb))
  | _, _ => none

/-- The outtake word of a port lane; 0 where no place reaches it. -/
def Block.outWord (b : Block) (dom s k l : Nat) : Int := (b.outAt dom s k l).elim 0 (fun a => toS 32 (b.rdLE a 4))

/-- A loom-written lane at the start of a pass: 0 when no card of the deck writes it, else the previous sample's word
until its card runs (R123, R126). -/
def Block.passLane (ws : List Nat) (s : Nat) (b : Block) (l : Nat) : Block :=
  if ws.contains l then b.deliver l s (b.lanePrev l s) else b.deliver l s 0

/-- The start of the pass of domain `dom` for sample `s`: steps 1 and 2 of R123. A KOUT card's lane is loaded for the deck that
names it, whichever domain its kernel runs in (DESIGN CHOICE, log entry 17). -/
def Block.passStart (b : Block) (dom s : Nat) : Block :=
  let b0 := if dom = 2 then b.xAdvance s else b
  match b0.draftAt dom s with
  | none => b0
  | some d =>
    let cs := b0.passCards dom s
    let ws := cs.filterMap Card.writes
    let ls := (d.lanes.filter (fun r => r.dom == dom && loomWrites r.lane r.dir)).map (·.lane)
    let b1 := b0.setLoom (fun l => { l with acc := ls.foldl (fun t x => tdel x t) l.acc })
    let b2 := ls.foldl (Block.passLane ws s) b1
    let outs := d.lanes.filter (fun r => r.dom == dom && isPort r.lane && r.dir == 1)
    let b3 := outs.foldl (fun x r =>
      x.deliver r.lane s (match cs.find? (fun c => c.op == opKOUT && c.src == r.lane) with
        | some c => x.outWord dom s c.kernel r.lane
        | none => 0)) (outs.foldl (fun x r => match cs.find? (fun c => c.op == opKOUT && c.src == r.lane) with
          | some c => (x.outAt dom s c.kernel r.lane).elim x (fun a => x.eccNote false 0 a 4)
          | none => x) b2)
    b3.setPass dom { active := true, sample := s }

/-- Run the next `n` courses of the pass in progress. -/
def Block.runCourses (b : Block) (dom n : Nat) : Block :=
  let p := b.pass dom
  let ks := ((b.passCourses dom p.sample).drop p.course).take n
  let b1 := ks.foldl (fun x c => x.course dom p.sample c) b
  b1.setPass dom { b1.pass dom with course := p.course + ks.length }

/-- One meter update (R145). -/
def Block.meterPut (dom s : Nat) (b : Block) (e : Nat × Nat × Nat × Nat) : Block :=
  let tau := b.rfld Reg.LOM_MTR_CFG (4 * dom) 4
  let lane := e.2.2.1
  let bus := decide (0 < lane) && isBus (lane - 1)
  let v : Int := if lane = 0 then toS 64 (e.2.2.2 / 2) else b.laneI (lane - 1) s
  b.setLoom (fun l => { l with meters := tmod {} e.1 (fun m =>
    { pk := max m.pk v.natAbs, ms := ((m.ms : Int) + (v * v - m.ms) / 2 ^ tau).toNat, bus := bus }) l.meters })

/-- Add the words of a ply, one sample, to the running CRC of its digest (R406). -/
def Block.digestPly (b : Block) (blk s : Nat) (p : PlyRec) : Block :=
  let bs := (upFrom p.first p.count).flatMap (fun l => leBytes 4 (ofS 32 (b.laneI l s)))
  let run := tmod [] blk (tmod 0xFFFFFFFF p.ply (fun c => bs.foldl (crcByte 0x82F63B78) c)) b.par.running
  { b with par := { b.par with running := run } }

/-- What the output blocks take of sample `s` of a domain: the words of its output lanes (R31), and the digests of the
output plies (R406). -/
def Block.fetchOut (b : Block) (dom s : Nat) : Block :=
  match b.stg.force with
  | none => b
  | some d =>
    let ls := (d.lanes.filter (fun r => r.dom == dom && isOut r.lane)).map (·.lane)
    let keep := fun (l : Nat) => if l < 0x1000 then 780 else 8
    let b1 := b.setLoom (fun m => { m with sent := ls.foldl (fun t l =>
      tmod [] l (fun h => (s, b.laneI l s) :: h.take (keep l)) t) m.sent })
    if b.par.st = 0 then b1
    else (d.plies.filter (fun p => isOut p.first && d.laneDom? p.first == some dom)).foldl
      (fun x p => x.digestPly (if dom = 2 then b.loom.xBlkPrev else s / b.spb dom) s p) b1

/-- Every sluice whose source is the domain takes its input lane's word of the sample, with the stamp of its input instant
(R102, R144). -/
def Block.sluFeed (dom s : Nat) (b : Block) : Block :=
  let t := b.tickStamp dom s
  { b with sluices := b.sluices.map (fun e =>
      if e.2.st ≠ .off ∧ e.2.src = dom then (e.1, { e.2 with hist := (t, b.laneI (0x1E00 + e.1) s) :: e.2.hist.take 127 }) else e) }

/-- The end of a pass (step 4 of R123): bus words are formed again, meters update, reservoirs record, sluices take their
source words, and output blocks theirs. -/
def Block.passEnd (b : Block) (dom : Nat) : Block :=
  let p := b.pass dom
  let s := p.sample
  let b1 := p.wrote.foldl (Block.formBus dom s) b
  let b2 := (b1.pass dom).meters.foldl (Block.meterPut dom s) b1
  let b3 := (b2.rsvRecordAll dom s).sluFeed dom s
  let b4 := b3.fetchOut dom s
  (b4.setPass dom {}).setLoom (fun l => { l with ended := tput 0 dom (s + 1) l.ended })

/-- Record the slack of a pass, in 10 ns units (R125). -/
def Block.slack (b : Block) (dom x : Nat) : Block :=
  if min x 0xFFFF < b.rfld Reg.LOM_SLACK 0 16 then
    b.setReg Reg.LOM_SLACK (dom % 4 * 65536 + min x 0xFFFF) else b

/-- Whether every course of the pass has run. -/
def Block.passDone (b : Block) (dom : Nat) : Bool :=
  decide ((b.passCourses dom (b.pass dom).sample).length ≤ (b.pass dom).course)

/-- A pass of domain `dom` runs `n` courses, all when absent, and ends after the last one. -/
def Block.passRun (dom : Nat) (n : Option Nat) (slack : Nat) (b : Block) : Block :=
  let b1 := b.runCourses dom (n.getD (b.passCourses dom (b.pass dom).sample).length)
  if b1.passDone dom then (b1.passEnd dom).slack dom slack else b1

/-- The pass of domain `dom` for sample `s` begins and runs `n` courses. -/
def Block.passBegin (dom s : Nat) (n : Option Nat) (slack : Nat) (b : Block) : Block :=
  (b.passStart dom s).passRun dom n slack

/-- Whether the loom serves domain `dom`: a draft is in force, the loom has not stopped, and domain X has its source (R96). -/
def Block.served (b : Block) (dom : Nat) : Bool :=
  b.stg.force.isSome && !b.loom.stopped && (dom != 2 || (b.domn.xEn && !b.loom.xStopped))

/-- Whether the pass of domain `dom` for sample `s` is ready: its tick s + 1 has come, no pass of the domain runs, and none for
a later sample has ended (R122, R124). -/
def Block.passReady (b : Block) (dom s : Nat) : Bool :=
  b.served dom && !(b.pass dom).active && decide (s + 1 ≤ b.tick dom) && decide (tget 0 b.loom.ended dom ≤ s)

/-- The sample of the pass of a domain that runs or is suspended, or of the pass that is ready. -/
def Block.openPass (b : Block) (dom : Nat) : Option Nat :=
  if (b.pass dom).active then some (b.pass dom).sample
  else if b.passReady dom (b.tick dom - 1) then some (b.tick dom - 1) else none

/-- How far off the deadline of a pass is, in units of 2^-32 ns (R124): tick s + 2, and in domain X the tick that X_RATE
makes it. -/
def Block.passDue (b : Block) (dom s : Nat) : Int :=
  if dom = 2 then (((s + 2 : Nat) : Int) - b.loom.xTick) * (secFrac / max 1 (b.rate 2) : Nat) - (b.tsu.ticks - b.loom.xAt : Nat) * 2 ^ 33
  else (tickInstant (b.rate dom) (s + 2) : Int) - b.tickTime

/-- Lanes that cards not yet run would have written hold their previous-sample words, and lines repeat theirs (R126). -/
def Block.passCut (dom : Nat) (b : Block) : Block :=
  let p := b.pass dom
  let rest := ((b.passCourses dom p.sample).drop p.course).flatten
  let b1 := (rest.filter (fun c => c.op == opDLW)).foldl (fun x c =>
    x.applyEff dom p.sample (.line c.line (x.line c.line).last)) b
  let ls := rest.filterMap Card.writes
  let b2 := ls.foldl (fun x l => x.deliver l p.sample (x.lanePrev l p.sample)) b1
  (b2.setPass dom { b2.pass dom with wrote := (b2.pass dom).wrote.filter (fun l => !ls.contains l) }).passEnd dom

/-- The pass in progress is ended at its deadline: an overrun (R126, R500). -/
def Block.passOverrun (dom : Nat) (b : Block) : Block :=
  let b2 := b.passCut dom
  let o := tget (0, 0) b2.loom.overruns dom
  let now := b2.blk
  let cnt := if o.2 = 0 then 1 else if o.1 = now then o.2 else if o.1 + 1 = now then o.2 + 1 else 1
  let b3 := b2.setLoom (fun l => { l with overruns := tput (0, 0) dom (now, cnt) l.overruns })
  ((b3.count Reg.LOM_OVR_CNT 0 16 1).setInt Reg.LOM_INT 0).raise srcLOM 1 0 dom dom

/-- The pass of a domain that is open comes to its end before something else does: it runs all its courses, or at its deadline
it is ended. The slack it leaves is a free value (R125, log entry 1). -/
def Block.serve (b : Block) (dom : Nat) : Block :=
  match b.openPass dom with
  | none => b
  | some s =>
    if (b.pass dom).active then
      (if b.passDue dom s ≤ 0 then b.passOverrun dom else (b.drawBits 16).2.passRun dom none (b.drawBits 16).1)
    else ((b.drawBits 16).2.handRills dom s).passBegin dom s none (b.drawBits 16).1

/-- The other domains whose open pass is served before the pass of domain `dom` for sample `s`: those with an earlier deadline,
and on a tie F before B before X (R124). -/
def Block.rivals (b : Block) (dom s : Nat) : List Nat :=
  (below 3).filter (fun d => d != dom && (b.openPass d).elim false (fun r =>
    decide (b.passDue d r < b.passDue dom s) || (decide (b.passDue d r = b.passDue dom s) && decide (d < dom))))

/-- Passes of other domains that come first run to their end (R124). -/
def Block.yieldPass (dom s : Nat) (b : Block) : Block := (b.rivals dom s).foldl Block.serve b

/-- The open passes of F and B for samples before block tick `n` end: they still see what a commit or an edit at that tick
replaces (R74, R132). -/
def Block.passesBefore (n : Nat) (b : Block) : Block :=
  [0, 1].foldl (fun x d => if (x.openPass d).elim false (fun s => decide (s < n * x.spb d)) then x.serve d else x) b

/-- LOOM_PASS: the pass of domain `dom` for sample `s`, which is ready at tick s + 1; `n` courses run before it is
suspended, all when absent (R122 to R124). A domain whose deck is empty runs its pass with no card; a loom that has stopped
runs none. -/
def Block.loomPass (dom s : Nat) (n : Option Nat) (slack : Nat) (b : Block) : Block :=
  let b0 := b.toTick dom (s + 1)
  if b0.passReady dom s then ((b0.yieldPass dom s).handRills dom s).passBegin dom s n slack
  else if dom = 2 ∧ b0.loom.xTick < s + 1 then b0
  else b0.handRills dom s

/-- PASS_RESUME: a suspended pass runs `n` more courses, all when absent (R124). -/
def Block.passResume (dom : Nat) (n : Option Nat) (slack : Nat) (b : Block) : Block :=
  if !(b.pass dom).active then b else (b.yieldPass dom (b.pass dom).sample).passRun dom n slack

/-- PASS_DEADLINE: the pass in progress is ended at tick s + 2 (R126). -/
def Block.passDeadline (dom : Nat) (b : Block) : Block :=
  if (b.pass dom).active then (b.toTick dom ((b.pass dom).sample + 2)).passOverrun dom else b

/-- OVERLOAD: an overrun in each of 4 consecutive block periods (R500). -/
def Block.overload (dom : Nat) (b : Block) : Block :=
  let o := tget (0, 0) b.loom.overruns dom
  if o.2 < 4 then b
  else (b.setLoom (fun l => { l with overruns := tput (0, 0) dom (o.1, 3) l.overruns })).raise srcLOM 6 1 dom dom

/-- The sample of the pass in progress, or else of the pass that is ready. -/
def Block.passSample (b : Block) (dom : Nat) : Nat :=
  if (b.pass dom).active then (b.pass dom).sample else b.tick dom - 1

/-- One card runs on its own: its effects on the state as it stands, as a course of one card (R113, R118). A card whose
OP is another operation's has no effect. -/
def Block.oneCard (op dom : Nat) (img : Nat) (b : Block) : Block :=
  let c := cardFields (BitVec.ofNat 128 img)
  if c.op = op then b.course dom (b.passSample dom) [c] else b

/-- CARD_END: the deck and its last course end, and with them the pass in progress (R119). -/
def Block.cardEnd (dom : Nat) (b : Block) : Block := if (b.pass dom).active then b.passEnd dom else b

/-! ## Delay lines (R139, R140) -/

/-- DELAY_LINE_POST: at the end of block `blk` the words written in it go to the cistern (R139). -/
def Block.linePost (dom blk : Nat) (b : Block) : Block :=
  let b1 := if dom = 2 then b else b.toBlk (blk + 1)
  match b1.stg.force with
  | none => b1
  | some d =>
    let lim := (blk + 1) * b1.spb dom
    (d.dlays.filter (fun r => r.dom == dom)).foldl (fun x r =>
      let ln := x.line r.line
      let now := ln.hold.filter (fun h => decide (h.1 < lim))
      let x1 := now.reverse.foldl (fun y h => y.wrLE (lineAddr d r h.1) 4 (ofS 32 h.2)) x
      let ln1 := { ln with hold := ln.hold.filter (fun h => decide (lim ≤ h.1)) }
      x1.setLoom (fun l => { l with lines := tput {} r.line ln1 l.lines })) b1

/-- The words of a line that the DLY cards of a deck fetch for the passes of a block: each tap's new ones (R140, R246), with what ECC finds in
them (R231). -/
def Block.fetchNote (d : Draft) (dom blk : Nat) (b : Block) (r : Dlay) : Block :=
  if b.sys.memErr.isEmpty then b
  else
    let p := b.spb dom
    (((b.deckCards dom).map cardFields).filter (fun c => c.op == opDLY && c.line == r.line)).foldl (fun x c =>
      (upFrom (blk * p + 1 - fld c.opnd 12 20) p).foldl (fun y i => y.eccNote false 0 (lineAddr d r i) 4) x) b

/-- DELAY_LINE_FETCH: during block `blk` the words that the passes of the next block need arrive, but for the lines
listed (R140, R141). -/
def Block.lineFetch (dom blk : Nat) (missing : List Nat) (b : Block) : Block :=
  match b.stg.force with
  | none => b
  | some d =>
    (d.dlays.filter (fun r => r.dom == dom && !missing.contains r.line)).foldl (fun x r =>
      (x.fetchNote d dom (blk + 1) r).setLoom (fun l => { l with lines := tmod {} r.line (fun ln => { ln with fetched := blk + 2 }) l.lines })) b

/-- EDIT_DUE: at block tick n the released edits that are due apply in F and B, and in X from its next sample (R132). -/
def Block.editsDue (n : Nat) (b : Block) : Block :=
  let b1 := b.toBlk n
  let now := b1.blk
  if b1.loom.edits.all (fun e => e.held || decide (now < e.due)) then b1
  else
    let b2 := b1.passesBefore now
    let due := b2.loom.edits.filter (fun e => !e.held && decide (e.due ≤ now))
    let b3 := b2.setLoom (fun l => { l with edits := l.edits.filter (fun e => e.held || decide (now < e.due)) })
    (b3.applyEdits due).setInt Reg.LOM_INT 3

/-! ## Sample indices that move on (R77, R90, R92) -/

/-- A line keeps its words when the sample index of its domain moves: those still in the basin go to the cistern, and the line is
read by its places as the indices now count them (DEDUCED, log entry 17). -/
def Block.lineReindex (b : Block) (d : Draft) (r : Dlay) : Block :=
  let ln := b.line r.line
  let b1 := ln.hold.reverse.foldl (fun y h => y.wrLE (lineAddr d r h.1) 4 (ofS 32 h.2)) b
  b1.setLoom (fun l => { l with lines := tput {} r.line { ln with hold := [], since := ln.since.map (fun _ => 0) } l.lines })

/-- The last tick of a domain comes to have the index `new`, by a change of rate: what is held by sample index follows. -/
def Block.reindex (dom new : Nat) (b : Block) : Block :=
  match b.stg.force with
  | none => b
  | some d =>
    let old := b.tick dom
    let f := fun (i : Nat) => i + new - old
    let b1 := (d.dlays.filter (fun r => r.dom == dom)).foldl (fun x r => x.lineReindex d r) b
    let mine := fun (l : Nat) => d.laneDom? l == some dom
    let b2 := b1.setLoom (fun l => { l with
      lanes := l.lanes.map (fun e => if mine e.1 then (e.1, e.2.map (fun w => (f w.1, w.2))) else e),
      sent := l.sent.map (fun e => if mine e.1 then (e.1, e.2.map (fun w => (f w.1, w.2))) else e),
      ended := tmod 0 dom f l.ended,
      passes := tmod {} dom (fun p => if p.active then { p with sample := f p.sample } else p) l.passes })
    let b3 := b2.setRil (fun r => { r with rills := r.rills.map (fun e =>
      if e.2.dom = dom ∧ e.2.role ≠ 2 then
        (e.1, { e.2 with store := e.2.store.map (fun w => { w with tick := f w.tick }), inNext := f e.2.inNext,
                         outNext := f e.2.outNext, handed := f e.2.handed })
      else e) })
    let b4 : Block := { b3 with jet := { b3.jet with jets := b3.jet.jets.map (fun e =>
      if (tget ({} : Bank) b.jet.banks (e.1 / 8)).dom = dom then (e.1, { e.2 with sent := e.2.sent.map f }) else e) } }
    let mineTx := fun (j : Nat) => (d.skin? j).any (fun k => skinDom d k == dom)
    let b5 : Block := { b4 with net := { b4.net with txs := b4.net.txs.map (fun e =>
      if mineTx e.1 then (e.1, { e.2 with next := f e.2.next }) else e) } }
    b5.setCst (fun c => { c with rsv := c.rsv.map (fun e => if b.plyDom e.2.ply = dom ∧ e.2.run then
      (e.1, { e.2 with first := f e.2.first }) else e) })

/-! ## The commands -/

/-- LOOM_PASS (R123). -/
def execLoomPass (dom sample : Nat) (n : Option Nat) (slack : Nat) (s : State) : Answer :=
  onBlk (Block.loomPass dom sample n slack) s
/-- PASS_RESUME (R124). -/
def execPassResume (dom : Nat) (n : Option Nat) (slack : Nat) (s : State) : Answer :=
  onBlk (Block.passResume dom n slack) s
/-- PASS_DEADLINE (R126). -/
def execPassDeadline (dom : Nat) (s : State) : Answer := onBlk (Block.passDeadline dom) s
/-- OVERLOAD (R500). -/
def execOverload (dom : Nat) (s : State) : Answer := onBlk (Block.overload dom) s
/-- CARD_NOP (R113). -/
def execCardNop (dom img : Nat) (s : State) : Answer := onBlk (Block.oneCard opNOP dom img) s
/-- CARD_MOV (R113). -/
def execCardMov (dom img : Nat) (s : State) : Answer := onBlk (Block.oneCard opMOV dom img) s
/-- CARD_GAIN (R113). -/
def execCardGain (dom img : Nat) (s : State) : Answer := onBlk (Block.oneCard opGAIN dom img) s
/-- CARD_MACZ (R113). -/
def execCardMacz (dom img : Nat) (s : State) : Answer := onBlk (Block.oneCard opMACZ dom img) s
/-- CARD_MAC (R113). -/
def execCardMac (dom img : Nat) (s : State) : Answer := onBlk (Block.oneCard opMAC dom img) s
/-- CARD_CLR (R113). -/
def execCardClr (dom img : Nat) (s : State) : Answer := onBlk (Block.oneCard opCLR dom img) s
/-- CARD_SUM (R117). -/
def execCardSum (dom img : Nat) (s : State) : Answer := onBlk (Block.oneCard opSUM dom img) s
/-- CARD_FADE (R135). -/
def execCardFade (dom img : Nat) (s : State) : Answer := onBlk (Block.oneCard opFADE dom img) s
/-- CARD_GLIDE (R136). -/
def execCardGlide (dom img : Nat) (s : State) : Answer := onBlk (Block.oneCard opGLIDE dom img) s
/-- CARD_WEIR (R138). -/
def execCardWeir (dom img : Nat) (s : State) : Answer := onBlk (Block.oneCard opWEIR dom img) s
/-- CARD_DLY (R140). -/
def execCardDly (dom img : Nat) (s : State) : Answer := onBlk (Block.oneCard opDLY dom img) s
/-- CARD_DLW (R139). -/
def execCardDlw (dom img : Nat) (s : State) : Answer := onBlk (Block.oneCard opDLW dom img) s
/-- CARD_TRIM (R142). -/
def execCardTrim (dom img : Nat) (s : State) : Answer := onBlk (Block.oneCard opTRIM dom img) s
/-- CARD_KIN (R143). -/
def execCardKin (dom img : Nat) (s : State) : Answer := onBlk (Block.oneCard opKIN dom img) s
/-- CARD_KOUT (R143). -/
def execCardKout (dom img : Nat) (s : State) : Answer := onBlk (Block.oneCard opKOUT dom img) s
/-- CARD_METER (R145). -/
def execCardMeter (dom img : Nat) (s : State) : Answer := onBlk (Block.oneCard opMETER dom img) s
/-- CARD_SLU (R144). -/
def execCardSlu (dom img : Nat) (s : State) : Answer := onBlk (Block.oneCard opSLU dom img) s
/-- CARD_END (R119). -/
def execCardEnd (dom : Nat) (s : State) : Answer := onBlk (Block.cardEnd dom) s
/-- COEFFICIENT_EDIT (R131). -/
def execCoefficientEdit (v : Nat) (s : State) : Answer := onReg Reg.LOM_EDIT_CVAL true (Block.cvalWrite v) s
/-- CARD_EDIT (R133). -/
def execCardEdit (v : Nat) (s : State) : Answer := onReg Reg.LOM_EDIT_CARD3 true (Block.card3Write v) s
/-- HOLD_RELEASE (R132): a write of LOM_EDIT_CTRL. -/
def execHoldRelease (v : Nat) (s : State) : Answer := onReg Reg.LOM_EDIT_CTRL true (Block.editCtrlWrite v) s
/-- EDIT_DUE (R132). -/
def execEditDue (n : Nat) (s : State) : Answer := onBlk (Block.editsDue n) s
/-- DELAY_LINE_POST (R139). -/
def execDelayLinePost (dom blk : Nat) (s : State) : Answer := onBlk (Block.linePost dom blk) s
/-- DELAY_LINE_FETCH (R140). -/
def execDelayLineFetch (dom blk : Nat) (missing : List Nat) (s : State) : Answer := onBlk (Block.lineFetch dom blk missing) s

end Sys2Proof.Machine
end

