-- ==== Sys2Proof/Machine/Sluice.lean ====
section
/-! DEFINITION. The sluices (spec/03_lanes_domains_sluices.md, R101 to R110) and the stop of the X source (R96). -/

namespace Sys2Proof.Machine

def Block.slu (b : Block) (n : Nat) : Sluice := tget {} b.sluices n
def Block.setSlu (b : Block) (n : Nat) (x : Sluice) : Block := { b with sluices := tput {} n x b.sluices }

/-- Whether a sluice bridges F and B, so that its ratio is exact and it stays LOCKED (R101, R106). -/
def Sluice.fixed (x : Sluice) : Bool := x.src != 2 && x.dst != 2

/-- The 32-sample fall starts from the last valid reconstruction (R105). -/
def Sluice.startFade (x : Sluice) : Sluice := { x with fade := 32, fadeFrom := x.valid }

/-- A sluice changes state, which its loop bandwidth counts from (R102). -/
def Block.sluGoto (b : Block) (n : Nat) (st : SluiceState) (x : Sluice) : Block :=
  b.setSlu n { x with st := st, since := b.clkStamp 0 }

/-- Entry to LOCKED begins the ramp (R105). -/
def Block.sluLock (b : Block) (n : Nat) : Block :=
  (b.sluGoto n .locked { b.slu n with ramp := 0, fade := 0 }).setInt Reg.SLU_INT 0

/-- Entry to HOLD, with a fade from LOCKED (R106, R109). -/
def Block.sluHold (b : Block) (n : Nat) : Block :=
  let x := b.slu n
  let x1 := if x.st = .locked then x.startFade else x
  (((b.sluGoto n .hold x1).setInt Reg.SLU_INT 2).count (Reg.SLU_CNT n) 16 16 1).raise srcSLU 2 0 n n

/-- Entry to RANGE, with a fade from LOCKED (R106, R109). -/
def Block.sluRange (b : Block) (n : Nat) : Block :=
  let x := b.slu n
  let x1 := if x.st = .locked then x.startFade else x
  ((b.sluGoto n .range x1).setInt Reg.SLU_INT 3).raise srcSLU 3 1 n n

/-- A slip: ACQUIRE with a fade (R106, R109). It recentres the buffer, and the estimator keeps its ratio (R107). -/
def Block.sluSlip (b : Block) (n : Nat) : Block :=
  (((b.sluGoto n .acquire { (b.slu n).startFade with phase := 0 }).setInt Reg.SLU_INT 1).count (Reg.SLU_CNT n) 0 16 1).raise
    srcSLU 1 0 n n

/-- Whether a measured ratio (Q4.28) lies outside ±1 % of nominal (R101). -/
def Block.ratioOut (b : Block) (x : Sluice) (ratio : Nat) : Bool :=
  let nom : Int := b.rate x.src * 2 ^ 28
  let dev : Int := (ratio : Int) * b.rate x.dst - nom
  decide (nom < 100 * dev) || decide (nom < -(100 * dev))

/-- The state machine at a destination tick (R106). -/
def Block.sluState (b : Block) (n ratio : Nat) (phase : Int) : Block :=
  let x := b.slu n
  let rs := x.resync
  let b0 := b.setSlu n { x with resync := false }
  if x.dstStopped then b0.sluGoto n .acquire { x with resync := false, dstStopped := false }
  else match x.st with
    | .acquire => if b.ratioOut x ratio then b0.sluRange n else b0
    | .locked =>
        if b.ratioOut x ratio then b0.sluRange n
        else if 16384 < phase ∨ phase < -16384 then b0.sluSlip n
        else if rs then b0.sluGoto n .acquire { x with resync := false }.startFade
        else b0
    | .range => if rs then b0.sluGoto n .acquire { x with resync := false } else b0
    | _ => b0

/-- The loop bandwidth in mHz that EST_BW selects (R102). -/
def estBw (e : Nat) : Nat := 125 * 2 ^ e

/-- The stamp of tick `k` of a domain as the estimator takes it: a tick of F or B lies on an edge of the audio master (R90, R311), `late`
units of 125 ps after its instant and less than a period of the audio master; an X tick is where it was stamped (R102). -/
def Block.edgeStamp (b : Block) (dom k late : Nat) : Nat :=
  b.tickStamp dom k + (if dom = 2 then 0 else late % (8000000000 / (8192 * b.fBlk) + 1))

/-- What the ratio estimator measures at a destination tick, as a ratio (Q4.28) and a phase error (2^-12 source samples): its
second-order loop over the stamps of the last two source and destination ticks, at 64 Hz until LOCKED and narrowing over 1 s to
the bandwidth of EST_BW from then on (R102, log entry 4). -/
def Block.sluMeasure (b : Block) (x : Sluice) (late : Nat) : Nat × Int :=
  let age := b.clkStamp 0 - x.since
  let bw : Nat × Nat := if x.st = .locked then (estBw x.bw, min 8000000000 age) else (64000, 8000000000)
  let k := b.tick x.src
  let r := Config.sluiceLoop bw.1 bw.2 (x.ratio, x.phase) [b.edgeStamp x.src k late, b.edgeStamp x.src (k - 1) late] x.stamps
  (r.1 % 2 ^ 32, satS 16 r.2)

/-- The delay D of a sluice (R104), exactly, in seconds. -/
def Block.sluDelay (b : Block) (x : Sluice) : Rat :=
  (if x.filt = 0 then 34 else 14) / ((b.rate x.src : Nat) : Rat) + 4 / ((b.rate x.dst : Nat) : Rat)

/-- The reconstruction of the source signal at the instant D before a destination tick stamped `t` (R103, R104): the filter of
FILTER over the source words, each at its distance in seconds from that instant. -/
def Block.sluWord (b : Block) (x : Sluice) (t : Nat) : Int :=
  let at' := fun (h : Nat × Int) => ((((h.1 : Int) - (t : Int) : Int) : Rat) / 8000000000 + b.sluDelay x, h.2)
  satS 32 (Config.sluiceFilter x.filt (b.rate x.src) (b.rate x.dst) (x.ratio, x.phase) (x.hist.map at'))

/-- The output word of a destination tick (R105, R106); `v` is the reconstruction. The product of the ramp or the fade is rounded
to Q0.31 to one of the two words beside it, where the spec states none (log entry 8). -/
def Block.sluOutput (b : Block) (n : Nat) (v : Int) : Int × Block :=
  let x := b.slu n
  if x.st = .locked then
    let w := if x.ramp < 32 then b.drawRound (v * (x.ramp + 1 : Nat)) 32 else (v, b)
    (w.1, w.2.setSlu n { x with ramp := min 32 (x.ramp + 1), valid := v })
  else if 0 < x.fade then
    let w := b.drawRound (x.fadeFrom * (x.fade - 1 : Nat)) 32
    (w.1, w.2.setSlu n { x with fade := x.fade - 1 })
  else (0, b)

/-- SLUICE_TICK: at tick `s` of its destination domain (R102, R106); `lateS` and `lateD` say where on the audio master's edges the ticks
of source and destination lie. A tick of X that has not come has no effect (R94). -/
def Block.sluTick (n s lateS lateD : Nat) (b : Block) : Block :=
  let x := b.slu n
  if x.st = .off ∨ (x.dst = 2 ∧ b.loom.xTick < s) then b
  else
    let b0 := b.toTick x.dst s
    let t := b0.tickStamp x.dst s
    let b1 := b0.setSlu n { x with stamps := b0.edgeStamp x.dst s lateD :: x.stamps.take 1 }
    let b2 := if x.fixed then b1 else
      let m := b1.sluMeasure (b1.slu n) lateS
      (b1.setSlu n { b1.slu n with ratio := m.1, phase := m.2 }).sluState n m.1 m.2
    let r := b2.sluOutput n (b2.sluWord (b2.slu n) t)
    r.2.deliver (0x1F00 + n) s r.1

/-- Whether the state of a sluice with an estimator advances: its destination ticks have not stopped (R106). -/
def Sluice.moves (x : Sluice) : Bool := !x.fixed && !x.dstStopped

/-- SLUICE_SOURCE_TIMEOUT (R106). -/
def Block.sluTimeout (n : Nat) (b : Block) : Block :=
  let x := b.slu n
  if x.moves && (x.st == .acquire || x.st == .locked) then b.sluHold n else b

/-- SLUICE_LOCK: the ratio error has been below 1 ppm for 64 ms (R106). -/
def Block.sluLockIf (n : Nat) (b : Block) : Block := if (b.slu n).moves ∧ (b.slu n).st = .acquire then b.sluLock n else b

/-- SLUICE_HOLD_EXIT: 8 source ticks at nominal spacing (R106). -/
def Block.sluHoldExit (n : Nat) (b : Block) : Block :=
  if (b.slu n).moves ∧ (b.slu n).st = .hold then b.sluGoto n .acquire (b.slu n) else b

/-- SLUICE_RANGE_EXIT: the ratio has been within ±0.9 % for 1 s (R106). -/
def Block.sluRangeExit (n : Nat) (b : Block) : Block :=
  if (b.slu n).moves ∧ (b.slu n).st = .range then b.sluGoto n .acquire (b.slu n) else b

/-- A write of SLU_RESYNCi: no effect in OFF, ACQUIRE or HOLD. -/
def Block.resyncWrite (i v : Nat) (b : Block) : Block :=
  (below 32).foldl (fun y k =>
    let x := y.slu (32 * i + k)
    if bit v k && (x.st == .locked || x.st == .range) then y.setSlu (32 * i + k) { x with resync := true } else y) b

/-- X ticks stop: the state of a sluice into X does not advance until they return (R106). -/
def Block.xPause (b : Block) : Block :=
  { b with sluices := b.sluices.map (fun r =>
      if r.2.dst = 2 ∧ r.2.st ≠ .off then (r.1, { r.2 with dstStopped := true }) else r) }

/-- The X source stops (R96). -/
def Block.xStop (b : Block) : Block := (b.setLoom (fun l => { l with xStopped := true })).xPause

/-- X_SKEIN_STOP: a skein source has presented no sample for 2 nominal X periods (R96). -/
def Block.xSkeinStop (b : Block) : Block :=
  if b.domn.xEn && b.domn.xKind == 1 && !b.loom.xStopped then b.xStop else b

/-- A sluice is configured by a committed draft (R101, R106). -/
def Block.sluConfig (b : Block) (n : Nat) (c : Sluc) : Block :=
  let x : Sluice := { src := c.src, dst := c.dst, filt := c.filt, bw := c.bw }
  if x.fixed then
    (b.setSlu n { x with ratio := b.rate c.src * 2 ^ 28 / b.rate c.dst }).sluLock n
  else b.sluGoto n .acquire x

/-- The exact ratios between F and B follow F_MULT (R101). -/
def Block.ratioFix (b : Block) : Block :=
  { b with sluices := b.sluices.map (fun r =>
      if r.2.fixed ∧ r.2.st ≠ .off then (r.1, { r.2 with ratio := b.rate r.2.src * 2 ^ 28 / b.rate r.2.dst }) else r) }

/-- SLUICE_TICK (R106). -/
def execSluiceTick (n sample lateS lateD : Nat) (s : State) : Answer := onBlk (Block.sluTick n sample lateS lateD) s
/-- SLUICE_SOURCE_TIMEOUT (R106). -/
def execSluiceSourceTimeout (n : Nat) (s : State) : Answer := onBlk (Block.sluTimeout n) s
/-- SLUICE_LOCK (R106). -/
def execSluiceLock (n : Nat) (s : State) : Answer := onBlk (Block.sluLockIf n) s
/-- SLUICE_HOLD_EXIT (R106). -/
def execSluiceHoldExit (n : Nat) (s : State) : Answer := onBlk (Block.sluHoldExit n) s
/-- SLUICE_RANGE_EXIT (R106). -/
def execSluiceRangeExit (n : Nat) (s : State) : Answer := onBlk (Block.sluRangeExit n) s
/-- RESYNC (R106). -/
def execResync (i v : Nat) (s : State) : Answer := onReg (Reg.SLU_RESYNC i) true (Block.resyncWrite i v) s
/-- X_SKEIN_STOP (R96). -/
def execXSkeinStop (s : State) : Answer := onBlk Block.xSkeinStop s

end Sys2Proof.Machine
end

