-- ==== Sys2Proof/Machine/Flow.lean ====
section
/-! DEFINITION. The flow engine: transmit and receive skeins (spec/10_flows.md, R281 to R303), with what R405 and R409
say of a unit that does not drive. Receive skeins are 0 to 127, transmit skeins 128 to 255. -/

namespace Sys2Proof.Machine

def Block.rxs (b : Block) (i : Nat) : RxSkein := tget {} b.net.rxs i
def Block.setRxs (b : Block) (i : Nat) (x : RxSkein) : Block := { b with net := { b.net with rxs := tput {} i x b.net.rxs } }
def Block.txs (b : Block) (j : Nat) : TxSkein := tget {} b.net.txs j
def Block.setTxs (b : Block) (j : Nat) (x : TxSkein) : Block := { b with net := { b.net with txs := tput {} j x b.net.txs } }

/-- The SKIN fields of a skein of the draft in force, with its domain and N. -/
def Block.skein? (b : Block) (i : Nat) : Option (Skin × Nat × Nat) :=
  b.stg.force.bind (fun d => (d.skin? i).map (fun k =>
    (k, skinDom d k, packetN (draftRate d b.fB (skinDom d k)) k.ptime)))

/-- An FLW fault: record, INT bit; the record names the skein (FLW_FLT.SKEIN). -/
def Block.flwFault (b : Block) (code int i : Nat) : Block := (b.setInt Reg.FLW_INT int).raise srcFLW code 0 i i

/-! ## Transmit (R285 to R289) -/

/-- A lane word in a network encoding (R84): rounded to 16 or 24 bits, ties to even, not above the greatest value. -/
def netWord (enc : Nat) (v : Int) : Bytes :=
  let n := 8 * encBytes enc
  beBytes (encBytes enc) (ofS n (min (maxS n) (rndHE (32 - n) v)))

/-- The RTP header of a packet whose first tick is `t` (R285). -/
def rtpHeader (k : Skin) (n t : Nat) : Bytes :=
  beBytes 1 0x80 ++ beBytes 1 (k.pt % 128) ++ beBytes 2 ((t / n + k.ssrc % 65536) % 65536) ++
  beBytes 4 ((t + k.rtpOfs) % 2 ^ 32) ++ beBytes 4 k.ssrc

/-- The payload: N samples of every lane; the sample of tick t is the one whose input instant is tick t - 3 (R31). -/
def Block.rtpPayload (b : Block) (k : Skin) (n t : Nat) : Bytes :=
  (upFrom t n).flatMap (fun s => (upFrom k.firstLane k.lanes).flatMap (fun l => netWord k.enc (b.outLane l (s - 3))))

/-- The MAC address of a path's destination, with the next hop resolved for a unicast address (R287). -/
def pathMac (af : Nat) (dst : Bytes) (hop : Option Bytes) : Option Bytes :=
  if af = 4 then
    (if u8 dst 0 / 16 = 14 then some ([0x01, 0x00, 0x5E] ++ beBytes 3 (beNat (slice 1 3 dst) % 2 ^ 23)) else hop)
  else if u8 dst 0 = 0xFF then some ([0x33, 0x33] ++ slice 12 4 dst) else hop

/-- The IP and UDP packet of a path (R287). -/
def ipPacket (k : Skin) (a : AddrRec) (dst : Bytes) (udp : Nat) (rtp : Bytes) : Bytes :=
  let n := rtp.length + 8
  let u := fun (sum : Nat) => beBytes 2 udp ++ beBytes 2 udp ++ beBytes 2 n ++ beBytes 2 sum ++ rtp
  if k.af = 4 then
    let h := fun (sum : Nat) => beBytes 1 0x45 ++ beBytes 1 (4 * k.dscp) ++ beBytes 2 (n + 20) ++ [0, 0, 0x40, 0] ++
      beBytes 1 k.hops ++ [17] ++ beBytes 2 sum ++ a.ipv4 ++ slice 0 4 dst
    h (inetSum (h 0)) ++ u 0
  else
    let h := beBytes 4 (0x60000000 + 4 * k.dscp * 2 ^ 20) ++ beBytes 2 n ++ [17] ++ beBytes 1 k.hops ++ a.ipv6 ++ slice 0 16 dst
    let s := inetSum (a.ipv6 ++ slice 0 16 dst ++ beBytes 4 n ++ [0, 0, 0, 17] ++ u 0)
    h ++ u (if s = 0 then 65535 else s)

/-- The frame of a path (R287). -/
def Block.rtpFrame (b : Block) (d : Draft) (k : Skin) (p : Nat) (mac dst : Bytes) (udp : Nat) (rtp : Bytes) : Bytes :=
  let a := d.addr p
  let tag := if a.vlan = 0 then [] else beBytes 2 0x8100 ++ beBytes 2 (k.dscp / 8 * 2 ^ 13 + a.vlan)
  mac ++ b.portMac p ++ tag ++ beBytes 2 (if k.af = 4 then 0x0800 else 0x86DD) ++ ipPacket k a dst udp rtp

/-- Whether a destination is one address, whose next hop firmware resolves (R287). -/
def isUnicast (af : Nat) (dst : Bytes) : Bool := (pathMac af dst none).isNone

/-- The address of a path's next hop: the destination, or GW4 when it lies outside the prefix (R287). -/
def nextHop (a : AddrRec) (af : Nat) (dst : Bytes) : Bytes :=
  let net := fun (x : Bytes) => beNat (slice 0 4 x) / 2 ^ (32 - a.v4Prefix)
  if af = 4 then (if net dst = net a.ipv4 then slice 0 4 dst else a.gw4) else slice 0 16 dst

/-- Port, destination and next hop of a path of a transmit skein. -/
def Block.txPath (b : Block) (k : Skin) (j path : Nat) : Nat × Bytes × Option Bytes :=
  if path = 0 then (k.portA, k.dstA, (b.txs j).hopA) else (k.portB, k.dstB, (b.txs j).hopB)

/-- Firmware asks for the next hop of a path, at most once a second (R287; DESIGN CHOICE, log entry 43: when it asks). -/
def Block.askHop (d : Draft) (k : Skin) (j path : Nat) (b : Block) : Block :=
  let x := b.txs j
  let w := b.txPath k j path
  let last := if path = 0 then x.askA else x.askB
  if b.sys.firmware && isUnicast k.af w.2.1 && w.2.2.isNone && last.all (fun t => decide (t + secFrac ≤ b.now)) then
    let b1 := b.setTxs j (if path = 0 then { x with askA := some b.now } else { x with askB := some b.now })
    b1.askSend w.1 k.af (d.addr w.1) (nextHop (d.addr w.1) k.af w.2.1)
  else b

/-- The next hops of a transmit skein once a neighbour on port p is known. -/
def Block.hopLearn (d : Draft) (p : Nat) (n : Bytes × Bytes) (b : Block) (k : Skin) : Block :=
  let j := k.inst
  let hit := fun (path : Nat) =>
    let w := b.txPath k j path
    w.1 == p && isUnicast k.af w.2.1 && (nextHop (d.addr p) k.af w.2.1 == n.1)
  if j < 128 ∨ !(b.txs j).run then b
  else
    let x := b.txs j
    b.setTxs j { x with hopA := if hit 0 then some n.2 else x.hopA, hopB := if hit 1 then some n.2 else x.hopB }

/-- Firmware takes a frame that came on port p: it answers for the port's addresses, and resolves the next hops that it waits
for (R257, R287, R409). -/
def Block.fwFrame (p : Nat) (f : Bytes) (b : Block) : Block :=
  match b.stg.force with
  | none => b
  | some d =>
    let b1 := b.answerAddr d p f
    match neighbour f with
    | some n => if b.sys.firmware && vidOf f == (d.addr p).vlan then d.skins.foldl (Block.hopLearn d p n) b1 else b1
    | none => b1

/-- Firmware joins the groups of a receive skein's paths (R291). -/
def Block.joinSkein (d : Draft) (k : Skin) (b : Block) : Block :=
  let paths := (k.portA, k.dstA) :: (if k.portB = 0xFF then [] else [(k.portB, k.dstB)])
  if !b.sys.firmware ∨ 128 ≤ k.inst then b
  else paths.foldl (fun x q => match pathMac k.af q.2 none with
    | some mac => x.joinGroup q.1 k.af (d.addr q.1) q.2 k.srcFilt mac
    | none => x) b

/-- One copy of a packet: it enters queue 1, or is discarded and counted (R288, R289). `lo` is 0 for path A, 16 for B. -/
def Block.txCopy (b : Block) (j p lo : Nat) (f : Option Bytes) : Block :=
  let r := match f with
    | some x => b.txPut p 1 { bytes := x, present := x.length }
    | none => (false, b)
  if r.1 then r.2.count (if lo = 0 then Reg.FLW_TX_PKT_A (j - 128) else Reg.FLW_TX_PKT_B (j - 128)) 0 32 1
  else (r.2.count (Reg.FLW_TX_DROP (j - 128)) lo 16 1).flwFault 6 5 j

/-- A path of a packet: its copy enters the port, and firmware asks for a next hop that it does not have. -/
def Block.txPathOut (d : Draft) (k : Skin) (j path : Nat) (rtp : Bytes) (b : Block) : Block :=
  let w := b.txPath k j path
  let udp := if path = 0 then k.udpA else k.udpB
  (b.txCopy j w.1 (16 * path) ((pathMac k.af w.2.1 w.2.2).map (fun m => b.rtpFrame d k w.1 m w.2.1 udp rtp))).askHop d k j path

/-- The packet of transmit skein j whose first output instant is tick `t` leaves the flow engine (R285 to R289). -/
def Block.txRelease (d : Draft) (k : Skin) (j n t : Nat) (b : Block) : Block :=
  let b1 := b.setTxs j { b.txs j with seq := (t / n + k.ssrc % 65536) % 65536, rtp := (t + k.rtpOfs) % 2 ^ 32, next := t + n }
  if !b1.drives || b1.loom.stopped then b1
  else
    let rtp := rtpHeader k n t ++ b1.rtpPayload k n t
    let b2 := b1.txPathOut d k j 0 rtp
    if k.portB = 0xFF then b2 else b2.txPathOut d k j 1 rtp

/-- The first tick of the packet that transmit skein j releases at the instant that tick `u` of domain `m` is (R286). -/
def Block.dueNow (b : Block) (m u j : Nat) : Option (Skin × Nat × Nat) :=
  (b.skein? j).bind (fun (k, dom, n) =>
    let v := u * b.rate dom / max 1 (b.rate m)
    if v * b.rate m = u * b.rate dom ∧ n ≠ 0 ∧ (v + 1) % n = 0 ∧ n ≤ v + 1 ∧ (b.txs j).run ∧ (b.txs j).next ≤ v then
      some (k, n, v + 1 - n)
    else none)

/-- The packets of lower-numbered skeins that are released at that instant enter first (R286). -/
def Block.lowerFirst (d : Draft) (m u j : Nat) (b : Block) : Block :=
  (upFrom 128 (j - 128)).foldl (fun x i => (x.dueNow m u i).elim x (fun e => x.txRelease d e.1 i e.2.1 e.2.2)) b

/-- Next hops of a transmit skein that firmware has resolved. -/
def Block.hopSet (j : Nat) (hopA hopB : Option Bytes) (b : Block) : Block :=
  let x := b.txs j
  b.setTxs j { x with hopA := hopA.orElse (fun _ => x.hopA), hopB := hopB.orElse (fun _ => x.hopB) }

/-- PACKET_RELEASE: the packet of transmit skein j whose first output instant is tick `t`, released at tick t + N - 1, once;
`hopA` and `hopB` are next hops that firmware has resolved since the last packet (R286, R287). -/
def Block.packetRelease (j t : Nat) (hopA hopB : Option Bytes) (b : Block) : Block :=
  match b.stg.force, b.skein? j with
  | some d, some (k, dom, n) =>
    if j < 128 ∨ !(b.txs j).run ∨ n = 0 ∨ t % n ≠ 0 ∨ t + n ≤ (b.txs j).next ∨ t + n - 1 < b.tick dom then b
    else (((b.toTick dom (t + n - 1)).hopSet j hopA hopB).lowerFirst d dom (t + n - 1) j).txRelease d k j n t
  | _, _ => b

/-! ## Receive matching and violations (R290, R291, R298) -/

/-- The UDP header of a packet that is whole or a first fragment: its offset. -/
def rxUdpAt (f : Bytes) : Option Nat :=
  match ipAt f with
  | some (4, o) => if u8 f (o + 9) = 17 ∧ be16 f (o + 6) % 0x2000 = 0 then some (o + 4 * (u8 f o % 16)) else none
  | some (_, o) =>
      if u8 f (o + 6) = 17 then some (o + 40)
      else if u8 f (o + 6) = 44 ∧ u8 f (o + 40) = 17 ∧ be16 f (o + 42) / 8 = 0 then some (o + 48) else none
  | none => none

/-- Source and destination address of an IP packet. -/
def ipSrc (f : Bytes) (v o : Nat) : Bytes := if v = 4 then slice (o + 12) 4 f else slice (o + 8) 16 f
def ipDst (f : Bytes) (v o : Nat) : Bytes := if v = 4 then slice (o + 16) 4 f else slice (o + 24) 16 f

/-- Whether a frame matches one path of a skein. -/
def pathHits (d : Draft) (k : Skin) (p port udp : Nat) (dst f : Bytes) : Bool :=
  match ipAt f, rxUdpAt f with
  | some (v, o), some u =>
      decide (p = port) && decide (vidOf f = (d.addr p).vlan) && decide (v = k.af) &&
      (ipDst f v o == slice 0 (if v = 4 then 4 else 16) dst) && decide (be16 f (u + 2) = udp)
  | _, _ => false

/-- The path a frame takes to a skein: 0 A, 1 B. -/
def skinPath (d : Draft) (k : Skin) (p : Nat) (f : Bytes) : Option Nat :=
  if pathHits d k p k.portA k.udpA k.dstA f then some 0
  else if k.portB ≠ 0xFF ∧ pathHits d k p k.portB k.udpB k.dstB f then some 1 else none

/-- The lowest-numbered receive skein that a frame matches, and the path. -/
def matchSkein (d : Draft) (p : Nat) (f : Bytes) : Option (Skin × Nat) :=
  (sortKey (·.inst) (d.skins.filter (fun k => k.inst < 128))).findSome? (fun k => (skinPath d k p f).map (fun w => (k, w)))

/-- Offset and length of the RTP payload behind CSRC list, extension and padding; a list that overruns leaves nothing. -/
def rtpBody (r : Bytes) : Nat × Nat :=
  let o1 := 12 + 4 * (u8 r 0 % 16)
  let o2 := if bit (u8 r 0) 4 then o1 + 4 + 4 * be16 r (o1 + 2) else o1
  let pad := if bit (u8 r 0) 5 then u8 r (r.length - 1) else 0
  (o2, r.length - o2 - pad)

/-- Whether an IP length disagrees with the frame: more than it holds, or less in a frame longer than the least size. -/
def ipLenBad (f : Bytes) (o len : Nat) : Bool := decide (f.length < o + len) || (decide (60 < f.length) && decide (o + len < f.length))

/-- The violation code of a matched frame (R298), or the RTP packet. -/
def violation (k : Skin) (n : Nat) (lock : Option Nat) (f : Bytes) : Except Nat Bytes :=
  match ipAt f, rxUdpAt f with
  | some (v, o), some u =>
    let ipLen := if v = 4 then be16 f (o + 2) else be16 f (o + 4) + 40
    let udpLen := be16 f (u + 4)
    let r := slice (u + 8) (udpLen - 8) f
    let body := rtpBody r
    let want := if k.ssrc = 0 then lock else some k.ssrc
    if (v = 4 ∧ onesSum (slice o (u - o) f) 0 ≠ 65535) ∨ ipLenBad f o ipLen then .error 1
    else if (v = 4 ∧ frag4 f o) ∨ (v = 6 ∧ u8 f (o + 6) = 44) then .error 2
    else if udpLen < 8 ∨ u + udpLen ≠ o + ipLen ∨ (be16 f (u + 6) ≠ 0 ∧ onesSum (udpSummed f u udpLen) 0 ≠ 65535) then .error 3
    else if beNat k.srcFilt ≠ 0 ∧ ipSrc f v o ≠ slice 0 (if v = 4 then 4 else 16) k.srcFilt then .error 4
    else if r.length < 12 ∨ u8 r 0 / 64 ≠ 2 then .error 5
    else if u8 r 1 % 128 ≠ k.pt then .error 6
    else if want.any (fun s => s ≠ be32 r 8) then .error 7
    else if body.2 ≠ n * k.lanes * encBytes k.enc then .error 8
    else .ok r
  | _, _ => .error 2

/-- A matched frame that breaks a rule (R298). -/
def Block.flwViol (b : Block) (i path code : Nat) : Block :=
  ((b.count (Reg.FLW_RX_VIOL i) (16 * path) 16 1).setReg Reg.FLW_VIOL (i * 65536 + code * 256 + path)).flwFault 5 4 i

/-! ## The jitter buffer (R292 to R296, R299) -/

/-- Whether a skein is the X source of the draft in force. -/
def Block.isXSource (b : Block) (i dom : Nat) : Bool := dom == 2 && b.domn.xKind == 1 && b.domn.xIdx == i

/-- The words of sample j of a payload: a narrow word stands at the top of the lane word (R84). -/
def sampleWords (k : Skin) (pay : Bytes) (j : Nat) : List Int :=
  let w := encBytes k.enc
  (below k.lanes).map (fun l => toS (8 * w) (beNat (slice ((j * k.lanes + l) * w) w pay)) * 2 ^ (32 - 8 * w))

/-- The number congruent to `x` modulo 2^32 that lies within 2^31 of `c` (R292). -/
def near32 (c x : Nat) : Int := (c : Int) + wrapS 32 ((x : Int) - c)

/-- Base of a spilled skein's buffer (R300, R301). -/
def Block.spillBase (b : Block) (i : Nat) : Nat :=
  b.stg.force.elim 0x420000000 (fun d => 0x420000000 +
    (((d.skins.filter (fun k => k.inst < i && (b.rxs k.inst).spill)).map (rxBufBytes d b.fB)).sum))

/-- The samples per block of a domain that a spilled buffer is fetched by; of X, at 1.01 of X_RATE (R300). -/
def Block.spillSpb (b : Block) (dom : Nat) : Nat := max 1 (b.stg.force.elim 4 (fun d => draftSpb d b.fBlk dom))

/-- The address of the words of presentation tick `t` in a spilled buffer of B samples (log entry 12). -/
def Block.spillAddr (b : Block) (k : Skin) (n t : Nat) : Nat :=
  b.spillBase k.inst + t % jitterB n k.linkOfs * (4 * k.lanes)

/-- Write the words of one position if it is empty (R295); a spilled skein's go to the cistern (R301). -/
def Block.rxWord (b : Block) (k : Skin) (n : Nat) (t : Int) (ws : List Int) : Block :=
  let x := b.rxs k.inst
  if t < 0 ∨ x.buf.any (fun e => e.1 == t.toNat) then b
  else
    let b1 := b.setRxs k.inst { x with buf := x.buf ++ [(t.toNat, ws)] }
    if x.spill then b1.wrBytes (b1.spillAddr k n t.toNat) (ws.flatMap (fun w => leBytes 4 (ofS 32 w))) else b1

/-- A path has delivered a valid packet (R296). -/
def Block.pathUp (b : Block) (i path : Nat) : Block :=
  let x := b.rxs i
  b.setRxs i (if path = 0 then { x with aAt := b.stamp 0, aUp := true } else { x with bAt := b.stamp 0, bUp := true })

/-- Where a recovered clock stands at a stamp, in 2^-32 samples. -/
def XClk.posAt (c : XClk) (s : Nat) : Nat := ((c.pos : Int) + ((s : Int) - c.stamp) * (c.rate * 2 ^ 16 : Nat) / 8000000000).toNat

/-- The stamp at which a recovered clock reaches its next instant. -/
def XClk.due (c : XClk) : Nat :=
  ((c.stamp : Int) - ((c.pos : Int) - (c.shown + 1) * 2 ^ 32) * 8000000000 / (max 1 c.rate * 2 ^ 16 : Nat)).toNat

/-- A valid packet of an X source, stamped `s` (R299): the first sets the recovered clock's phase; a step of more than N samples
resets it; any other moves the loop, which stays within 1 % of X_RATE. -/
def Block.xPacket (b : Block) (i n rts s : Nat) : Block :=
  let x := b.rxs i
  let r := (rts + 2 ^ 32 - b.reg (Reg.FLW_RX_OFS i)) % 2 ^ 32
  let nominal := b.domn.xRate * 2 ^ 16
  match x.xClk with
  | none => b.setRxs i { x with xClk := some { stamp := s, pos := (2 ^ 32 + r) * 2 ^ 32, rate := nominal, shown := 2 ^ 32 + r } }
  | some c =>
    let p := c.posAt s
    let k := (near32 (p / 2 ^ 32) r).toNat
    let err : Int := (k : Int) * 2 ^ 32 - p
    if err.natAbs ≤ n * 2 ^ 32 then
      let u := Config.rtpLoop p c.rate err (s - c.stamp)
      let rate := max (ceilDiv (nominal * 99) 100) (min (nominal * 101 / 100) u.2)
      b.setRxs i { x with xClk := some { c with stamp := s, pos := u.1, rate := rate } }
    else (b.setRxs i { x with xClk := some { c with stamp := s, pos := k * 2 ^ 32, shown := k } }).count (Reg.FLW_RX_LOSS i) 0 16 1

/-- Classify a valid packet `r` of a frame and write its words (R292 to R295). -/
def Block.rxPacket (b : Block) (k : Skin) (dom n path : Nat) (f : RxFrame) (r : Bytes) : Block :=
  let t0 := f.checked
  let i := k.inst
  let rts := be32 r 4
  let b1 := (b.count (if path = 0 then Reg.FLW_RX_PKT_A i else Reg.FLW_RX_PKT_B i) 0 32 1).pathUp i path
  let b2 := b1.setRxs i { b1.rxs i with ssrc := some (be32 r 8) }
  let b3 := if b2.isXSource i dom then b2.xPacket i n rts f.clk else b2
  let x := b3.rxs i
  let rate := b3.rate dom
  let clk := x.xClk.getD {}
  let at' := clk.posAt (16 * f.tick)
  let cur := if dom = 2 then at' / 2 ^ 32 else t0 * rate / secFrac
  let first := near32 cur ((rts + 2 ^ 32 - b3.reg (Reg.FLW_RX_OFS i)) % 2 ^ 32) + k.linkOfs
  let h : Nat := if x.spill then 2000 * 2 ^ 32 + secFrac / b3.fBlk else 2000 * 2 ^ 32
  let lead : Int := if dom = 2 then (first * 2 ^ 32 - at') * secFrac / (max 1 clk.rate * 2 ^ 16 : Nat) - h
    else (if first < 0 then -1 else (tickInstant rate first.toNat : Int) - t0 - h)
  if lead < 0 then (b3.count (Reg.FLW_RX_LOSS i) 16 16 1).flwFault 2 1 i
  else if (jitterB n k.linkOfs : Int) ≤ first + n - 1 - cur then b3.count (Reg.FLW_RX_MISC i) 0 16 1
  else
    let us := lead.toNat / (1000 * 2 ^ 32)
    let b4 := b3.setReg (Reg.FLW_RX_MARGIN i) (min (b3.reg (Reg.FLW_RX_MARGIN i)) us)
    let body := rtpBody r
    let crc := crc32c (slice 4 4 r ++ slice body.1 body.2 r)
    match x.seen.find? (fun e => e.1 == rts && e.2.1 == r.length) with
    | some e => if e.2.2 = crc then b4 else (b4.count (Reg.FLW_RX_MISC i) 16 16 1).flwFault 4 3 i
    | none =>
        let b5 := b4.setRxs i { b4.rxs i with seen := (rts, r.length, crc) :: (b4.rxs i).seen.take 16383 }
        (below n).foldl (fun y (j : Nat) => y.rxWord k n (first + j) (sampleWords k (slice body.1 body.2 r) j)) b5

/-- The flow engine takes the frame at the head of receive queue q of port p. A frame that matches no skein goes to firmware
(R257, R290). -/
def Block.flowTake (p q : Nat) (b : Block) : Block :=
  match b.rxq p q with
  | [] => b
  | f :: rest =>
    let b1 := b.setRxq p q rest
    match b1.stg.force.bind (fun d => (matchSkein d p f.bytes).map (fun m => (m.1, m.2, skinDom d m.1))) with
    | none => b1.fwFrame p f.bytes
    | some (k, path, dom) =>
      if (b1.rxs k.inst).st = 0 || b1.loom.stopped then b1
      else
        let n := packetN (b1.rate dom) k.ptime
        match violation k n (b1.rxs k.inst).ssrc f.bytes with
        | .error c => b1.flwViol k.inst path c
        | .ok r => b1.rxPacket k dom n path f r

/-- The skein and path that the frame at the head of a flow engine's queue matches, with the instant of its verification. -/
def Block.flowHead (b : Block) (p q : Nat) : Option (Nat × Nat × Nat) :=
  if b.rxDest p q ≠ 0 then none
  else (b.rxq p q).head?.bind (fun f => b.stg.force.bind (fun d => (matchSkein d p f.bytes).map (fun m => (m.1.inst, f.checked, m.2))))

/-- A queue of another port whose first frame is for the same skein as that of queue q of port p and was verified before it, or in
the same cycle on path A (R291, R295). -/
def Block.earlier (b : Block) (p q : Nat) : Option (Nat × Nat) :=
  (b.flowHead p q).bind (fun h =>
    ((below 4).flatMap (fun r => (below 8).map (fun u => (r, u)))).find? (fun e => decide (e.1 ≠ p) &&
      (b.flowHead e.1 e.2).any (fun g => g.1 == h.1 && (decide (g.2.1 < h.2.1) || (g.2.1 == h.2.1 && decide (g.2.2 < h.2.2))))))

/-- Those frames go first; `fuel` is the most there can be. -/
def Block.flowFirst (p q : Nat) : Nat → Block → Block
  | 0, b => b
  | fuel + 1, b => match b.earlier p q with
    | some e => Block.flowFirst p q fuel (b.flowTake e.1 e.2)
    | none => b

/-- SKEIN_FRAME: the flow engine takes the frame at the head of receive queue q of port p, the copies of one skein in the order in
which they were verified. -/
def Block.skeinFrame (p q : Nat) (b : Block) : Block :=
  if 3 < p ∨ b.rxDest p q ≠ 0 then b
  else
    let most := ((below 4).map (fun r => ((b.port r).rx.map (fun e => e.2.length)).sum)).sum
    (Block.flowFirst p q most b).flowTake p q

/-! ## Presentation (R294, R297, R299, R301) -/

/-- The last valid packet of a skein, in 125 ps units. -/
def RxSkein.lastValid (x : RxSkein) : Nat := max x.aAt x.bAt

/-- GAP to WAIT: the SSRC lock is released (R291, R297). -/
def RxSkein.toWait (x : RxSkein) : RxSkein := { x with st := 1, ssrc := none, ramp := 0, fade := 0 }

/-- The words delivered at a presentation instant, and the skein after it, given the words present (R297). -/
def RxSkein.present (x : RxSkein) (lanes : Nat) (ws : Option (List Int)) (gapEnds : Bool) : List Int × RxSkein :=
  let zero := List.replicate lanes (0 : Int)
  match x.st, ws with
  | 0, _ => (zero, x)
  | st, some w =>
      let ramp := if st = 2 then x.ramp else 0
      let o := if ramp < 32 then w.map (fun v => rndHE 5 (v * (ramp + 1 : Nat))) else w
      (o, { x with st := 2, ramp := min 32 (ramp + 1), fade := 0, last := o })
  | 1, none => (zero, { x with last := zero })
  | st, none =>
      if st = 3 ∧ gapEnds then (zero, { x.toWait with last := zero })
      else
        let fade := if st = 2 then 32 else x.fade
        let src := if st = 2 then x.last else x.fadeFrom
        let o := if 0 < fade then src.map (fun v => rndHE 5 (v * (fade - 1 : Nat))) else zero
        (o, { x with st := 3, ramp := 0, fade := fade - 1, fadeFrom := src, last := o })

/-- PRESENTATION: receive skein i at presentation instant `t`, a tick of its domain (R294, R297); for an X source the
instant is the recovered clock's next tick (R299), which is an X tick while it presents samples (R94). -/
def Block.presentation (i t : Nat) (b : Block) : Block :=
  match b.skein? i with
  | none => b
  | some (k, dom, n) =>
    let src := b.isXSource i dom
    let clk := (b.rxs i).xClk
    let due := clk.elim (b.clkStamp 0) (·.due)
    let b0 := if dom = 2 then (if src then b.runTicks (due / 16 - b.tsu.ticks) else b) else b.toTick dom t
    let x := b0.rxs i
    if x.st = 0 then b0
    else
      let key := if src then clk.elim 0 (·.shown + 1) else t
      let inWin := !x.spill || x.window.contains (key / b0.spillSpb dom)
      let ws := ((x.buf.find? (fun e => e.1 == key)).map (·.2)).filter (fun _ => inWin)
      let gapEnds := decide (x.lastValid + 2000000000 ≤ b0.stamp 0)
      let r := x.present k.lanes ws gapEnds
      let x1 := { r.2 with buf := r.2.buf.filter (fun e => key < e.1), xClk := if src then clk.map (fun c => { c with shown := key }) else x.xClk }
      let b1 := b0.setRxs i x1
      let b2 := if x.st = 2 ∧ ws.isNone then (b1.count (Reg.FLW_RX_LOSS i) 0 16 1).flwFault 1 0 i else b1
      let ticks := src && (ws.isSome || (!b2.loom.xStopped && x.st != 1))
      let b3 := if ticks then b2.xTickNow due else b2
      let s := if dom = 2 then b3.loom.xTick else t
      if n = 0 ∨ (src ∧ !ticks) then b3
      else (((below k.lanes).zip r.1).foldl (fun y w => y.deliver (k.firstLane + w.1) s w.2) b3)

/-- SKEIN_GAP_TIMEOUT: no valid packet on any path for 250 ms in GAP (R297). -/
def Block.gapTimeout (i : Nat) (b : Block) : Block :=
  let x := b.rxs i
  if x.st ≠ 3 then b
  else
    let due := x.lastValid + 2000000000
    let b1 := b.afterNs ((due - b.stamp 0) / 8)
    b1.setRxs i x.toWait

/-- PATH_DOWN: a path without a valid packet for max(2 ms, 4 packet times) (R296). -/
def Block.pathDown (i path : Nat) (b : Block) : Block :=
  match b.skein? i with
  | none => b
  | some (k, _, _) =>
    let x := b.rxs i
    let up := if path = 0 then x.aUp else x.bUp
    if !up then b
    else
      let lim := max 16000000 (4 * 8000000000 * (ptime k.ptime).1 / (ptime k.ptime).2)
      let due := (if path = 0 then x.aAt else x.bAt) + lim
      let b1 := b.afterNs ((due - b.stamp 0) / 8)
      (b1.setRxs i (if path = 0 then { x with aUp := false } else { x with bUp := false })).flwFault 3 2 i

/-- The words that the cistern holds for a position of a spilled skein. -/
def Block.spillWords (b : Block) (k : Skin) (n t : Nat) : List Int :=
  (below k.lanes).map (fun l => toS 32 (b.rdLE (b.spillAddr k n t + 4 * l) 4))

/-- SPILL_FETCH: the samples of block `blk` of a spilled skein are read back into its window, which holds two blocks (R300, R301). -/
def Block.spillFetch (i blk : Nat) (b : Block) : Block :=
  match b.skein? i with
  | none => b
  | some (k, dom, n) =>
    let x := b.rxs i
    if !x.spill then b
    else
      let lo := blk * b.spillSpb dom
      let hi := lo + b.spillSpb dom
      let buf := x.buf.map (fun e => if lo ≤ e.1 ∧ e.1 < hi then (e.1, b.spillWords k n e.1) else e)
      let b1 := (buf.filter (fun e => decide (lo ≤ e.1) && decide (e.1 < hi))).foldl
        (fun y e => y.eccNote false 0 (y.spillAddr k n e.1) (4 * k.lanes)) b
      b1.setRxs i { x with buf := buf, window := blk :: (x.window.filter (· != blk)).take 1 }

/-! ## Commit (R297, R300, R302) -/

/-- The words of a receive skein before a commit: of a spilled one outside its window, those that the cistern holds. -/
def Block.heldWords (b : Block) (i : Nat) : List (Nat × List Int) :=
  match b.skein? i with
  | some (k, dom, n) =>
    let x := b.rxs i
    x.buf.map (fun e => if x.spill && !x.window.contains (e.1 / b.spillSpb dom) then (e.1, b.spillWords k n e.1) else e)
  | none => []

/-- The buffer of a skein that a commit does not change goes where the new draft places it, with its words (R300, R302). -/
def Block.respill (was : Bool) (ws : List (Nat × List Int)) (i : Nat) (b : Block) : Block :=
  match b.skein? i with
  | some (k, dom, n) =>
    let x := b.rxs i
    let c := b.tick dom / b.spillSpb dom
    let b1 := b.setRxs i { x with buf := ws, window := if !x.spill then [] else if was then x.window else [c + 1, c] }
    if x.spill then
      ws.foldl (fun y e => y.wrBytes (y.spillAddr k n e.1) (e.2.flatMap (fun w => leBytes 4 (ofS 32 w)))) b1
    else b1
  | none => b

/-- Samples keep their instants when the rate of their domain goes from `u` to `v` (R292); one that falls on no tick of the new rate
is lost (DEDUCED, log entry 43). -/
def reKey (u v : Nat) (ws : List (Nat × List Int)) : List (Nat × List Int) :=
  ws.filterMap (fun e => if u ∣ e.1 * v then some (e.1 * v / u, e.2) else none)

/-- The words that a receive skein holds as a commit counts them that brings F_MULT from `u` to `v`. -/
def Block.heldAt (b : Block) (u v i : Nat) : List (Nat × List Int) :=
  if u ≠ v ∧ (b.skein? i).any (fun q => q.2.1 == 0) then reKey u v (b.heldWords i) else b.heldWords i

/-- The buffers of receive skeins take words that `held` gives for each of them. -/
def Block.refill (held : Nat → List (Nat × List Int)) (b : Block) : Block :=
  ((b.stg.force.elim [] (·.skins)).filter (fun k => decide (k.inst < 128))).foldl (fun x k =>
    x.respill (x.rxs k.inst).spill (held k.inst) k.inst) b

/-- The words that a transmit skein has fetched (R31, step 4) are discarded: it sends zeros for them (R78, R302). -/
def Block.txDiscard (b : Block) (i : Nat) : Block :=
  match b.skein? i with
  | none => b
  | some (k, dom, _) =>
    let t := b.tick dom
    b.setLoom (fun m => { m with sent := (upFrom k.firstLane k.lanes).foldl (fun q l =>
      tmod [] l (fun h => h.map (fun e => if e.1 + 2 ≤ t then (e.1, 0) else e)) q) m.sent })

/-- A skein that a commit configures: its buffer is discarded (R302), its state is WAIT and its offset 0 (R292). -/
def Block.skinConfig (b : Block) (spilled : List Nat) (i : Nat) : Block :=
  if i < 128 then (b.setRxs i { st := 1, spill := spilled.contains i }).setReg (Reg.FLW_RX_OFS i) 0
  else (b.setTxs i { run := true }).txDiscard i

/-- A skein that the draft in force no longer has. -/
def Block.skinRemove (b : Block) (i : Nat) : Block := if i < 128 then b.setRxs i {} else b.setTxs i {}

/-! ## The commands -/

/-- PACKET_RELEASE (R286). -/
def execPacketRelease (j t : Nat) (hopA hopB : Option Bytes) : State → Answer := onBlk (Block.packetRelease j t hopA hopB)
/-- SKEIN_FRAME (R290). -/
def execSkeinFrame (p q : Nat) : State → Answer := onBlk (Block.skeinFrame p q)
/-- PRESENTATION (R297). -/
def execPresentation (i t : Nat) : State → Answer := onBlk (Block.presentation i t)
/-- SKEIN_GAP_TIMEOUT (R297). -/
def execSkeinGapTimeout (i : Nat) : State → Answer := onBlk (Block.gapTimeout i)
/-- PATH_DOWN (R296). -/
def execPathDown (i path : Nat) : State → Answer := onBlk (Block.pathDown i path)
/-- SPILL_FETCH (R301). -/
def execSpillFetch (i blk : Nat) : State → Answer := onBlk (Block.spillFetch i blk)

end Sys2Proof.Machine
end

