-- ==== Sys2Proof/Machine/Gweast.lean ====
section
/-! DEFINITION. What other chapters use of the ports, the pair and the device's mode: levels and the violation log
(spec/16_control_ports.md, R413 to R419), frames that the unit sends over the Gweast link (spec/15_pairing.md, R391 to
R396), readiness and resignation (R400, R402). -/

namespace Sys2Proof.Machine

def Block.setPar (b : Block) (f : Par → Par) : Block := { b with par := f b.par }
def Block.setStg (b : Block) (f : Staging → Staging) : Block := { b with stg := f b.stg }

/-- PWR_MODE.STATE (R466): 0 DORMANT, 1 STANDBY, 2 ACTIVE, 3 RESUMING, 4 LEAVING, 5 BOOT. -/
def Block.mode (b : Block) : Nat := b.rfld Reg.PWR_MODE 0 3

/-- SYS_SEVER.SEVERED (R494). -/
def Block.severed (b : Block) : Bool := b.rbit Reg.SYS_SEVER 31

/-! ## Levels and the violation log (R413 to R419) -/

/-- The level of port p: 0 none, 1 observe, 2 operate, 3 full (R413, R415). -/
def Block.level (b : Block) (p : Nat) : Nat := b.rfld Reg.MBX_PRIV (2 * p) 2

/-- A violation on port p (R417, R419): its log entry, its count, VIOLATION on MBX. -/
def Block.violate (b : Block) (p code kind op w2 w3 : Nat) : Block :=
  let st := Reg.MBX_VLOG_STAT p
  let i := b.rfld st 0 4
  let above := decide (b.reg (Reg.MBX_VLOG p i 1) ≠ 0)
  let b1 := ((b.setReg (Reg.MBX_VLOG p i 0) (b.blk % 2 ^ 32)).setReg (Reg.MBX_VLOG p i 1)
    (code % 256 + kind % 256 * 256 + op % 65536 * 65536)).setReg (Reg.MBX_VLOG p i 2) (w2 % 2 ^ 32)
  let b2 := ((b1.setReg (Reg.MBX_VLOG p i 3) (w3 % 2 ^ 32)).setRfld st 0 4 ((i + 1) % 16)).setRfld st 4 1
    (if above then 1 else b.rfld st 4 1)
  ((b2.count st 16 16 1).setInt Reg.MBX_INT 0).raise srcMBX 1 0 p p

/-! ## The Gweast link (R390 to R396) -/

/-- A fault of R412: record and INT bit. -/
def Block.parFault (b : Block) (code cls : Nat) : Block := (b.setInt Reg.PAR_INT (code - 1)).raise srcPAR code cls 0 0

def Block.gwLane (b : Block) (l : Nat) : GwLane := tget {} b.par.lanes l
def Block.setGwLane (b : Block) (l : Nat) (x : GwLane) : Block := b.setPar (fun p => { p with lanes := tput {} l x p.lanes })

/-- The link is UP while a lane is (R390). -/
def Block.gwUp (b : Block) : Bool := (b.gwLane 0).up || (b.gwLane 1).up

/-- PAIR of the draft in force. -/
def Block.pairCfg (b : Block) : PairCfg := (b.stg.force.bind Draft.pair?).getD {}

/-- Whether the draft in force has PAIR.EN = 1. -/
def Block.paired (b : Block) : Bool := b.stg.force.elim false Draft.pairEn

/-- The bytes of a frame (R392). -/
def gwBytes (type flags seq ack pid blk : Nat) (pay : Bytes) : Bytes :=
  let h := leBytes 1 type ++ leBytes 1 flags ++ leBytes 2 seq ++ leBytes 2 ack ++ leBytes 2 pay.length ++ leBytes 4 pid ++
    leBytes 4 (blk % 2 ^ 32) ++ pay
  h ++ leBytes 4 (crc32c h)

/-- PAIR_ID of a frame: DRAFT frames of SERIAL 0 carry 0 (R482). -/
def Block.gwPid (b : Block) (type : Nat) (pay : Bytes) : Nat :=
  if type = 5 ∧ u64 pay 4 = 0 then 0 else b.reg Reg.PAR_ID

/-- A frame leaves on a lane. -/
def Block.gwOut (b : Block) (l type flags seq : Nat) (pay : Bytes) : Block :=
  b.emit (.gweast l type (gwBytes type flags seq (b.gwLane l).rxSeq (b.gwPid type pay) b.blk pay))

/-- The lane that carries a type (R391). -/
def Block.gwFor (b : Block) (type : Nat) : Option Nat :=
  let home := if type = 4 ∨ type = 5 then 1 else 0
  if (b.gwLane home).up then some home else if (b.gwLane (1 - home)).up then some (1 - home) else none

/-- Send an unreliable frame; a LEASE goes on both lanes while both are UP (R391). -/
def Block.gwSend (b : Block) (type : Nat) (pay : Bytes) : Block :=
  match b.gwFor type with
  | none => b
  | some l =>
    let b1 := b.gwOut l type 0 0 pay
    if type = 1 ∧ l = 0 ∧ (b.gwLane 1).up then b1.gwOut 1 type 0 0 pay else b1

/-- Send a reliable frame on a lane: it joins the unacknowledged frames, of which at most 32 have left (R396). -/
def Block.gwQueue (b : Block) (l type : Nat) (pay : Bytes) : Block :=
  let x := b.gwLane l
  let b1 := b.setGwLane l { x with txSeq := (x.txSeq + 1) % 65536, unacked := x.unacked ++ [{ seq := x.txSeq, type := type, payload := pay, sentAt := b.pclk }] }
  if x.unacked.length < 32 then b1.gwOut l type 0 x.txSeq pay else b1

/-- The frames of a lane from the `i`-th to the 32nd leave now (R396). -/
def Block.gwBurst (b : Block) (l flags i : Nat) : Block :=
  let x := b.gwLane l
  let go := (x.unacked.take 32).drop i
  let y := { x with unacked := (x.unacked.take 32).take i ++ go.map (fun f => { f with sentAt := b.pclk }) ++ x.unacked.drop 32 }
  go.foldl (fun z f => z.gwOut l f.type flags f.seq f.payload) (b.setGwLane l y)

/-- Send a reliable frame; with the link DOWN it is lost (log entry 20). -/
def Block.gwReliable (b : Block) (type : Nat) (pay : Bytes) : Block :=
  match b.gwFor type with
  | none => b
  | some l => b.gwQueue l type pay

/-- A DRAFT frame (R393). -/
def draftPay (kind serial : Nat) (rest : Bytes) : Bytes :=
  leBytes 1 kind ++ leBytes 3 0 ++ leBytes 8 serial ++ leBytes 4 0 ++ rest

/-- DATA frames of a draft or image: 4,092 bytes each, and a last one that is shorter (log entry 21). -/
def dataPays (serial : Nat) : Nat → Nat → Bytes → List Bytes
  | 0, _, _ => []
  | n + 1, o, bs =>
    let p := draftPay 0 serial (leBytes 4 o ++ bs.take 4092)
    if bs.length < 4092 then [p] else p :: dataPays serial n (o + 4092) (bs.drop 4092)

def Block.sendData (b : Block) (serial : Nat) (bs : Bytes) : Block :=
  let pad := bs ++ List.replicate (upTo 4 bs.length - bs.length) 0
  (dataPays serial (pad.length / 4092 + 1) 0 pad).foldl (fun x p => x.gwReliable 5 p) b

def Block.sendPropose (b : Block) (serial n : Nat) : Block := b.gwReliable 5 (draftPay 1 serial (leBytes 8 n))
def Block.sendAnswer (b : Block) (serial code : Nat) : Block := b.gwReliable 5 (draftPay 2 serial (leBytes 4 (code % 256)))
def Block.sendDecide (b : Block) (serial : Nat) (go : Bool) : Block :=
  b.gwReliable 5 (draftPay 3 serial (leBytes 4 (b2n go)))

/-- A LEASE frame (R393): KIND 0 REQUEST, 1 GRANT, 2 RESIGN. -/
def Block.sendLease (b : Block) (kind value expiry : Nat) : Block :=
  b.gwSend 1 (leBytes 1 kind ++ leBytes 1 (b2n b.sys.side) ++ leBytes 2 0 ++ leBytes 8 value ++ leBytes 8 expiry ++ leBytes 4 0)

/-! ## Readiness and resignation (R400, R402) -/

/-- READY (R402). -/
def Block.parReady (b : Block) : Bool :=
  b.paired && !b.severed && b.mode == 2 && b.stg.st != .settling && b.wlh.st != 0

/-- TWIN_READY (R402). -/
def Block.twinReady (b : Block) : Bool :=
  b.gwUp && b.par.twin.seen && b.par.twin.ready && b.stg.force.elim false (fun d => d.serial == b.par.twin.serial)

/-- The first block tick at least 10 us from now (R400). -/
def Block.resignTick (b : Block) : Nat := ceilDiv ((b.tickTime + 10000 * 2 ^ 32) * b.fBlk) secFrac

/-- A holder resigns; unless it is forced to, only when its twin is ready (R400). -/
def Block.resign (b : Block) (forced : Bool) : Block :=
  if b.par.st ≠ 2 then b
  else if !forced && !b.twinReady then b.setInt Reg.PAR_INT 9
  else if b.par.resign.isSome then b
  else
    let f := b.resignTick
    (b.setPar (fun p => { p with resign := some f })).sendLease 2 f (f + b.pairCfg.lease)

end Sys2Proof.Machine
end

