-- ==== Sys2Proof/Machine/Spindle.lean ====
section
/-! DEFINITION. The spindles at work (spec/05_spindle_core.md): starting and ending kernels, instruction fetch, ECC,
isolation, and one command per instruction of spec/06_spindle_isa.md. -/

namespace Sys2Proof.Machine

/-! ## The fault map's response (R214, R215) -/

/-- Every kernel that runs and that the computed placement cannot place stops with NO_PLACE (R215, FULL). -/
def Block.dropUnplaced (b : Block) : Block :=
  (b.crl.run.filter (fun p => !p.dest && p.last.isNone && !(b.crl.computed.any (fun c => c.k == p.k)))).foldl Block.noPlace b

/-- A spindle enters the fault map: its kernels get new places (R215). `iso` when it is isolated; a spindle that is in the map
already then still restarts its kernels. A migration that leaves an isolated spindle ends; one whose destination it is ends at
the next release (R220, R224). -/
def Block.enterFmap (b : Block) (s : Nat) (iso : Bool) : Block :=
  if b.crl.fmap.contains s && !iso then b
  else
    let b1 := (b.setFmap s true).recompute
    let b2 := (b1.crl.migs.filter (fun m => iso && m.src == s)).foldl (fun x m => x.migAbort m 4) b1
    let ps := b2.kernelsOn s
    let b3 := ps.foldl (Block.replace iso)
      (b2.setCrl (fun c => { c with want := c.want.filter (fun w => !(ps.any (fun p => p.k == w.k))) }))
    let b4 := if b3.rbit Reg.CRL_CTRL 0 then
        let x := b3.dropUnplaced
        x.setCrl (fun c => { c with trigger := 1, want := c.computed.filter (fun w =>
          (x.runPlace w.k).elim false (fun p => !(atPlace p w))) })
      else b3
    b4.updConverged

/-- A spindle is taken out of service (R170, R493): it stops, every outtake buffer of its kernels reads 0 from now on, and
it enters the fault map. -/
def Block.isolate (b : Block) (s : Nat) : Block :=
  let b1 := b.setSpn s { b.spn s with run := false, isol := true, todo := [], loops := [] }
  let b2 := b1.clrBit (Reg.SPN_SCTRL (s / 8) (s % 8)) 0
  let b3 := b2.modPlaces (fun p => p.s == s) (fun p => { p with zeroFrom := some 0 })
  b3.enterFmap s true

/-! ## ECC (R147, R170, R214) -/

/-- A fault of a spindle in its work for release `r` makes its migrations abort for which that is a shadow block (R224). -/
def Block.migFault (b : Block) (s r : Nat) : Block :=
  b.setCrl (fun c => { c with migs := c.migs.map (fun m =>
    if m.st = .shadow ∧ (m.src = s ∨ m.dst = s) ∧ m.c + lam ((b.runPlace m.k).elim false (·.l2)) ≤ r then { m with faulted := true }
    else m) })

/-- What ECC finds in the words that an instruction reads (R170). -/
def Block.spnEcc (b : Block) (s : Nat) (e : Ecc) : Block :=
  match e with
  | .ok => b
  | .corr => b.spnCorr s
  | .uncorr =>
      (((b.count (Reg.SPN_ECC_CNT (s / 8)) 16 16 1).migFault s (b.spn s).rel).spnFault s 2 2 0).isolate s

/-! ## Kernels in a block (R151, R159, R163, R202) -/

/-- Start entry i, whose descriptor the release read as `d`, 24 cycles on: the registers of R151. -/
def Block.startEntry (b : Block) (s i : Nat) (d : Desc) : Block :=
  let x := b.spn s
  let blk := x.rel - lam d.l2
  let p := b.spb d.dom
  b.setSpn s { x with
    d := [(0, blk), (1, p), (2, d.nIn), (3, d.nOut), (4, d.k)].foldl (fun t r => tput 0 r.1 (BitVec.ofNat 32 r.2) t) [],
    a := [], m := [], l := [], lc := [], acc := [], bxd := 31, loops := [], dRdy := [], aRdy := [], accRdy := [], posted := [],
    pc := d.pBase, run := true, entry := i, blk := blk, desc := d, todo := x.todo.drop 1, cyc := x.cyc + 24,
    kStart := x.cyc + 24, wrote := [] }

/-- Whether a place is the one that runs as the spindle's present entry. -/
def isRunning (x : Spindle) (s : Nat) (p : Place) : Bool :=
  p.s == s && p.k == x.desc.k && p.pBase == x.desc.pBase && p.first == x.desc.first

/-- The spindle is clock-gated: its cycles and the flags of the block are shown (R167, R170). -/
def Block.gate (b : Block) (s : Nat) : Block :=
  let x := b.spn s
  let c := min x.cyc 0x1FFFF
  let b1 := b.setSpn s { x with run := false, aovLast := x.aov, sovLast := x.sov }
  let b2 := b1.setReg (Reg.SPN_CYC_LAST (s / 8) (s % 8)) c
  if b2.reg (Reg.SPN_CYC_MAX (s / 8) (s % 8)) < c then b2.setReg (Reg.SPN_CYC_MAX (s / 8) (s % 8)) c else b2

/-- The next due entry starts, or the spindle is gated (R159, R167). -/
def Block.nextEntry (b : Block) (s : Nat) : Block :=
  match (b.spn s).todo with
  | e :: _ => b.startEntry s e.1 e.2
  | [] => b.gate s

/-- The outtake buffer of a block of a place. -/
def Block.outBuf (b : Block) (p : Place) (blk : Nat) : Nat × Nat :=
  let spb := b.spb p.dom
  (bufWord (outRing p.basin spb p.nIn p.l2) (ringLen p.l2) p.nOut spb blk 0 0, p.nOut * spb * 4)

/-- The outtake buffer of a block reads 0. -/
def Block.zeroOut (b : Block) (p : Place) (blk : Nat) : Block :=
  let r := b.outBuf p blk
  b.zeroMem r.1 r.2

/-- The areas of a place that a migration copies, as their base, the base in the destination and the size: X, Y, and an S home of tier 1
to 3 (R221). -/
def Place.copied (p q : Place) : List (Nat × Nat × Nat) :=
  [(spnWindow p.s + p.xBase, spnWindow q.s + q.xBase, p.xSize),
   (spnWindow p.s + 0x10000 + p.yBase, spnWindow q.s + 0x10000 + q.yBase, p.ySize)] ++
  (if p.tier = 4 then [] else [(p.home, q.home, p.sSize)])

/-- What of a 64-byte line lies in an area: first and end address. -/
def lineCut (base size l : Nat) : Nat × Nat := (max (64 * l) base, min (64 * l + 64) (base + size))

/-- The source marks lines that K has written, of the areas that a migration copies, while it is in COPY or CATCHUP (R221). -/
def Block.markDirty (b : Block) (k : Nat) (p : Place) (ls : List Nat) : Block :=
  let mine := ls.filter (fun l => (p.copied p).any (fun a => decide ((lineCut a.1 a.2.2 l).1 < (lineCut a.1 a.2.2 l).2)))
  b.setCrl (fun c => { c with migs := c.migs.map (fun m =>
    if m.k = k ∧ m.st ≠ .shadow ∧ !p.dest ∧ p.last.isNone then { m with dirty := (mine ++ m.dirty).eraseDups } else m) })

/-- A migration's verdict on a block that both ends have completed (R222). -/
def Block.verdict (b : Block) (k blk : Nat) : Block :=
  match b.crl.migs.find? (fun m => m.k == k && m.st == .shadow), b.runPlace k,
      b.destPlace k with
  | some m, some p, some q =>
      if m.c ≤ blk ∧ p.doneBlks.contains blk ∧ q.doneBlks.contains blk ∧ !(m.verdicts.any (fun v => v.1 == blk)) then
        let eq := b.rdBytes (b.outBuf p blk).1 (b.outBuf p blk).2 == b.rdBytes (b.outBuf q blk).1 (b.outBuf q blk).2
        b.setCrl (fun c => { c with migs := c.migs.map (fun y =>
          if y.k = k then { y with verdicts := (blk, eq) :: y.verdicts } else y) })
      else b
  | _, _, _ => b

/-- Whether a place's stage-out is suppressed: a destination's until its switch, with tier 4 state at both ends (R222). -/
def Block.noStageOut (b : Block) (p : Place) : Bool := p.dest && p.tier == 4 && (b.runPlace p.k).any (fun q => q.tier == 4)

/-- What a kernel's end for its block leaves: the lines it wrote, the stage-out it owes, and whether it executed WAITB. -/
def Block.noteEnd (b : Block) (s : Nat) (done : Bool) : Block :=
  let x := b.spn s
  let b1 := (b.crl.run.filter (isRunning x s)).foldl (fun y p => y.markDirty p.k p x.wrote) b
  b1.modPlaces (isRunning x s) (fun p => { p with
    wrote := (x.blk, x.wrote) :: p.wrote.take 7,
    outOwed := if p.l2 && !b.noStageOut p then p.outOwed ++ [x.blk] else p.outOwed,
    doneBlks := if done then x.blk :: p.doneBlks.take 7 else p.doneBlks })

/-- WAITB (R185): the kernel ends for the block; its cycles are compared with CYCLES (R170, R202). -/
def Block.waitb (b : Block) (s : Nat) : Block :=
  let x := (b.spn s).issue [] 1
  let used := x.cyc - x.kStart
  let above := decide (x.desc.cycles < used)
  let b1 := (b.setSpn s x).setReg (Reg.SPN_KCYC (s / 8) (s % 8) x.entry) (min used 0x1FFFF + b2n above * 2 ^ 31)
  let b2 := if above then b1.spnFault s 5 0 0 else b1
  let b3 := (b2.setSpn s { b2.spn s with loops := [] }).noteEnd s true
  (b3.verdict x.desc.k x.blk).nextEntry s

/-- ILLEGAL (R170, R172): no effect, the kernel ends its block and runs no further block. -/
def Block.illegal (b : Block) (s : Nat) : Block :=
  let x := b.spn s
  let b1 := (b.migFault s x.rel).spnFault s 4 1 x.pc
  let b2 := b1.modPlaces (isRunning x s)
    (fun p => { p with dead := true, zeroFrom := some (p.zeroFrom.getD x.blk) })
  ((b2.setSpn s { b2.spn s with loops := [] }).noteEnd s false).nextEntry s

/-! ## One instruction -/

/-- The program word at the PC. -/
def Block.spnWord (b : Block) (s : Nat) : Nat := b.rdLE (spnWindow s + 0x20000 + 8 * (b.spn s).pc) 8

/-- Whether the PC lies in the kernel (R168). -/
def pcIn (x : Spindle) : Bool := decide (x.desc.pBase ≤ x.pc) && decide (x.pc < x.desc.pBase + x.desc.pLen)

/-- The data-space words that an instruction reads: address and bytes. -/
def spnReads (o : SpnOp) (x : Spindle) (w : Nat) : List (Nat × Nat) :=
  match o with
  | .ld => [(grpAddr x (grpOf (fld w 42 8)) (toS 16 (fld w 26 16)), 4)]
  | .ldc => [(grpAddr x (grpOf (fld w 42 8)) (toS 16 (fld w 26 16)), 8)]
  | .macComplex | .macConjugate | .macDualReal | .bfly =>
      [(grpAddr x (grpOf (fld w 46 8)) 0, 8), (grpAddr x (grpOf (fld w 38 8)) 0, 8)]
  | _ => []

/-- What ECC finds in the words of its local memories that a spindle's instruction reads: the program word and its operands in X, Y and an
S home there (R147, R170). -/
def Block.localEcc (b : Block) (s : Nat) : Ecc :=
  if b.sys.memErr.isEmpty then .ok
  else
    let x := b.spn s
    let w := b.rdLE (spnWindow s + 0x20000 + 8 * x.pc) 8
    let at' := fun (a : Nat × Nat) =>
      if accessOk (b.spb x.desc.dom) x.desc a.1 a.2 then (physAddr s x (b.spb x.desc.dom) a.1) / 8 else 0
    let ws := ((spnWindow s + 0x20000 + 8 * x.pc) / 8 :: ((spnOpOf w).elim [] (fun o => spnReads o x w)).map at').filter
      (fun q => decide (spnWindow s ≤ 8 * q) && decide (8 * q < spnWindow s + 0x28000))
    let ks := ws.map (fun q => tget 0 b.sys.memErr q)
    if ks.contains 2 then .uncorr else if ks.contains 1 then .corr else .ok

/-- The worse of two ECC results. -/
def Ecc.worse : Ecc → Ecc → Ecc
  | .uncorr, _ => .uncorr
  | _, .uncorr => .uncorr
  | .ok, e => e
  | .corr, _ => .corr

/-- The command of instruction `o` on spindle `s`: the word at the PC is fetched with its ECC result. A gated spindle, or
one whose next word is another legal instruction, does nothing; an illegal word or a fetch outside the kernel is ILLEGAL
(R172). -/
def Block.spnIssue (o : SpnOp) (f : Block → Nat → Nat → Block) (s : Nat) (e : Ecc) (b : Block) : Block :=
  let e' := e.worse (b.localEcc s)
  if !(b.spn s).run then b
  else if e' = .uncorr then b.spnEcc s e'
  else
    let b1 := b.spnEcc s e'
    let x := b1.spn s
    let w := b1.spnWord s
    let bad := (b1.setSpn s (x.issue [] 1)).illegal s
    if !pcIn x then b1.illegal s
    else match spnOpOf w with
      | none => bad
      | some o' => if !spnLegal x o' w then bad else if o' = o then f b1 s w else b1

/-- A command of a non-control instruction. -/
def Block.spnDo (o : SpnOp) (f : Block → Nat → Nat → Block) (s : Nat) (e : Ecc) (b : Block) : Block :=
  b.spnIssue o (fun b s w => spnPlain b s (fun b => f b s w)) s e

/-! ## The commands -/

/-- NOP (R179). -/
def execNop (n : Nat) (e : Ecc) (s : State) : Answer :=
  onBlk (Block.spnDo .nop (fun b k _ => b.setSpn k ((b.spn k).issue [] 1)) n e) s
/-- WAITB (R185). -/
def execWaitb (n : Nat) (e : Ecc) (s : State) : Answer := onBlk (Block.spnIssue .waitb (fun b k _ => b.waitb k) n e) s
/-- BR (R181). -/
def execBr (n : Nat) (e : Ecc) (s : State) : Answer := onBlk (Block.spnIssue .br spnBr n e) s
/-- LOOP (R182). -/
def execLoop (n : Nat) (e : Ecc) (s : State) : Answer := onBlk (Block.spnIssue .loop spnLoop n e) s
/-- BREAK (R184). -/
def execBreak (n : Nat) (e : Ecc) (s : State) : Answer := onBlk (Block.spnIssue .break_ spnBreak n e) s
/-- ADD (R187). -/
def execAdd (n : Nat) (e : Ecc) (s : State) : Answer := onBlk (Block.spnDo .add (fun b k w => spnAlu b k .add w) n e) s
/-- SUB (R187). -/
def execSub (n : Nat) (e : Ecc) (s : State) : Answer := onBlk (Block.spnDo .sub (fun b k w => spnAlu b k .sub w) n e) s
/-- ADDS (R187). -/
def execAdds (n : Nat) (e : Ecc) (s : State) : Answer := onBlk (Block.spnDo .adds (fun b k w => spnAlu b k .adds w) n e) s
/-- SUBS (R187). -/
def execSubs (n : Nat) (e : Ecc) (s : State) : Answer := onBlk (Block.spnDo .subs (fun b k w => spnAlu b k .subs w) n e) s
/-- AND (R187). -/
def execAnd (n : Nat) (e : Ecc) (s : State) : Answer := onBlk (Block.spnDo .and_ (fun b k w => spnAlu b k .and_ w) n e) s
/-- OR (R187). -/
def execOr (n : Nat) (e : Ecc) (s : State) : Answer := onBlk (Block.spnDo .or_ (fun b k w => spnAlu b k .or_ w) n e) s
/-- XOR (R187). -/
def execXor (n : Nat) (e : Ecc) (s : State) : Answer := onBlk (Block.spnDo .xor_ (fun b k w => spnAlu b k .xor_ w) n e) s
/-- SHL (R187). -/
def execShl (n : Nat) (e : Ecc) (s : State) : Answer := onBlk (Block.spnDo .shl (fun b k w => spnAlu b k .shl w) n e) s
/-- ASR (R187). -/
def execAsr (n : Nat) (e : Ecc) (s : State) : Answer := onBlk (Block.spnDo .asr (fun b k w => spnAlu b k .asr w) n e) s
/-- LSR (R187). -/
def execLsr (n : Nat) (e : Ecc) (s : State) : Answer := onBlk (Block.spnDo .lsr (fun b k w => spnAlu b k .lsr w) n e) s
/-- MIN (R187). -/
def execMin (n : Nat) (e : Ecc) (s : State) : Answer := onBlk (Block.spnDo .min_ (fun b k w => spnAlu b k .min_ w) n e) s
/-- MAX (R187). -/
def execMax (n : Nat) (e : Ecc) (s : State) : Answer := onBlk (Block.spnDo .max_ (fun b k w => spnAlu b k .max_ w) n e) s
/-- ABS (R187). -/
def execAbs (n : Nat) (e : Ecc) (s : State) : Answer := onBlk (Block.spnDo .abs_ (fun b k w => spnAlu b k .abs_ w) n e) s
/-- NEG (R187). -/
def execNeg (n : Nat) (e : Ecc) (s : State) : Answer := onBlk (Block.spnDo .neg (fun b k w => spnAlu b k .neg w) n e) s
/-- MULF (R187). -/
def execMulf (n : Nat) (e : Ecc) (s : State) : Answer := onBlk (Block.spnDo .mulf (fun b k w => spnAlu b k .mulf w) n e) s
/-- MULI (R187). -/
def execMuli (n : Nat) (e : Ecc) (s : State) : Answer := onBlk (Block.spnDo .muli (fun b k w => spnAlu b k .muli w) n e) s
/-- MAC, complex form (R189). -/
def execMacComplex (n : Nat) (e : Ecc) (s : State) : Answer :=
  onBlk (Block.spnDo .macComplex (fun b k w => spnMac b k .macComplex w) n e) s
/-- MAC, conjugate form (R189). -/
def execMacConjugate (n : Nat) (e : Ecc) (s : State) : Answer :=
  onBlk (Block.spnDo .macConjugate (fun b k w => spnMac b k .macConjugate w) n e) s
/-- MAC, dual-real form (R189). -/
def execMacDualReal (n : Nat) (e : Ecc) (s : State) : Answer :=
  onBlk (Block.spnDo .macDualReal (fun b k w => spnMac b k .macDualReal w) n e) s
/-- LD (R191). -/
def execLd (n : Nat) (e : Ecc) (s : State) : Answer := onBlk (Block.spnDo .ld (fun b k w => spnLoad b k 1 w) n e) s
/-- ST (R191). -/
def execSt (n : Nat) (e : Ecc) (s : State) : Answer := onBlk (Block.spnDo .st (fun b k w => spnStore b k 1 w) n e) s
/-- LDC (R191). -/
def execLdc (n : Nat) (e : Ecc) (s : State) : Answer := onBlk (Block.spnDo .ldc (fun b k w => spnLoad b k 2 w) n e) s
/-- STC (R191). -/
def execStc (n : Nat) (e : Ecc) (s : State) : Answer := onBlk (Block.spnDo .stc (fun b k w => spnStore b k 2 w) n e) s
/-- STA (R192). -/
def execSta (n : Nat) (e : Ecc) (s : State) : Answer := onBlk (Block.spnDo .sta spnSta n e) s
/-- LDI (R193). -/
def execLdi (n : Nat) (e : Ecc) (s : State) : Answer := onBlk (Block.spnDo .ldi spnLdi n e) s
/-- MOV (R193). -/
def execMov (n : Nat) (e : Ecc) (s : State) : Answer := onBlk (Block.spnDo .mov spnMov n e) s
/-- LDACC (R194). -/
def execLdacc (n : Nat) (e : Ecc) (s : State) : Answer := onBlk (Block.spnDo .ldacc spnLdacc n e) s
/-- AUPD (R194). -/
def execAupd (n : Nat) (e : Ecc) (s : State) : Answer := onBlk (Block.spnDo .aupd spnAupd n e) s
/-- EXP (R196). -/
def execExp (n : Nat) (e : Ecc) (s : State) : Answer := onBlk (Block.spnDo .exp spnExp n e) s
/-- EXPA (R196). -/
def execExpa (n : Nat) (e : Ecc) (s : State) : Answer := onBlk (Block.spnDo .expa spnExpa n e) s
/-- NORM (R196). -/
def execNorm (n : Nat) (e : Ecc) (s : State) : Answer := onBlk (Block.spnDo .norm spnNorm n e) s
/-- BXDR (R197). -/
def execBxdr (n : Nat) (e : Ecc) (s : State) : Answer := onBlk (Block.spnDo .bxdr spnBxdr n e) s
/-- ACLR (R197). -/
def execAclr (n : Nat) (e : Ecc) (s : State) : Answer := onBlk (Block.spnDo .aclr spnAclr n e) s
/-- BFLY (R199). -/
def execBfly (n : Nat) (e : Ecc) (s : State) : Answer := onBlk (Block.spnDo .bfly spnBfly n e) s

end Sys2Proof.Machine
end

