-- ==== Sys2Proof/Machine/Release.lean ====
section
/-! DEFINITION. Releases, staging and the creel at work (spec/05_spindle_core.md R159 to R167, spec/07_creel_placement.md
R214 to R225): what happens at each release of a domain, the staging engine, the fault map's commands, restarts and
migrations. -/

namespace Sys2Proof.Machine

/-! ## Releases (R159, R163, R165, R166) -/

/-- The valid entries of a run list at a basin offset, with their positions (R159). -/
def Block.listAt (b : Block) (s ofs : Nat) : Nat → Nat → List (Nat × Desc)
  | 0, _ => []
  | n + 1, i =>
      let d := descOf (b.rdBytes (basinBase (s / 8) + ofs + 64 * i) 64)
      if d.valid then (i, d) :: b.listAt s ofs n (i + 1) else []

/-- The domain a run list serves; an empty one serves none. -/
def listDom (l : List (Nat × Desc)) : Option Nat := l.head?.map (·.2.dom)

def Block.curList (b : Block) (s : Nat) : List (Nat × Desc) :=
  b.listAt s (b.reg (Reg.SPN_RL_PTR (s / 8) (s % 8))) 32 0

/-- Whether the armed switch of a spindle falls at release r (R166). -/
def Block.armed (b : Block) (s r : Nat) : Bool :=
  b.rlArm s &&
  decide (b.reg64 (Reg.SPN_RL_AT_LO (s / 8) (s % 8)) (Reg.SPN_RL_AT_HI (s / 8) (s % 8)) ≤ r)

/-- The place of a descriptor on a spindle. -/
def isPlace (s : Nat) (d : Desc) (p : Place) : Bool := p.s == s && p.k == d.k && p.pBase == d.pBase && p.first == d.first

def Block.placeOfDesc (b : Block) (s : Nat) (d : Desc) : Place := (b.crl.run.find? (isPlace s d)).getD {}

/-- The places of a spindle take the positions of their entries in the list that comes into force. -/
def Block.renumber (b : Block) (s : Nat) (l : List (Nat × Desc)) : Block :=
  b.setCrl (fun c => { c with run := c.run.map (fun p =>
    if p.s == s then (l.find? (fun e => isPlace s e.2 p)).elim p (fun e => { p with entry := e.1 }) else p) })

/-- The outtake of a descriptor's block reads 0. -/
def Block.zeroDesc (b : Block) (s blk : Nat) (d : Desc) : Block :=
  match b.crl.run.find? (isPlace s d) with
  | some p => b.zeroOut p blk
  | none => b

/-- LATE (R163): the kernel still running at the next release is ended, and the entries after it are skipped. -/
def Block.lateCheck (dom r : Nat) (b : Block) (s : Nat) : Block :=
  let x := b.spn s
  if !(x.run && x.desc.dom == dom && decide (x.rel < r)) then b
  else
    let b1 := (x.todo.foldl (fun y e => y.zeroDesc s (x.rel - lam e.2.l2) e.2) b).noteEnd s false
    let b2 := b1.zeroDesc s x.blk x.desc
    let b3 := ((b2.count (Reg.SPN_LATE_CNT (s / 8) (s % 8)) 0 16 1).migFault s x.rel).spnFault s 6 1 0
    (b3.setSpn s { b3.spn s with todo := [], loops := [] }).gate s

/-- A kernel is due on a bobbin that sleeps: WAKE_LATE, which the bobbin raises once for a wake that is late (R170, R463). -/
def Block.wakeLate (s r e : Nat) (b : Block) : Block :=
  let b1 := b.migFault s r
  if b.crl.late.contains (s / 8) then b1
  else (b1.setCrl (fun c => { c with late := s / 8 :: c.late })).spnFaultAt s e 8 1 0

/-- A due entry runs unless it may run no more, its bobbin sleeps (WAKE_LATE) or its segment is not staged (R165). -/
def Block.dueEntry (s r : Nat) (a : Block × List (Nat × Desc)) (e : Nat × Desc) : Block × List (Nat × Desc) :=
  let b := a.1
  let p := b.placeOfDesc s e.2
  if p.dead then a
  else if !b.bobbinOn (s / 8) then (b.wakeLate s r e.1, a.2)
  else if e.2.l2 && decide (e.2.sSize ≠ 0) && !p.staged.contains (r - lam e.2.l2) then
    (((b.count (Reg.SPN_LATE_CNT (s / 8) (s % 8)) 16 16 1).migFault s r).spnFaultAt s e.1 7 1 0, a.2)
  else (b, a.2 ++ [e])

/-- Whether an entry is due at release r (R160). -/
def dueAt (r : Nat) (d : Desc) : Bool := decide (d.first ≤ r - lam d.l2) && decide (r - lam d.l2 ≤ d.last) && decide (lam d.l2 ≤ r)

/-- Entries that do not run in a block use no cycles in it: SPN_KCYC. -/
def Block.idleCyc (s : Nat) (todo : List Nat) (b : Block) : Block :=
  (below 32).foldl (fun y i =>
    let a := Reg.SPN_KCYC (s / 8) (s % 8) i
    if todo.contains i ∨ y.reg a = 0 then y else y.setReg a 0) b

/-- One spindle at release r of a domain: it switches run lists where a switch is armed, enabled or not (R166), and runs where it is
enabled. -/
def Block.releaseSpn (dom r : Nat) (b : Block) (s : Nat) : Block :=
  let c := Reg.SPN_SCTRL (s / 8) (s % 8)
  let idle := !b.rbit c 0 || (b.spn s).isol
  if idle && !b.armed s r then b
  else
    let cur := b.curList s
    let nxt := if b.armed s r then b.listAt s (b.reg (Reg.SPN_RL_NXT (s / 8) (s % 8))) 32 0 else cur
    if (listDom cur).getD ((listDom nxt).getD 0) ≠ dom then b
    else
      let b1 := if b.armed s r then
          ((b.setReg (Reg.SPN_RL_PTR (s / 8) (s % 8)) (b.reg (Reg.SPN_RL_NXT (s / 8) (s % 8)))).clrBit c 1).renumber s nxt
        else b
      if idle then b1
      else if listDom nxt ≠ some dom then
        ((b1.idleCyc s []).setSpn s { b1.spn s with rel := r, cyc := 64, todo := [], aov := false, sov := false }).gate s
      else
        let q := (nxt.filter (fun e => dueAt r e.2)).foldl (Block.dueEntry s r) (b1, [])
        ((q.1.idleCyc s (q.2.map (·.1))).setSpn s { q.1.spn s with rel := r, cyc := 64, todo := q.2, aov := false, sov := false }).nextEntry s

/-- Places whose last words no pass will read again are forgotten (R76, R223). -/
def Block.dropPlaces (b : Block) (dom r : Nat) : Block :=
  b.setCrl (fun c => { c with run := c.run.filter (fun p =>
    !(p.dom == dom && p.last.elim false (fun l => decide (l + 2 * lam p.l2 + 2 ≤ r)))) })

/-- Entries that the next release no longer lists leave the run list there (R166), unless a switch is armed already. -/
def Block.trimList (dom r : Nat) (b : Block) (s : Nat) : Block :=
  if b.rlArm s ∨ (b.spn s).isol then b
  else if b.crl.run.any (fun p => p.s == s && p.dom == dom && ((p.inList r && !p.inList (r + 1)) || (p.ended && p.listed))) then
    b.armList s (r + 1)
  else b

/-- The destinations of aborted migrations whose entries have left, or leave with this release, are forgotten (R224). -/
def Block.dropEnded (b : Block) (dom : Nat) : Block :=
  b.setCrl (fun c => { c with run := c.run.filter (fun p => !(p.dom == dom && p.ended && !p.listed)) })

/-- At release r every place's outtake buffer for the block that it is to process starts at 0: a word that its kernel does not write
reads 0 (R161). -/
def Block.clearOut (dom r : Nat) (b : Block) : Block :=
  (b.crl.run.filter (fun p => p.dom == dom && decide (lam p.l2 ≤ r) && p.takes (r - lam p.l2))).foldl
    (fun x p => x.zeroOut p (r - lam p.l2)) b

/-! ## Staging (R164, R165) -/

/-- Offset of the staging copy of a block in the buffer area of a place. -/
def Block.stageBase (b : Block) (p : Place) (blk : Nat) : Nat :=
  let spb := b.spb p.dom
  outRing p.basin spb p.nIn p.l2 + upTo 64 (ringLen p.l2 * p.nOut * spb * 4) + (blk % 2) * upTo 64 p.sSize

/-- A stage-out that a stage-in for a block waits for: of an earlier block from the same copy, or to the same state slot (R164, R165). -/
def Block.owesOut (b : Block) (p : Place) (blk : Nat) : Bool :=
  b.crl.run.any (fun q => q.k == p.k && q.home == p.home && q.outOwed.any (fun o => decide (o < blk) && o % 2 == blk % 2))

/-- STAGE_IN of a kernel for a block, in interval blk + 1: every place that processes it takes its whole segment, unless a stage-out that
comes before it is owed (R164, R165). Out of its interval nothing is staged. -/
def Block.stageIn (k blk : Nat) (b : Block) : Block :=
  (b.crl.run.filter (fun p => p.k == k && p.l2 && p.takes blk && !p.dead && b.release p.dom == blk + 1)).foldl (fun x p =>
    if b.owesOut p blk then x
    else (x.copyBy (3 + p.s / 8) p.home (x.stageBase p blk) p.sSize).modPlaces (fun q => q == p)
      (fun q => { q with staged := blk :: q.staged.take 7 })) b

/-- The part of a 64-byte line that lies in an area goes to the same place of another area, as master `m`. -/
def Block.copyLine (m src dst size : Nat) (b : Block) (l : Nat) : Block :=
  let r := lineCut src size l
  if r.1 < r.2 then b.copyBy m r.1 (dst + (r.1 - src)) (r.2 - r.1) else b

/-- STAGE_OUT of a kernel for a block, from interval blk + 3 on: the 64-byte lines that the block wrote go home (R164, R165). The lines of the
home that it writes are marked for a migration (R221). -/
def Block.stageOut (k blk : Nat) (b : Block) : Block :=
  (b.crl.run.filter (fun p => p.k == k && p.l2 && p.outOwed.contains blk && decide (blk + 3 ≤ b.release p.dom))).foldl (fun x p =>
    let base := x.stageBase p blk
    let ls := (p.wrote.find? (fun w => w.1 == blk)).elim [] (·.2)
    let x1 := (ls.foldl (Block.copyLine (3 + p.s / 8) base p.home p.sSize) x).markDirty k p
      (ls.flatMap (fun l => let r := lineCut base p.sSize l; [(p.home + (r.1 - base)) / 64, (p.home + (r.2 - 1 - base)) / 64]))
    x1.modPlaces (fun q => q == p) (fun q => { q with outOwed := q.outOwed.filter (· != blk) })) b

/-! ## The fault map's commands (R214) -/

/-- FORCE: a write of CRL_FORCE_LO (`i` = 0) or CRL_FORCE_HI. -/
def Block.forceWrite (i v : Nat) (b : Block) : Block :=
  let a := if i = 0 then Reg.CRL_FORCE_LO else Reg.CRL_FORCE_HI
  let b1 := b.setReg a v
  (below 32).foldl (fun x k => if bit v k then x.enterFmap (32 * i + k) false else x) b1

/-- RETIRE: a spindle's corrected errors have reached CRL_ECC_THR within 1 s. -/
def Block.retire (s : Nat) (b : Block) : Block :=
  let thr := b.reg Reg.CRL_ECC_THR % 65536
  let t := b.now / 2 ^ 32
  let n := ((tget [] b.crl.eccAt s).filter (fun x => decide (t < x + 1000000000))).length
  if thr = 0 ∨ n < thr then b
  else ((b.setCrl (fun c => { c with eccAt := tput [] s [] c.eccAt })).crlFault 6 0 s 0).enterFmap s false

/-- RETURN: a write of CRL_RETURN requests the memory tests. -/
def Block.returnWrite (i v : Nat) (b : Block) : Block :=
  b.orReg (if i = 0 then Reg.CRL_RETURN_LO else Reg.CRL_RETURN_HI) (v % 2 ^ 32)

/-- RETURN_TEST_DONE: the test ends; a spindle that passes and is not forced leaves the fault map. -/
def Block.returnDone (s : Nat) (pass : Bool) (b : Block) : Block :=
  let ra := if s < 32 then Reg.CRL_RETURN_LO else Reg.CRL_RETURN_HI
  let fa := if s < 32 then Reg.CRL_FORCE_LO else Reg.CRL_FORCE_HI
  if !b.rbit ra (s % 32) then b
  else
    let b1 := b.clrBit ra (s % 32)
    if pass && !b.rbit fa (s % 32) then
      (((b1.setFmap s false).setSpn s { b1.spn s with isol := false }).recompute).updConverged
    else b1

/-! ## Restarts (R215) -/

/-- A place of a restart as the placement gives it. -/
def Place.cplace (p : Place) : CPlace :=
  { k := p.k, s := p.s, tier := p.tier, pBase := p.pBase, xBase := p.xBase, yBase := p.yBase, area := p.area, sHome := p.sHome, entry := p.entry }

/-- RESTART_LOAD: loading ends, and the kernel processes as its first block the one that the next release assigns to it. A
place whose spindle has entered the fault map since is replaced; one whose bobbin sleeps waits (R217), and one without room beside
the kernels that run (R146, R205). -/
def Block.restartLoad (k : Nat) (b : Block) : Block :=
  match (b.crl.restarts ++ b.crl.waits).find? (fun p => p.k == k), b.stg.force.bind (fun d => d.kern? k) with
  | some p, some kn =>
      let b1 := b.setCrl (fun c => { c with restarts := c.restarts.filter (fun q => q.k != k), waits := c.waits.filter (fun q => q.k != k) })
      if b.crl.fmap.contains p.s then b1.replace true p
      else if !fitsAt b1.occ kn p.cplace then b
      else if !b.bobbinOn (p.s / 8) then b
      else
        let r := b.release p.dom + 1
        let q := { p with first := r - lam p.l2, outFrom := r - lam p.l2, entry := (b.crl.run.filter (fun x => x.s == p.s)).length }
        (((b1.loadKernel (b1.spb p.dom) kn q).setCrl (fun c => { c with run := c.run ++ [q] })).armList p.s r).updConverged
  | _, _ => b

/-! ## Migrations (R219 to R224) -/

/-- Whether the target of a migration passes R205 against the running occupancy, no gap being reused. -/
def Block.targetFits (b : Block) (k : Kern) (c : CPlace) : Bool := fitsAt b.occ k c

/-- A migration of kernel k to c begins in COPY (R220); the copy itself starts once the target's bobbin is awake (R217). -/
def Block.startMig (b : Block) (k : Kern) (c : CPlace) (trigger retries : Nat) : Block :=
  match b.runPlace k.id with
  | none => b
  | some p =>
      let q := { placeOf k c noLast with dest := true, listed := false }
      let m : Mig := { k := k.id, src := p.s, dst := c.s, trigger := trigger, retries := retries }
      (b.setCrl (fun r => { r with run := r.run ++ [q], stuck := false, migs := r.migs ++ [m] })).wakeBobbin c.s

/-- Whether the migration engine may start one more (R219). -/
def Block.mayMigrate (b : Block) : Bool := !b.crl.held && decide (b.crl.migs.length < min 8 (b.rfld Reg.CRL_CTRL 4 4))

/-- MIGRATION_START (R219): the first kernel in placement order that wants another place and whose target fits begins,
within MAXMIG; when none can and none is in progress, the creel is STUCK. -/
def Block.migrationStart (b : Block) : Block :=
  match b.stg.force with
  | none => b
  | some d =>
    let want := (placeOrder d).filterMap (fun k => (b.crl.want.find? (fun c => c.k == k.id)).map (fun c => (k, c)))
    let left := want.filter (fun w => (b.runPlace w.1.id).elim false (fun p => !(atPlace p w.2)))
    let free := left.filter (fun w => !(b.crl.migs.any (fun m => m.k == w.1.id)) && !b.crl.pinned.contains w.1.id &&
      !(b.crl.retry.any (fun r => r.1 == w.1.id)))
    if b.crl.held ∨ left.isEmpty then b
    else match free.find? (fun w => b.mayMigrate && b.targetFits w.1 w.2 && !(b.crl.fmap.contains w.2.s)) with
      | some w => b.startMig w.1 w.2 b.crl.trigger 0
      | none => if b.crl.migs.isEmpty && b.crl.retry.isEmpty && !b.crl.stuck then
          b.crlStuck ((b.runPlace (left.head?.elim 0 (·.1.id))).elim 0 (·.s)) (left.head?.elim 0 (·.1.id)) else b

/-- Copy a place's program and areas to another place of the same kernel (R221). -/
def Block.copyPlace (b : Block) (p q : Place) : Block :=
  let b1 := b.copyMem (spnWindow p.s + 0x20000 + 8 * p.pBase) (spnWindow q.s + 0x20000 + 8 * q.pBase) (8 * p.progWords)
  let b2 := b1.copyMem (spnWindow p.s + p.xBase) (spnWindow q.s + q.xBase) p.xSize
  let b3 := b2.copyMem (spnWindow p.s + 0x10000 + p.yBase) (spnWindow q.s + 0x10000 + q.yBase) p.ySize
  if p.tier = 4 then b3 else b3.copyBy 12 p.home q.home p.sSize

/-- Copy lines that the source has written to the destination again (R221). -/
def Block.copyLines (b : Block) (p q : Place) (ls : List Nat) : Block :=
  (p.copied q).foldl (fun x a => ls.foldl (Block.copyLine 12 a.1 a.2.1 a.2.2) x) b

/-! ## Evaluation at a release (R220 to R225) -/

def Block.putMig (b : Block) (m : Mig) : Block :=
  b.setCrl (fun c => { c with migs := c.migs.map (fun y => if y.k == m.k then m else y) })

/-- The shadow block of a migration in CATCHUP becomes `c`, from whose intake window on the destination takes words (R222). -/
def Block.shadowFrom (b : Block) (m : Mig) (c : Nat) : Block :=
  (b.putMig { m with c := c, caught := none }).modPlaces (fun q => q.k == m.k && q.dest && !q.ended) (fun q => { q with first := c, outFrom := c })

/-- COPY at release `r`: `done` says that every line has been copied once. With no more than CRL_MIG_CFG.CATCH lines written in the last block
it goes on to CATCHUP; else they are copied again (R220, R221). -/
def Block.migCopy (b : Block) (m : Mig) (p : Place) (r : Nat) (done : Bool) : Block :=
  match b.destPlace m.k with
  | some q =>
      if !done || !b.bobbinOn (m.dst / 8) then b.putMig { m with dirty := [] }
      else
        let b1 := b.copyPlace p q
        if m.dirty.length ≤ b.rfld Reg.CRL_MIG_CFG 0 8 then b1.shadowFrom { m with st := .catchup } r
        else b1.putMig { m with dirty := [] }
  | none => b

/-- CATCHUP at release `r` (R220). A migration whose destination cannot be listed at this release, as another switch is armed there, waits one
release, with the next block for its shadow block (R225; log entry 40). -/
def Block.migCatch (b : Block) (m : Mig) (p : Place) (r : Nat) : Block :=
  let tries := b.rfld Reg.CRL_MIG_CFG 16 8
  if m.caught = some true then
    if b.rlArm m.dst then b.shadowFrom m (m.c + 1)
    else
      let e := maxOf ((b.crl.run.filter (fun x => x.s == m.dst && x.listed)).map (·.entry + 1)) 0
      ((b.putMig { m with st := .shadow }).modPlaces (fun q => q.k == m.k && q.dest && !q.ended)
        (fun q => { q with listed := true, entry := e })).armList m.dst r
  else if m.caught.isNone ∧ r < m.c + lam p.l2 then b
  else
    let n := if m.caught.isNone then m.fails + 1 else m.fails
    if tries ≤ n then b.migAbort { m with fails := n } 2 else b.shadowFrom { m with fails := n } (m.c + 1)

/-- SHADOW at release `r` (R220): a switch waits while another is armed on the source's spindle (R225). A kernel that switches to a spindle in
the fault map leaves it again (R215). -/
def Block.migShadow (b : Block) (m : Mig) (p : Place) (r : Nat) : Block :=
  let ok := fun (k : Nat) => m.verdicts.any (fun v => v.1 == k && v.2)
  if ok (r - lam p.l2 - 1) && ok (r - lam p.l2 - 2) && !b.rlArm m.src then
    let b1 := b.migSwitch m r
    if b.crl.fmap.contains m.dst then (b1.runPlace m.k).elim b1 (Block.replace (b.spn m.dst).isol b1) else b1
  else if m.verdicts.any (fun v => !v.2) then b.migAbort m 1
  else if m.faulted then b.migAbort m 4
  else if b.crl.fmap.contains m.dst then b.migAbort m 5
  else if m.c + lam p.l2 + b.rfld Reg.CRL_MIG_CFG 8 4 ≤ r then b.migAbort m 3
  else b

/-- One migration evaluated at release `r` of its domain, in the row order of R220; `copied` lists the kernels of whose areas every line has
been copied once. -/
def Block.migStep (b : Block) (dom r : Nat) (copied : List Nat) (m : Mig) : Block :=
  match b.runPlace m.k with
  | none => b.setCrl (fun c => { c with migs := c.migs.filter (fun x => x.k != m.k) })
  | some p =>
    let lost := b.crl.fmap.contains m.dst
    if p.dom ≠ dom then b
    else match m.st with
      | .copy => if lost && !copied.contains m.k then b.migAbort m 5 else b.migCopy m p r (copied.contains m.k)
      | .catchup => if lost then b.migAbort m 5 else b.migCatch m p r
      | .shadow => b.migShadow m p r

/-- CATCH_UP (R221): after the source's WAITB for block c - 1 the remaining dirty lines are copied, or the catch-up fails. -/
def Block.catchUp (k : Nat) (ok : Bool) (b : Block) : Block :=
  match b.crl.migs.find? (fun m => m.k == k && m.st == .catchup), b.runPlace k, b.destPlace k with
  | some m, some p, some q =>
      if m.caught.isSome ∨ !p.doneBlks.contains (m.c - 1) then b
      else if ok then (b.copyLines p q m.dirty).putMig { m with caught := some true, dirty := [] }
      else b.putMig { m with caught := some false, fails := m.fails + 1 }
  | _, _, _ => b

/-- MIGRATION_RETRY (R224): 16 blocks after its abort a migration is tried again. -/
def Block.migrationRetry (k : Nat) (b : Block) : Block :=
  match b.crl.retry.find? (fun r => r.1 == k), b.stg.force.bind (fun d => d.kern? k), b.crl.want.find? (fun c => c.k == k) with
  | some (_, n, at', tr), some kn, some c =>
      let b0 := b.toBlk at'
      let b1 := b0.setCrl (fun x => { x with retry := x.retry.filter (fun r => r.1 != k) })
      if b1.mayMigrate && b1.targetFits kn c && !(b1.crl.fmap.contains c.s) then b1.startMig kn c tr n
      else if 3 ≤ n then (b1.setCrl (fun x => { x with pinned := k :: x.pinned })).crlStuck ((b1.runPlace k).elim 0 (·.s)) k
      else b1.setCrl (fun x => { x with retry := x.retry ++ [(k, n + 1, at' + 16, tr)] })
  | some _, _, _ => b.setCrl (fun x => { x with retry := x.retry.filter (fun r => r.1 != k) })
  | _, _, _ => b

/-- REPACK_REQUEST (R219): kernels are to move to the computed placement; migrations to another place are aborted, and
kernels without a place that now have one restart. -/
def Block.repack (b : Block) : Block :=
  match b.stg.force with
  | none => b
  | some d =>
    let b1 := b.recompute
    let b2 := (b1.crl.migs.filter (fun m =>
        match b1.crl.computed.find? (fun c => c.k == m.k), b1.destPlace m.k with
        | some c, some q => !(atPlace q c)
        | _, _ => true)).foldl (fun x m => x.migAbort m 6) b1
    let b3 := b2.crl.noPlace.foldl (fun x k =>
      match d.kern? k, x.crl.computed.find? (fun c => c.k == k) with
      | some kn, some c => (x.setCrl (fun r => { r with noPlace := r.noPlace.filter (· != k) })).loadBegin kn c
      | _, _ => x) b2
    (b3.wantComputed 2).updConverged

/-- RELEASE (R159): kernels that are late end, migrations are evaluated, every enabled spindle of the domain starts its
due kernels, and old entries leave the lists. `copied` lists the kernels whose COPY is complete with a small dirty set (R220). -/
def Block.releaseAt (dom r : Nat) (copied : List Nat) (b : Block) : Block :=
  let b0 := (b.toRelease dom r).dropEnded dom
  let b3 := b0.sameCycle (fun x =>
    let b1 := (below 64).foldl (Block.lateCheck dom r) x
    let b2 := b1.crl.migs.foldl (fun y m => y.migStep dom r copied m) b1
    (below 64).foldl (Block.releaseSpn dom r) (b2.clearOut dom r))
  ((below 64).foldl (Block.trimList dom r) b3).dropPlaces dom r

/-! ## The commands -/

/-- RELEASE (R159). -/
def execRelease (dom r : Nat) (copied : List Nat) (s : State) : Answer := onBlk (Block.releaseAt dom r copied) s
/-- STAGE_IN (R164). -/
def execStageIn (k blk : Nat) (s : State) : Answer := onBlk (Block.stageIn k blk) s
/-- STAGE_OUT (R164). -/
def execStageOut (k blk : Nat) (s : State) : Answer := onBlk (Block.stageOut k blk) s
/-- FORCE (R214). -/
def execForce (i v : Nat) (s : State) : Answer := onReg (if i = 0 then Reg.CRL_FORCE_LO else Reg.CRL_FORCE_HI) true (Block.forceWrite i v) s
/-- RETIRE (R214). -/
def execRetire (n : Nat) (s : State) : Answer := onBlk (Block.retire n) s
/-- RETURN (R214). -/
def execReturn (i v : Nat) (s : State) : Answer := onReg (if i = 0 then Reg.CRL_RETURN_LO else Reg.CRL_RETURN_HI) true (Block.returnWrite i v) s
/-- RETURN_TEST_DONE (R214). -/
def execReturnTestDone (n : Nat) (pass : Bool) (s : State) : Answer := onBlk (Block.returnDone n pass) s
/-- RESTART_LOAD (R215). -/
def execRestartLoad (k : Nat) (s : State) : Answer := onBlk (Block.restartLoad k) s
/-- REPACK_REQUEST (R219). -/
def execRepackRequest (s : State) : Answer := onReg Reg.CRL_CTRL true Block.repack s
/-- MIGRATION_START (R219). -/
def execMigrationStart (s : State) : Answer := onBlk Block.migrationStart s
/-- CATCH_UP (R221). -/
def execCatchUp (k : Nat) (ok : Bool) (s : State) : Answer := onBlk (Block.catchUp k ok) s
/-- MIGRATION_RETRY (R224). -/
def execMigrationRetry (k : Nat) (s : State) : Answer := onBlk (Block.migrationRetry k) s

end Sys2Proof.Machine
end

