-- ==== Sys2Proof/Machine/Rill.lean ====
section
/-! DEFINITION. The rills (spec/13_rills.md): frames, roles and clocks, slips, loss, glitches and rate changes, and slot
masks (R355 to R369). -/

namespace Sys2Proof.Machine

/-- A fault of a rill (R369). -/
def Block.rilFault (b : Block) (code cls n : Nat) : Block := (b.setInt Reg.RIL_INT (code - 1)).raise srcRIL code cls n n

/-- The audio master's rate (R68, R358): 8,192 f_blk. -/
def Block.fAm (b : Block) : Nat := 8192 * b.fBlk

/-- RIL_DIV of a master rill (R358): D = f_am / (RATE x FRAME), FRAC to the nearest, ties to even. -/
def Block.rillDiv (b : Block) (x : Rill) : Nat :=
  if x.role ≠ 0 ∨ x.rate * x.frame = 0 then 0 else (divHE (b.fAm * 2 ^ 24) (x.rate * x.frame)).toNat % 2 ^ 32

/-- The divider is computed anew at a family switch, from the frame-start edge that a master last made. -/
def Block.divAll (b : Block) : Block :=
  (below 48).foldl (fun y n =>
    let x := y.rill n
    let z := if x.role = 0 then y.setRill n { x with base := x.edge.getD x.base, am := 0, acc := 0 } else y
    z.setReg (Reg.RIL_DIV n) (z.rillDiv x)) b

/-! ## The wire (R355) -/

/-- How many BCK periods of a half-frame lie before a word's first bit (R355). -/
def Rill.msbAt (x : Rill) : Nat := if x.fmt = 0 then 1 else if x.fmt = 1 then 0 else x.frame / 2 - x.word

/-- Bits, first one most significant, as a number. -/
def bitsVal (l : List Bool) : Nat := l.foldl (fun a v => 2 * a + b2n v) 0

/-- The bits of a number, most significant first. -/
def valBits (w v : Nat) : List Bool := ((below w).map (fun i => bit v i)).reverse

/-- The word among the bits of DI from the start of a half-frame; bits outside it are ignored (R355). Bits that the frame is
too short to hold are free: the manual gives them no value (log entry 45). -/
def Block.wordOf (b : Block) (x : Rill) (l : List Bool) : Nat × Block :=
  let w := (l.drop x.msbAt).take x.word
  if w.length < x.word then
    let r := b.drawBits (x.word - w.length)
    (bitsVal w * 2 ^ (x.word - w.length) + r.1, r.2)
  else (bitsVal w, b)

/-- The bits of DO from a frame-start edge, and the first one of the next frame: the two words in their places, 0 outside them
(R355). -/
def Rill.wire (x : Rill) (left right : Int) : List Bool :=
  let half := x.frame / 2
  let word := fun (v : Int) => valBits x.word (ofS x.word v)
  let gap := List.replicate (half - x.word) false
  let body := List.replicate x.msbAt false ++ word left ++ gap ++ word right ++ List.replicate (half - x.word - x.msbAt + 1) false
  let l := body.take (x.frame + 1)
  match l with
  | h :: t => (h || x.carry) :: t
  | [] => []

/-- The BCK periods of a frame: `k` of them from the accumulator `acc` of a divider of `div` (R358), and the accumulator after. -/
def bckRun (div : Nat) : Nat → Nat → List (Nat × Nat) × Nat
  | 0, acc => ([], acc)
  | k + 1, acc =>
    let a := acc + div % 2 ^ 24
    let p := div / 2 ^ 24 + a / 2 ^ 24
    let r := bckRun div k (a % 2 ^ 24)
    ((p, p / 2) :: r.1, r.2)

/-- A word of `w` bits takes its place in a lane (R84). -/
def wordIn (w v : Nat) : Int := toS w v * 2 ^ (32 - w)

/-- A lane word leaves in `w` bits, rounded (R84). -/
def wordOut (w : Nat) (v : Int) : Int := min (maxS w) (rndHE (32 - w) v)

/-- Whether a WS period of `p` units of 125 ps is more than 0.5 % from 1 / RATE (R363). -/
def Rill.offRate (x : Rill) (p : Nat) : Bool := decide (8000000000 < 200 * ((p * x.rate : Nat) - (8000000000 : Int)).natAbs)

/-- Whether a BCK count differs from FRAME by more than 2 (R363, R364). -/
def Rill.badCount (x : Rill) (bck : Nat) : Bool := decide (2 < ((bck : Int) - x.frame).natAbs)

/-- Whether a rill is the X source (R94). -/
def Block.rillX (b : Block) (n : Nat) : Bool := b.domn.xEn && b.domn.xKind == 0 && b.domn.xIdx == n

/-- The first tick at least one sample past the position `p`: a wait in [1, 2) (R361). -/
def inStart (p : Nat) : Nat := ceilDiv p secFrac + 1

/-- The sample whose output instant lies a wait in [1, 2) before the position `p` (R361). -/
def outStart (p : Nat) : Nat := p / secFrac - 4

/-- A wait outside [0.25, 2.75) samples (R362). -/
def waitOut (w : Int) : Bool := decide (4 * w < secFrac) || decide ((11 * secFrac : Nat) ≤ 4 * w)

/-- A wait in 1/64 sample, as RIL_STAT shows it. -/
def wait64 (w : Int) : Nat := (64 * w / secFrac).toNat % 256

/-- A slip begins (R362): the direction fades. -/
def Block.rillSlip (b : Block) (n : Nat) : Block := (b.count (Reg.RIL_SLIP n) 16 16 1).rilFault 3 0 n

/-- The input half of a frame of a rill with an elastic store (R361, R362): its word enters the store; a wait out of its
interval begins a slip; a faded store is set again. -/
def Block.rillStore (b : Block) (n : Nat) (l r : Int) : Block :=
  let x := b.rill n
  let p := b.pos x.dom
  let reset := x.inSlip && x.inLvl == 0
  let t := if reset then inStart p else x.inNext
  let st := if reset then [] else x.store
  let w : Int := (t * secFrac : Nat) - (p : Int)
  let slip := !x.inSlip && waitOut w
  let b1 := b.setRill n { x with
    store := st ++ [{ tick := t, left := l, right := r, mask := x.mask }], inNext := t + 1, wIn := wait64 w,
    inSlip := (x.inSlip && !reset) || slip }
  if slip then b1.rillSlip n else b1

/-- Whether DO may carry words: it is low when the rill is off or LOST (R357, R363). -/
def Rill.driven (x : Rill) : Bool := x.st != 0 && x.st != 3

/-- The word of sample `s` that channel `c` of a rill sends, and its ply's gain; an inactive or unlisted slot sends 0 (R366). -/
def Block.rillOutWord (b : Block) (n s c : Nat) : Int × Nat × Block :=
  match slotLane (b.rill n).mask n c with
  | none => (0, 32, b)
  | some i =>
    let l := rilOut (n / 8) i
    if (b.stg.force.bind (fun d => d.lane? l)).isNone then (0, 32, b) else (b.outLane l s, b.laneFade l)

/-- A frame begins on DO with the words of sample `s` (R356, R365). -/
def Block.rillSend (b : Block) (n s : Nat) : Block :=
  let x := b.rill n
  let live := x.st == 2
  let lvl := lvlNext (live && !x.outSlip) x.outLvl
  let l := b.rillOutWord n s 0
  let r := l.2.2.rillOutWord n s 1
  let lv := if live then l.1 else x.outLeft
  let rv := if live then r.1 else x.outRight
  let b1 := r.2.2.setRill n { r.2.2.rill n with outLvl := lvl, outLeft := lv, outRight := rv }
  let send := fun (v : Int) (g : Nat) => if x.driven then wordOut x.word (faded v lvl g) else 0
  let bits := x.wire (send lv l.2.1) (send rv r.2.1)
  (b1.setRill n { b1.rill n with carry := bits.getD x.frame false }).emitOut (.rill n (bits.take x.frame))

/-- The output half of a frame of a rill with an elastic store. -/
def Block.rillOutStore (b : Block) (n : Nat) : Block :=
  let x := b.rill n
  let p := b.pos x.dom
  let reset := x.outSlip && x.outLvl == 0
  let s := if reset then outStart p else x.outNext
  let w : Int := (p : Int) - ((s + 3) * secFrac : Nat)
  let slip := x.st == 2 && !x.outSlip && waitOut w
  let b1 := b.setRill n { x with outNext := s + 1, wOut := wait64 w, outSlip := (x.outSlip && !reset) || slip }
  let b2 := if slip then b1.rillSlip n else b1
  b2.rillSend n s

/-- Entry to RUN (R361, R363): the stores are set and both directions ramp in. -/
def Block.rillRun (b : Block) (n : Nat) : Block :=
  let x := b.rill n
  let p := b.pos x.dom
  b.setRill n { x with st := 2, good := 0, off := 0, store := [], inNext := inStart p, outNext := outStart p,
                       inLvl := 0, outLvl := 0, inSlip := false, outSlip := false, handed := p / secFrac }

/-! ## Slot masks (R366 to R368) -/

/-- Whether a hank is uniform (R367). -/
def Draft.uniform (d : Draft) (h : Nat) : Bool :=
  let on := ((upFrom (8 * h) 8).map d.rill).filter (fun r => r.role != 2)
  let doms := (d.lanes.filter (fun r => (decide (rilIn h 0 ≤ r.lane) && decide (r.lane ≤ rilIn h 15)) ||
    (decide (rilOut h 0 ≤ r.lane) && decide (r.lane ≤ rilOut h 15)))).map (·.dom)
  (on.all (fun r => r.rate == (on.headD {}).rate && r.frame == (on.headD {}).frame)) && doms.all (· == doms.headD 0)

def Block.uniform (b : Block) (h : Nat) : Bool := b.stg.force.elim true (fun d => d.uniform h)

/-- The lead rill of a hank (R368). -/
def Block.leadRill (b : Block) (h : Nat) : Option Nat := (upFrom (8 * h) 8).find? (fun n => (b.rill n).role != 2)

def Block.leadRuns (b : Block) (h : Nat) : Bool := (b.leadRill h).elim false (fun n => (b.rill n).st == 2)

/-- MASK_WRITE (R367, R368). -/
def Block.maskWrite (h v : Nat) (b : Block) : Block :=
  if !b.uniform h ∧ v % 2 ^ 16 ≠ 0xFFFF then b.rilFault 5 0 ((b.leadRill h).getD (8 * h))
  else (b.setReg (Reg.RIL_HANK_MASK h) (v % 2 ^ 16)).setRil (fun r => { r with pend := r.pend.filter (· != h) ++ [h] })

/-- The mask last written comes into force (R368). -/
def Block.maskForce (b : Block) (h : Nat) : Block :=
  if b.ril.pend.contains h then
    (b.setReg (Reg.RIL_HANK_MASK_ACTIVE h) (b.reg (Reg.RIL_HANK_MASK h))).setRil
      (fun r => { r with pend := r.pend.filter (· != h) })
  else b

/-- MASK_APPLY: at the lead rill's frame-start edge, which is now; or, when the lead rill is not in RUN, at the next
block tick (R368). -/
def Block.maskApply (h : Nat) (b : Block) : Block :=
  if !b.ril.pend.contains h then b
  else if b.leadRuns h then b.maskForce h else (b.toBlk (b.blk + 1)).maskForce h

/-! ## Frames -/

/-- At a frame-start edge the mask in force becomes the rill's (R368); the lead rill's edge brings a written mask into
force. -/
def Block.rillMask (b : Block) (n : Nat) : Block :=
  let h := n / 8
  let b1 := if b.leadRill h = some n ∧ (b.rill n).st = 2 then b.maskForce h else b
  b1.setRill n { b1.rill n with mask := b1.reg (Reg.RIL_HANK_MASK_ACTIVE h) }

/-- The mean of the last WS periods, as RIL_PERIOD shows it. -/
def meanPeriod (ps : List Nat) : Nat := if ps.isEmpty then 0 else ps.sum / ps.length

/-- A frame of a rill without a store is handed over at its own tick `t`, and the next carries sample t - 3 (R361). -/
def Block.rillDirect (b : Block) (n t : Nat) (word : Option (Int × Int)) : Block :=
  let x := b.rill n
  let b1 := match word with
    | some (l, r) => (b.setRill n { x with store := [{ tick := t, left := l, right := r, mask := x.mask }],
                                           inNext := t + 1 }).handRill t n
    | none => b.setRill n { x with inNext := t + 1 }
  (b1.rillMask n).rillSend n (t - 3)

/-- The stamp of a master's next frame-start edge in X, by the audio-master periods of its frames so far (R358); the audio
master shares the time clock's offset (R326). -/
def Block.masterEdge (b : Block) (x : Rill) : Nat := x.base + x.am * 8000000000 / b.fAm

/-- A master's BCK and WS in the frame that begins at stamp `t` (R358). -/
def Block.masterClk (b : Block) (n t : Nat) : Block :=
  let x := b.rill n
  let r := bckRun (b.reg (Reg.RIL_DIV n)) x.frame x.acc
  (b.setRill n { x with acc := r.2, am := x.am + (r.1.map (·.1)).sum }).emitOut (.frameClk n t r.1 (x.fmt != 0))

/-- A frame of a master rill (R358, R359): its frame-start edge falls on the next tick of its domain, or, placed by its
divider, is an X tick. -/
def Block.masterFrame (b : Block) (n : Nat) (l r : Int) : Block :=
  let x := b.rill n
  let word := if x.edge.isSome then some (l, r) else none
  if b.rillX n ∨ x.dom = 2 then
    let e := b.masterEdge x
    let b0 := b.runTicks (ceilDiv e 16 - b.tsu.ticks)
    let b1 := if word.isSome && b.rillX n then b0.xTickNow e else b0
    let b2 := (b1.setRill n { b1.rill n with edge := some e }).masterClk n e
    b2.rillDirect n b2.loom.xTick word
  else
    let t := max x.inNext (b.tick x.dom)
    let b1 := b.toTick x.dom t
    let e := b1.tsu.ticks * 16
    ((b1.setRill n { x with edge := some e }).masterClk n e).rillDirect n t word

/-- A frame in RUN of a slave rill: the word moves, or a glitch repeats the one before it; off-rate frames are counted
(R362 to R364). -/
def Block.runFrame (b : Block) (n : Nat) (l r : Int) (bck per : Nat) : Block :=
  let x := b.rill n
  let bad := x.badCount bck
  let b1 := if bad then (b.count (Reg.RIL_SLIP n) 0 16 1).rilFault 2 0 n else b
  let b2 :=
    if b.rillX n then
      if bad then (b1.rillMask n).rillSend n (b1.loom.xTick - 3)
      else
        let b3 := b1.xTickNow (x.edge.getD 0)
        b3.rillDirect n b3.loom.xTick (some (l, r))
    else
      let last := x.store.getLast?.getD x.last
      let w := if bad then (last.left, last.right) else (l, r)
      ((b1.rillStore n w.1 w.2).rillMask n).rillOutStore n
  let y := b2.rill n
  let off := if bad then 0 else if x.offRate per then x.off + 1 else 0
  if 4 ≤ off then
    let b3 := ((b2.setRill n { y with st := 4, off := 0 }).count (Reg.RIL_CNT n) 16 16 1).rilFault 4 1 n
    if b.rillX n then b3.xPause else b3
  else b2.setRill n { y with off := off }

/-- A frame in SEEK (R363). -/
def Block.seekFrame (b : Block) (n bck per : Nat) (timed : Bool) : Block :=
  let x := b.rill n
  let good := if timed && !x.badCount bck && !x.offRate per then x.good + 1 else 0
  let b1 := (b.setRill n { x with good := good }).rillMask n
  let b2 := if 8 ≤ good then b1.rillRun n else b1
  if 8 ≤ good then (if b.rillX n then b2.rillSend n (b2.loom.xTick - 3) else b2.rillOutStore n) else b2.rillSend n 0

/-- Words of the ticks that have come are handed over. -/
def Block.handDue (b : Block) (n : Nat) : Block :=
  let x := b.rill n
  if b.noStore n then b
  else
    let t := b.tick x.dom
    let from' := max (x.handed + 1) (t - 3)
    (upFrom from' (t + 1 - from')).foldl (fun y s => y.handRill s n) b

/-- RILL_LOST: no frame-start edge of a slave rill in RUN for 2 nominal frame periods (R363): DO is held low; an X source stops
(R96). -/
def Block.rillLost (n : Nat) (b : Block) : Block :=
  let x := b.rill n
  if x.role ≠ 1 ∨ x.st ≠ 2 ∨ x.rate = 0 then b
  else
    let due := x.edge.getD 0 + ceilDiv 16000000000 x.rate
    let b1 := b.runTicks (ceilDiv due 16 - b.tsu.ticks)
    let b2 := b1.setRill n { b1.rill n with st := 3, outLvl := 0, off := 0 }
    let b3 := ((b2.emitOut (.pin (pinRill n 0) false)).count (Reg.RIL_CNT n) 0 16 1).rilFault 1 0 n
    if b.rillX n then b3.xStop else b3

/-- A frame-start edge of a slave rill, `dt` units of 125 ps after the one before, the first one `dt` into the present tick of
the time clock; `mid` is when the right half-frame began, from the edge before (R356, R360, R363). -/
def Block.slaveFrame (n : Nat) (l r : Int) (bck mid dt : Nat) (b : Block) : Block :=
  let x := b.rill n
  let timed := x.edge.isSome
  let stamp := x.edge.elim (b.clkStamp dt) (· + dt)
  let b0 := b.runTicks (stamp / 16 - b.tsu.ticks)
  let b1 := b0.handDue n
  let y := b1.rill n
  let b2 := b1.setRill n { y with edge := some stamp, mid := x.edge.map (· + mid),
                                  periods := if timed then dt :: y.periods.take 15 else y.periods }
  let b3 := b2.setReg (Reg.RIL_PERIOD n) (meanPeriod (b2.rill n).periods)
  match x.st with
  | 0 => b
  | 1 => b3.seekFrame n bck dt timed
  | 2 => b3.runFrame n l r bck dt
  | 3 => (b3.setRill n { b3.rill n with st := 1, good := 0 }).rillMask n
  | _ => (b3.rillMask n).rillSend n 0

/-- RILL_FRAME: a frame-start edge of rill n. `left` and `right` are the bits of DI at the rising edges of BCK in the two
half-frames of the frame that it ends, and `next` those that follow: in format 0 a word of FRAME/2 bits ends one BCK period
after its half-frame (R355). An edge that comes 2 nominal frame periods or more after the last one in RUN finds the rill
LOST (R363). -/
def Block.rillFrame (n : Nat) (left right next : List Bool) (e : WsEdges) (b : Block) : Block :=
  let x := b.rill n
  let vl := b.wordOf x (left ++ right ++ next)
  let vr := vl.2.wordOf x (right ++ next)
  let l := wordIn x.word vl.1
  let r := wordIn x.word vr.1
  if x.role = 0 then vr.2.masterFrame n l r
  else if x.st = 0 then b
  else
    let late := x.st == 2 && x.edge.isSome && decide (16000000000 ≤ e.dt * x.rate)
    (if late then vr.2.rillLost n else vr.2).slaveFrame n l r (left.length + right.length) e.mid e.dt

/-- REARM: a write of RIL_CMD (R363). -/
def Block.rillRearm (n v : Nat) (b : Block) : Block :=
  let x := b.rill n
  if bit v 0 && x.st == 4 then b.setRill n { x with st := 1, good := 0 } else b

/-! ## Configuration by a commit (R357, R363, R365, R368) -/

/-- The domain of a rill's listed lanes under a mask. -/
def Draft.rillDom (d : Draft) (mask n : Nat) : Nat :=
  let ls := [slotLane mask n 0, slotLane mask n 1].filterMap id
  ((ls.map (rilIn (n / 8)) ++ ls.map (rilOut (n / 8))).findSome? d.laneDom?).getD 0

/-- A rill takes its record of the draft: BCK and WS are its outputs only as clock master, and DO is low while it is off
(R357). -/
def Block.rillConfig (d : Draft) (mask : Nat) (b : Block) (n : Nat) : Block :=
  let c := d.rill n
  let dom := d.rillDom mask n
  let x : Rill := { role := c.role, fmt := c.fmt, word := c.word, frame := c.frame, rate := c.rate, dom := dom,
                    mask := mask, st := if c.role = 0 then 2 else if c.role = 1 then 1 else 0,
                    handed := b.tick dom, inNext := b.tick dom, base := b.clkStamp 0 }
  let y : Rill := if c.role = 2 then {} else x
  let b1 := (b.setRill n y).setReg (Reg.RIL_CFG n) (if c.role = 2 then 0 else c.rate % 2 ^ 18)
  let fmt := if c.role = 2 then 0x200 else
    dom * 2 ^ 10 + c.role * 2 ^ 8 + (if c.frame = 64 then 128 else 0) + (c.word - 16) % 32 * 4 + c.fmt % 4
  let b1 := if b.rillX n then b1.xPause else b1
  let b1 := if c.role = 2 then b1.emitOut (.pin (pinRill n 0) false) else b1
  let b1 := if c.role = 0 then b1 else (b1.emit (.hiz (pinRill n 1))).emit (.hiz (pinRill n 2))
  ((b1.setReg (Reg.RIL_FMT n) fmt).setReg (Reg.RIL_PERIOD n) 0).setReg (Reg.RIL_DIV n) (b.rillDiv y)

/-- A commit that carries a hank's chunk configures the hank and sets its mask. -/
def Block.hankConfig (d : Draft) (b : Block) (h : Nat) : Block :=
  let m := d.hankMask h
  let b1 := ((b.setReg (Reg.RIL_HANK_MASK h) m).setReg (Reg.RIL_HANK_MASK_ACTIVE h) m).setRil
    (fun r => { r with pend := r.pend.filter (· != h) })
  (upFrom (8 * h) 8).foldl (Block.rillConfig d m) b1

/-! ## Views -/

def Block.rilStatView (b : Block) (n : Nat) : Nat :=
  let x := b.rill n
  x.wOut * 2 ^ 24 + x.wIn * 2 ^ 16 + x.st

def Block.hankStatView (b : Block) (h : Nat) : Nat :=
  (if b.stg.force.elim false (fun d => (d.pay? tagRILL h).isSome) then slotsBelow (b.reg (Reg.RIL_HANK_MASK_ACTIVE h)) 16 * 256
    else 0) + b2n (b.ril.pend.contains h) * 128 +
    b2n (b.stg.force.isSome && b.uniform h) * 64 + (b.leadRill h).elim 0 (· % 8)

/-! ## The commands -/

/-- RILL_FRAME (R363). -/
def execRillFrame (n : Nat) (left right next : List Bool) (e : WsEdges) : State → Answer :=
  onBlk (Block.rillFrame n left right next e)
/-- RILL_LOST (R363). -/
def execRillLost (n : Nat) : State → Answer := onBlk (Block.rillLost n)
/-- REARM (R363). -/
def execRearm (n v : Nat) : State → Answer := onReg (Reg.RIL_CMD n) true (Block.rillRearm n v)
/-- MASK_WRITE (R368). -/
def execMaskWrite (h v : Nat) : State → Answer := onReg (Reg.RIL_HANK_MASK h) true (Block.maskWrite h v)
/-- MASK_APPLY (R368). -/
def execMaskApply (h : Nat) : State → Answer := onBlk (Block.maskApply h)

end Sys2Proof.Machine
end

