-- ==== Sys2Proof/Machine/Check.lean ====
section
/-! DEFINITION. The checks of VALIDATE, phases 1 to 5 (spec/02_draft.md R38 to R64, R70, R526, R527): container, source,
presence, fields and lanes. Every check answers the first failure, as its code and location. -/

namespace Sys2Proof.Machine

/-! ## Phase 1: container (R40, R41) -/

/-- The first position from `o` of a list of bytes that is not zero. -/
def nonZeroAt : Nat → Bytes → Option Nat
  | _, [] => none
  | o, b :: r => if b = 0 then nonZeroAt (o + 1) r else some o

/-- Offsets at which a header breaks code 0x06, least first (R40, R525). -/
def hdrZero (bs : Bytes) : Option Nat :=
  let patch := bit (u8 bs 0x20) 0
  let s := if u64 bs 8 = 0 then some 8 else none
  let b := if patch then none else nonZeroAt 0x18 (slice 0x18 8 bs)
  let f := if u8 bs 0x20 / 4 ≠ 0 then some 0x20 else nonZeroAt 0x21 (slice 0x21 27 bs)
  (s.orElse (fun _ => b)).orElse (fun _ => f)

/-- The header checks 0x01 to 0x06 in code order. -/
def hdrCheck (len : Nat) (bs : Bytes) : Option VErr :=
  let f := fun (c o : Nat) => some (VErr.mk c (.abs 0 0 o))
  if slice 0 4 bs ≠ [0x4C, 0x44, 0x46, 0x54] then f 1 0
  else if u16 bs 4 ≠ 3 then f 2 4
  else if u16 bs 6 ≠ 0x2048 then f 3 6
  else if crc32c (slice 0 0x3C bs) ≠ u32 bs 0x3C then f 4 0x3C
  else if u32 bs 0x10 ≠ len ∨ 16777216 < len ∨ len % 4 ≠ 0 then f 5 0x10
  else (hdrZero bs).elim none (f 6)

/-- The chunks from offset `o`, or the first failure of the walk (R526). -/
def walk (bs : Bytes) (patch : Bool) : Nat → Nat → List Chunk → Except VErr (List Chunk)
  | 0, _, acc => .ok acc.reverse
  | fuel + 1, o, acc =>
    if bs.length ≤ o then .ok acc.reverse
    else
      let h := slice o 16 bs
      let plen := u32 h 4
      let c : Chunk := { tag := u32 h 0, inst := u16 h 10, cflags := u16 h 8, off := some o, pay := slice (o + 16) plen bs }
      let f := fun (k : Nat) => Except.error (VErr.mk k (.abs c.tag c.inst o))
      if bs.length < o + 16 ∨ plen % 4 ≠ 0 ∨ bs.length < o + 16 + plen then
        .error ⟨7, .abs (u32 h 0) (u16 h 10) o⟩
      else if crc32c (slice 0 12 h ++ c.pay) ≠ u32 h 12 then f 8
      else if !tagKnown c.tag then f 9
      else if c.tag = tagENDD ∧ o + 16 + plen ≠ bs.length then f 0xA
      else if acc.any (fun x => x.tag == c.tag && x.inst == c.inst) then f 0xB
      else if bit c.cflags 0 ∧ (!patch ∨ plen ≠ 0) then f 0xC
      else walk bs patch fuel (o + 16 + plen) (c :: acc)

/-- Phase 1: the bytes as a draft. -/
def parseDraft (len : Nat) (bs : Bytes) : Except VErr Draft :=
  match hdrCheck len bs with
  | some e => .error e
  | none =>
    match walk bs (bit (u8 bs 0x20) 0) (bs.length / 16 + 1) 0x40 [] with
    | .error e => .error e
    | .ok cs =>
      if !(cs.any (fun c => c.tag == tagENDD)) ∨ cs.length ≠ u32 bs 0x14 then .error ⟨0xA, .abs 0 0 0x14⟩
      else .ok { serial := u64 bs 8, base := u64 bs 0x18, flags := u32 bs 0x20, chunks := cs }

/-! ## Phase 2: source, and the effective draft of a patch (R63 to R65) -/

def Draft.isPatch (d : Draft) : Bool := bit d.flags 0

/-- Phase 2 (R70): whether the source may, the base, the serial. -/
def phase2 (srcOk : Bool) (force : Option Draft) (d : Draft) : Option VErr :=
  if !srcOk then some ⟨0x10, .abs 0 0 0⟩
  else if d.isPatch && force.elim true (fun f => f.serial != d.base) then some ⟨0x11, .abs 0 0 0x18⟩
  else if force.elim false (fun f => f.serial == d.serial) then some ⟨0x12, .abs 0 0 8⟩
  else none

/-- The effective draft of a patch (R63): chunks of the draft in force, replaced or removed by the patch's, then the
chunks that the patch adds, ENDD last. -/
def effective (force : Option Draft) (d : Draft) : Draft :=
  match d.isPatch, force with
  | true, some f =>
      let own := fun (c : Chunk) => d.chunks.find? (fun p => p.tag == c.tag && p.inst == c.inst)
      let kept := f.chunks.filterMap (fun c =>
        if c.tag = tagENDD then none
        else match own c with
          | some p => if bit p.cflags 0 then none else some p
          | none => some { c with off := none })
      let new := d.chunks.filter (fun p => p.tag != tagENDD && !bit p.cflags 0 &&
        !(f.chunks.any (fun c => c.tag == p.tag && c.inst == p.inst)))
      { serial := d.serial, base := 0, flags := d.flags / 2 * 2,
        chunks := kept ++ new ++ d.chunks.filter (fun p => p.tag == tagENDD) }
  | _, _ => d

/-! ## Phase 3: presence and sizes (R43, R526, R527) -/

/-- Whether a payload length suits a tag (R527). -/
def plenOk (tag n : Nat) : Bool :=
  if tag = tagDOMN ∨ tag = tagTIME ∨ tag = tagPAIR then n == 16
  else if tag = tagLANE ∨ tag = tagPLYS ∨ tag = tagCOEF then decide (4 ≤ n)
  else if tag = tagSKIN then n == 80
  else if tag = tagSLUC then n == 4
  else if tag = tagDECK then decide (16 ≤ n) && n % 16 == 0
  else if tag = tagKERN then decide (48 ≤ n)
  else if tag = tagPLCE ∨ tag = tagDLAY then decide (8 ≤ n) && n % 8 == 0
  else if tag = tagRILL then n == 68
  else if tag = tagJETS then n == 72
  else if tag = tagPROT then n == 32
  else if tag = tagWELL then n == 48
  else if tag = tagPORT then n == 176
  else if tag = tagNAME then decide (n ≤ 256)
  else n == 0

def instOk (c : Chunk) : Option VErr :=
  if tagInsts c.tag ≤ c.inst then some ⟨0x21, .hdr c.tag c.inst⟩
  else if !plenOk c.tag c.pay.length then some ⟨0x22, .hdr c.tag c.inst⟩
  else none

def phase3 (d : Draft) : Option VErr :=
  let missing := [tagDOMN, tagLANE, tagPLYS].find? (fun t => !(d.chunks.any (fun c => c.tag == t)))
  let jets := (d.ofTag tagJETS).find? (fun c =>
    (below 8).any (fun k => bit (u8 c.pay 1) k && (d.pay? tagPROT (8 * c.inst + k)).isNone))
  ((missing.map (fun t => VErr.mk 0x20 (.abs t 0 0))).orElse (fun _ => d.chunks.findSome? instOk)).orElse
    (fun _ => jets.map (fun c => ⟨0x20, .pay tagJETS c.inst 1⟩))

/-! ## Phase 4: fields (R45 to R62, R526) -/

/-- A field outside its range, a reserved field that is not zero: payload offset and code. -/
def rg (o : Nat) (ok : Bool) : List (Nat × Nat) := if ok then [] else [(o, 0x30)]
def rz (o n : Nat) (p : Bytes) : List (Nat × Nat) := if beNat (slice o n p) = 0 then [] else [(o, 0x31)]

/-- `lo ≤ x ≤ hi`. -/
def within (lo x hi : Nat) : Bool := decide (lo ≤ x) && decide (x ≤ hi)

/-- 0 to `hi`, or 0xFF. -/
def orFF (x hi : Nat) : Bool := decide (x ≤ hi) || x == 0xFF

def fDomn (p : Bytes) : List (Nat × Nat) :=
  let d := domnOf p
  rg 0 (d.fMult == 2 || d.fMult == 4) ++ rg 1 (decide (u8 p 1 ≤ 1)) ++ rg 2 (decide (d.xKind ≤ b2n d.xEn)) ++
  rg 3 (if d.xEn then decide (d.xIdx < if d.xKind = 0 then 48 else 128) else d.xIdx == 0) ++
  rg 4 (if d.xEn then within 32000 d.xRate 192000 else d.xRate == 0) ++ rz 8 8 p

def fLane (p : Bytes) : List (Nat × Nat) :=
  (recs 4 p).flatMap (fun r =>
    let x := laneRecOf 0 r
    rg r.1 (decide (x.dom ≤ 2)) ++ rg r.1 (x.dir == 0 || isPort x.lane) ++ (if x.rsv = 0 then [] else [(r.1, 0x31)]))

def fPlys (p : Bytes) : List (Nat × Nat) :=
  (recs 4 p).flatMap (fun r => if (plyRecOf r).rsv = 0 then [] else [(r.1, 0x31)])

/-- The N of a skein whose first lane has a domain (R282, R526). -/
def skinN (d : Draft) (fB : Nat) (k : Skin) : Option Nat :=
  ((d.laneDom? k.firstLane).filter (· ≤ 2)).map (fun m => packetN (draftRate d fB m) k.ptime)

/-- SPEED of a media port (R61); a port of an absent PORT chunk is off (R44, R252). -/
def Draft.speed (d : Draft) (p : Nat) : Nat := (d.pay? tagPORT 0).elim 0 (fun b => u8 b (8 + p))

/-- The frame length of a skein of N samples a packet (R283). -/
def frameLength (d : Draft) (k : Skin) (n : Nat) : Nat :=
  let tagged := (d.addr k.portA).vlan != 0 || (k.portB != 0xFF && (d.addr k.portB).vlan != 0)
  n * k.lanes * encBytes k.enc + 20 + (if k.af = 4 then 20 else 40) + 14 + (if tagged then 4 else 0) + 4

/-- The receive paths of a skein: port, address family, address, UDP port, and the offset of the address. -/
def rxPaths (k : Skin) : List (Nat × Nat × Bytes × Nat × Nat) :=
  (k.portA, k.af, k.dstA, k.udpA, 0x10) :: (if k.portB = 0xFF then [] else [(k.portB, k.af, k.dstB, k.udpB, 0x20)])

def samePath (a b : Nat × Nat × Bytes × Nat × Nat) : Bool :=
  a.1 == b.1 && a.2.1 == b.2.1 && a.2.2.1 == b.2.2.1 && a.2.2.2.1 == b.2.2.2.1

/-- The first path of a receive skein that repeats an earlier path of the draft (R284). -/
def sharedPath (d : Draft) (k : Skin) : Option Nat :=
  let before := ((d.ofTag tagSKIN).takeWhile (fun c => c.inst != k.inst)).filter (fun c => c.inst < 128)
  let ps := before.flatMap (fun c => rxPaths (skinOf c.inst c.pay))
  match rxPaths k with
  | [a, b] => if ps.any (samePath a) then some 0x10 else if ps.any (samePath b) || samePath a b then some 0x20 else none
  | a => (a.find? (fun x => ps.any (samePath x))).map (fun x => x.2.2.2.2)

def fSkin (d : Draft) (fB i : Nat) (p : Bytes) : List (Nat × Nat) :=
  let k := skinOf i p
  let rx := decide (i < 128)
  let top := if rx then 0x7FF else 0xFFF
  let v4 := k.af == 4
  let b := k.portB != 0xFF
  rg 0 (within (if rx then 0 else 0x800) k.firstLane top) ++ rg 2 (within 1 k.lanes 64) ++ rg 3 (decide (k.enc ≤ 1)) ++
  rg 4 (decide (k.ptime ≤ 4)) ++ rg 5 (decide (k.portA ≤ 3)) ++ rg 6 (orFF k.portB 3) ++ rg 7 (!rx || k.dscp == 0) ++
  (if u8 p 7 / 64 = 0 then [] else [(7, 0x31)]) ++ rg 8 (within 96 k.pt 127) ++
  rg 9 (if rx then k.hops == 0 else decide (1 ≤ k.hops)) ++ rg 0xA (v4 || k.af == 6) ++ rz 0xB 1 p ++
  rg 0x30 (rx || beNat k.srcFilt == 0) ++ rg 0x44 (rx || k.linkOfs == 0) ++ rg 0x48 (!rx || k.rtpOfs == 0) ++ rz 0x4C 4 p ++
  -- conditions between fields: R48, R283, R284
  rg 2 (decide (k.firstLane + k.lanes ≤ top + 1)) ++ rg 0x10 (!v4 || beNat (k.dstA.drop 4) == 0) ++
  rg 0x20 (!v4 || beNat (k.dstB.drop 4) == 0) ++ rg 0x30 (!v4 || beNat (k.srcFilt.drop 4) == 0) ++
  ((skinN d fB k).elim [] (fun n => rg 2 (decide (frameLength d k n ≤ 9600)) ++ rg 0x44 (!rx || decide (n ≤ k.linkOfs)))) ++
  rg 0x44 (!rx || decide (k.linkOfs ≤ 32768)) ++
  rg 6 (k.portB != k.portA) ++ rg 0x20 (b || beNat k.dstB == 0) ++ rg 0x42 (b || k.udpB == 0) ++
  rg 5 (d.speed k.portA != 0) ++ rg 6 (!b || d.speed k.portB != 0) ++
  (if rx then (sharedPath d k).elim [] (fun o => [(o, 0x30)]) else [])

def fSluc (p : Bytes) : List (Nat × Nat) :=
  let s := slucOf p
  rg 0 (decide (s.src ≤ 2)) ++ rg 1 (decide (s.dst ≤ 2)) ++ rg 2 (decide (s.filt ≤ 1)) ++ rg 3 (decide (s.bw ≤ 7)) ++
  rg 1 (s.src != s.dst)

/-- First index and end of a COEF segment (R51). -/
def segOf (p : Bytes) : Nat × Nat := (u32 p 0, u32 p 0 + (p.length - 4) / 4)

def fCoef (d : Draft) (i : Nat) (p : Bytes) : List (Nat × Nat) :=
  let s := segOf p
  let before := ((d.ofTag tagCOEF).takeWhile (fun c => c.inst != i)).map (fun c => segOf c.pay)
  rg 0 (decide (s.1 ≤ 16383)) ++ rg 0 (decide (s.2 ≤ 16384)) ++
  rg 0 (before.all (fun t => !(decide (s.1 < t.2) && decide (t.1 < s.2))))

def fKern (p : Bytes) : List (Nat × Nat) :=
  let k := kernOf 0 p
  let xo := 0x30 + 8 * k.progWords
  let yo := xo + upTo 4 k.xInit
  let so := yo + upTo 4 k.yInit
  let eo := so + upTo 4 k.sInit
  rg 0 (decide (k.dom ≤ 2)) ++ rg 1 (k.cls == 1 || k.cls == 2) ++ rg 2 (decide (k.nIn ≤ 64)) ++ rg 3 (within 1 k.nOut 64) ++
  rg 4 (within 1 k.cycles 90000) ++ rg 0xC (within 1 k.progWords 4096) ++ rz 0xE 2 p ++ rg 0x10 (decide (k.xSize ≤ 65536)) ++
  rg 0x14 (decide (k.ySize ≤ 65536)) ++ rg 0x18 (decide (k.sSize ≤ 262144)) ++ rz 0x28 8 p ++
  rz (xo + k.xInit) (yo - xo - k.xInit) p ++ rz (yo + k.yInit) (so - yo - k.yInit) p ++
  rz (so + k.sInit) (eo - so - k.sInit) p ++ rz eo (p.length - eo) p ++
  -- conditions between fields (R52)
  rg 0x1C (decide (k.xInit ≤ k.xSize)) ++ rg 0x20 (decide (k.yInit ≤ k.ySize)) ++ rg 0x24 (decide (k.sInit ≤ k.sSize)) ++
  rg 0xC (decide (xo ≤ p.length)) ++ rg 0x1C (decide (yo ≤ p.length)) ++ rg 0x20 (decide (so ≤ p.length)) ++
  rg 0x24 (decide (eo ≤ p.length))

def fPlce (p : Bytes) : List (Nat × Nat) :=
  ((recs 8 p).flatMap (fun r => rg (r.1 + 2) (decide (u8 r.2 2 ≤ 1)) ++ rg (r.1 + 3) (orFF (u8 r.2 3) 7) ++
    rg (r.1 + 4) (orFF (u8 r.2 4) 7) ++ rz (r.1 + 5) 3 p)) ++
  ((recs 8 p).flatMap (fun r => rg (r.1 + 3) (u8 r.2 2 != 0 || u8 r.2 3 != 0xFF) ++
    rg (r.1 + 4) (u8 r.2 2 != 0 || u8 r.2 4 != 0xFF)))

/-- Offsets of records whose key an earlier record holds. -/
def repeats (f : Nat × Bytes → Nat) : List Nat → List (Nat × Bytes) → List Nat
  | _, [] => []
  | seen, r :: rs => if seen.contains (f r) then r.1 :: repeats f seen rs else repeats f (f r :: seen) rs

def fDlay (p : Bytes) : List (Nat × Nat) :=
  ((recs 8 p).flatMap (fun r => rg r.1 (decide (u16 r.2 0 ≤ 2047)) ++ rg (r.1 + 2) (decide (u8 r.2 2 ≤ 1)) ++
    rz (r.1 + 3) 1 p ++ rg (r.1 + 4) (within 1 (u32 r.2 4) 960000))) ++
  (repeats (fun r => u16 r.2 0) [] (recs 8 p)).map (fun o => (o, 0x30))

def fRill (p : Bytes) : List (Nat × Nat) :=
  let on := fun (k : Nat) => (rillRecOf p k).role != 2
  rz 2 2 p ++ ((below 8).flatMap (fun k =>
    let r := rillRecOf p k
    let o := 4 + 8 * k
    let c := on k
    rg o (!c || decide (r.fmt ≤ 2)) ++ rg (o + 1) (!c || within 16 r.word 32) ++
    rg (o + 2) (!c || r.frame == 32 || r.frame == 64) ++ rg (o + 3) (decide (r.role ≤ 2)) ++
    rg (o + 4) (!c || within 32000 r.rate 192000))) ++
  ((below 8).flatMap (fun k => rg (5 + 8 * k) (!on k || decide (2 * (rillRecOf p k).word ≤ (rillRecOf p k).frame))))

def fJets (fB : Nat) (p : Bytes) : List (Nat × Nat) :=
  rg 0 (decide (u8 p 0 ≤ 2)) ++ rz 6 2 p ++
  ((below 8).flatMap (fun k => rg (12 + 8 * k) (decide (u8 p (12 + 8 * k) ≤ 7)) ++ rz (13 + 8 * k) 3 p)) ++
  -- R370
  rg 2 (decide (u16 p 2 * 500 * (8 * 2 ^ u8 p 0) * fB < 1000000000000)) ++
  ((below 8).flatMap (fun k => if bit (u8 p 1) k then rg (8 + 8 * k) (u16 p (8 + 8 * k) != 0) ++
    rg (10 + 8 * k) (u16 p (10 + 8 * k) != 0) else []))

def fProt (d : Draft) (n : Nat) (p : Bytes) : List (Nat × Nat) :=
  let q := protOf p
  let j := d.jet n
  let c := fun (x : Nat) => decide (q.rthCoil = 0) || decide (x ≠ 0)
  rg 6 (decide (q.pilot ≤ 0x0800)) ++ rz 0x1C 4 p ++
  -- R370
  rg 0x16 (!j.en || within 1 q.iTrip j.iFs) ++ rg 2 (q.sagKnee == 0 || decide (q.sagFloor < q.sagKnee)) ++
  rg 8 (c q.tauCoil) ++ rg 0xA (c q.tauMag) ++ rg 4 (c q.reNom) ++ rg 0xE (c q.rthMag) ++
  rg 0x14 (decide (q.tFold < q.tTrip))

def fWell (p : Bytes) : List (Nat × Nat) :=
  ((below 12).flatMap (fun k => rg k (orFF (u8 p k) 7))) ++ rg 0xC (decide (u8 p 0xC ≤ 1)) ++ rz 0xD 3 p ++
  rg 0x10 (within 1 (u32 p 0x10) 10000) ++ rg 0x14 (decide (u16 p 0x14 ≤ 3600)) ++ rg 0x16 (within 1 (u16 p 0x16) 3600) ++
  rg 0x1C (within 1 (u32 p 0x1C) 10000) ++ rz 0x2C 4 p ++ rg 0x18 (decide (u32 p 0x18 < u32 p 0x10))

def fTime (p : Bytes) : List (Nat × Nat) :=
  let s := fun (o : Nat) => toS 8 (u8 p o)
  rg 0 (decide (u8 p 0 ≤ 1)) ++ rg 1 (decide (u8 p 1 ≤ 127)) ++
  ((upFrom 4 5).flatMap (fun o => rg o (decide (u8 p o ≤ 2)))) ++ rg 9 (decide (u8 p 9 ≤ 1)) ++
  rg 0xA (decide (-7 ≤ s 0xA) && decide (s 0xA ≤ 1)) ++ rg 0xB (decide (-3 ≤ s 0xB) && decide (s 0xB ≤ 3))

def fPair (p : Bytes) : List (Nat × Nat) :=
  rg 0 (decide (u8 p 0 ≤ 1)) ++ rg 1 (decide (u8 p 1 ≤ 1)) ++ rg 2 (u8 p 2 == 0 || within 2 (u8 p 2) 16) ++
  rg 3 (decide (u8 p 3 ≤ 2)) ++ rz 8 8 p

/-- The ceilings of the control ports H0, G0, C0, M0 to M3, T0 (R413). -/
def levelCeil (k : Nat) : Nat := [3, 3, 2, 1, 1, 1, 1, 0].getD k 0

def fPort (p : Bytes) : List (Nat × Nat) :=
  ((below 8).flatMap (fun k => rg k (orFF (u8 p k) 3) ++
    (if u8 p k = 0xFF ∨ u8 p k ≤ levelCeil k then [] else [(k, 0x32)]))) ++
  ((upFrom 8 4).flatMap (fun o => rg o (decide (u8 p o ≤ 2)))) ++ rg 0xC (decide (u8 p 0xC ≤ 2)) ++
  rg 0xD (decide (u8 p 0xD ≤ 1)) ++ rz 0xE 2 p ++
  ((below 5).flatMap (fun k =>
    let o := 0x10 + 32 * k
    rg (o + 5) (decide (u8 p (o + 5) ≤ 1)) ++ rz (o + 7) 1 p ++ rg (o + 0x1C) (decide (u16 p (o + 0x1C) ≤ 4094)) ++
    rz (o + 0x1E) 2 p))

/-- One byte of a UTF-8 sequence: the continuation bytes still due and the range of the next one; none when malformed. -/
def utf8Step (a : Option (Nat × Nat × Nat)) (x : BitVec 8) : Option (Nat × Nat × Nat) :=
  let b := x.toNat
  match a with
  | none => none
  | some (0, _, _) =>
      if b < 0x80 then some (0, 0, 0)
      else if within 0xC2 b 0xDF then some (1, 0x80, 0xBF)
      else if b = 0xE0 then some (2, 0xA0, 0xBF)
      else if b = 0xED then some (2, 0x80, 0x9F)
      else if within 0xE1 b 0xEF then some (2, 0x80, 0xBF)
      else if b = 0xF0 then some (3, 0x90, 0xBF)
      else if within 0xF1 b 0xF3 then some (3, 0x80, 0xBF)
      else if b = 0xF4 then some (3, 0x80, 0x8F)
      else none
  | some (n + 1, lo, hi) => if within lo b hi then some (n, 0x80, 0xBF) else none

/-- Whether bytes are a UTF-8 string (R62). DESIGN CHOICE (log entry 34): a zero byte is the character U+0000 wherever it stands,
so that further bytes after one are no failure. -/
def utf8Ok (p : Bytes) : Bool := (p.foldl utf8Step (some (0, 0, 0))).elim false (fun a => a.1 == 0)

/-- Phase 4 of one chunk. -/
def fieldCheck (d : Draft) (fB : Nat) (c : Chunk) : Option VErr :=
  let p := c.pay
  let l :=
    if c.tag = tagDOMN then fDomn p else if c.tag = tagLANE then fLane p else if c.tag = tagPLYS then fPlys p
    else if c.tag = tagSKIN then fSkin d fB c.inst p else if c.tag = tagSLUC then fSluc p
    else if c.tag = tagCOEF then fCoef d c.inst p else if c.tag = tagKERN then fKern p else if c.tag = tagPLCE then fPlce p
    else if c.tag = tagDLAY then fDlay p else if c.tag = tagRILL then fRill p else if c.tag = tagJETS then fJets fB p
    else if c.tag = tagPROT then fProt d c.inst p else if c.tag = tagWELL then fWell p else if c.tag = tagTIME then fTime p
    else if c.tag = tagPAIR then fPair p else if c.tag = tagPORT then fPort p
    else if c.tag = tagNAME then rg 0 (utf8Ok p) else []
  if c.cflags / 2 ≠ 0 then some ⟨0x31, .chdr c.tag c.inst 8⟩
  else l.head?.map (fun e => ⟨e.2, .pay c.tag c.inst e.1⟩)

/-! ## Phase 5: lanes (R21, R22, R46, R47, R86, R88, R89, R95) -/

def isReserved (l : Nat) : Bool := within 0x1128 l 0x11FF

/-- What must be alike for every lane of a ply: the skein, hank side, bank side or kind it belongs to, and DIR. -/
def laneGroup (d : Draft) (r : LaneRec) : Nat × Nat :=
  let l := r.lane
  if l < 0x1000 then (0, ((d.skins.find? (fun k => within k.firstLane l (k.firstLane + k.lanes - 1))).elim 0 (·.inst + 1)))
  else if l < 0x1060 then (1, (l - 0x1000) / 16)
  else if l < 0x10C0 then (2, (l - 0x1060) / 16)
  else if l < 0x10E0 then (3, (l - 0x10C0) / 8)
  else if l < 0x1120 then (4, (l - 0x10E0) / 16)
  else if l < 0x1200 then (5, 0)
  else if l < 0x1600 then (6, 0)
  else if l < 0x1E00 then (7, r.dir)
  else if l < 0x1F00 then (8, 0)
  else (9, 0)

/-- The lanes of a ply record. -/
def PlyRec.lanes (r : PlyRec) : List Nat := upFrom r.first r.count

/-- The lanes of an output port of a kernel, and of an input. -/
def Kern.outs (k : Kern) : List Nat := upFrom k.outLane k.nOut
def Kern.ins (k : Kern) : List Nat := upFrom k.inLane k.nIn

/-- The cards of a deck chunk up to END, with their payload offsets. -/
def deckOf (p : Bytes) : List (Nat × Card) :=
  let cs := (recs 16 p).map (fun r => (r.1, cardFields (cardOf r.2)))
  let n := cs.takeWhile (fun c => c.2.op != opEND)
  n ++ (cs.drop n.length).take 1

/-- 0x40: the loom or a kernel writes a lane that R21 or its DIR gives to another writer, or two kernels write one. -/
def p5Writer (d : Draft) (c : Chunk) : Option Nat :=
  if c.tag = tagDECK then
    ((deckOf c.pay).find? (fun x => x.2.writes.elim false (fun l =>
      !isReserved l && !loomWrites l (laneDir d l)))).map (·.1)
  else if c.tag = tagKERN then
    let k := kernOf c.inst c.pay
    if k.dom = 2 then none
    else if k.ins.any (fun l => !isPort l || laneDir d l == 1) then some 8
    else
      let others := (d.kerns.takeWhile (fun x => x.id != k.id)).flatMap Kern.outs
      if k.outs.any (fun l => !isReserved l && (!isPort l || (d.lane? l).elim false (fun r => r.dir == 0) ||
        others.contains l)) then some 0xA else none
  else none

/-- 0x41: a reserved lane is listed, or a reserved or unused lane is written. -/
def p5Unused (d : Draft) (c : Chunk) : Option Nat :=
  if c.tag = tagLANE then ((recs 4 c.pay).find? (fun r => isReserved (laneRecOf 0 r).lane)).map (·.1)
  else if c.tag = tagDECK then
    ((deckOf c.pay).find? (fun x => x.2.writes.elim false (fun l => isReserved l || (d.lane? l).isNone))).map (·.1)
  else if c.tag = tagKERN then
    let k := kernOf c.inst c.pay
    if k.dom ≠ 2 && k.outs.any (fun l => isReserved l || (isPort l && (d.lane? l).isNone)) then some 0xA else none
  else none

/-- 0x42: a lane listed twice, outside a ply or in two plies; a ply lane not listed; a ply number used twice. -/
def p5Ply (d : Draft) (c : Chunk) : Option Nat :=
  if c.tag = tagLANE then
    ((recs 4 c.pay).find? (fun r =>
      let l := (laneRecOf 0 r).lane
      (d.lane? l).any (fun x => x.inst != c.inst || x.ofs != r.1) || (d.plyOf? l).isNone)).map (·.1)
  else if c.tag = tagPLYS then
    (d.plies.find? (fun r =>
      let before := d.plies.takeWhile (fun x => x.ofs != r.ofs)
      before.any (fun x => x.ply == r.ply || (decide (x.first < r.first + r.count) && decide (r.first < x.first + x.count))) ||
      r.lanes.any (fun l => (d.lane? l).isNone))).map (·.ofs)
  else none

/-- 0x43: the lanes of a ply lie in two domains, skeins, hanks, banks or writers (R17, R86, R88). -/
def p5Mixed (d : Draft) (c : Chunk) : Option Nat :=
  if c.tag = tagPLYS then
    (d.plies.find? (fun r =>
      let ls := r.lanes.filterMap d.lane?
      match ls with
      | [] => false
      | a :: t => t.any (fun x => x.dom != a.dom || laneGroup d x != laneGroup d a))).map (·.ofs)
  else none

/-- The lanes that a rill's active slots map to under a mask, inputs and outputs (R366). -/
def rillLanes (mask n : Nat) : List Nat :=
  let ls := [slotLane mask n 0, slotLane mask n 1].filterMap id
  ls.map (rilIn (n / 8)) ++ ls.map (rilOut (n / 8))

/-- Lanes of a bank's skein: jets and their sense inputs (R89). -/
def bankLanes (k : Nat) : List Nat := upFrom (0x10C0 + 8 * k) 8 ++ upFrom (0x10E0 + 16 * k) 16

/-- A rill's domain rules at validation: a master's RATE (R359), and what may lie in X (R95). -/
def rillRule (d : Draft) (fB mask n : Nat) : Option Nat :=
  let r := d.rill n
  let doms := (rillLanes mask n).filterMap d.laneDom?
  let src := d.domn.xEn && d.domn.xKind == 0 && d.domn.xIdx == n
  if r.role = 2 then none
  else if r.role = 0 && doms.any (fun m => m != 2 && r.rate != draftRate d fB m) then some (8 + 8 * (n % 8))
  else if doms.contains 2 && !src && !(r.role == 1 && r.rate == d.domn.xRate) then some (7 + 8 * (n % 8))
  else none

/-- Whether a hank lane belongs to a rill in use: a lane of no such rill may not lie in X (R95). -/
def rillLane (d : Draft) (l : Nat) : Bool :=
  let h := if l < 0x1060 then (l - 0x1000) / 16 else (l - 0x1060) / 16
  (upFrom (8 * h) 8).any (fun n => (d.rill n).role != 2 && (rillLanes (d.hankMask h) n).contains l)

/-- 0x44: skein, sluice, rill, jet or kernel port lanes in the wrong domain or ply. -/
def p5Place (d : Draft) (fB : Nat) (c : Chunk) : Option Nat :=
  if c.tag = tagLANE then
    ((recs 4 c.pay).find? (fun r =>
      let x := laneRecOf 0 r
      (decide (x.lane < 0x1000) && !(d.skins.any (fun k => within k.firstLane x.lane (k.firstLane + k.lanes - 1)))) ||
      (x.dom == 2 && (within 0x800 x.lane 0xFFF || within 0x10C0 x.lane 0x111F ||
        (within 0x1000 x.lane 0x10BF && !rillLane d x.lane))))).map (·.1)
  else if c.tag = tagSKIN then
    let k := skinOf c.inst c.pay
    let ls := upFrom k.firstLane k.lanes
    let twice := (d.ofTag tagSKIN).takeWhile (fun x => x.inst != c.inst)
    let overlap := twice.any (fun x =>
      let y := skinOf x.inst x.pay
      decide (y.firstLane < k.firstLane + k.lanes) && decide (k.firstLane < y.firstLane + y.lanes))
    let ply := d.plyOf? k.firstLane
    let x := d.domn
    if overlap || ls.any (fun l => (d.lane? l).isNone) || !(ply.elim false (fun r => r.first == k.firstLane && r.count == k.lanes)) ||
        (d.laneDom? k.firstLane == some 2 && (decide (128 ≤ c.inst) || !(x.xKind == 1 && x.xIdx == c.inst))) then some 0
    else none
  else if c.tag = tagSLUC then
    let s := slucOf c.pay
    if d.laneDom? (0x1E00 + c.inst) ≠ some s.src then some 0
    else if d.laneDom? (0x1F00 + c.inst) ≠ some s.dst then some 1 else none
  else if c.tag = tagRILL then
    let m := u16 c.pay 0
    if m ≠ 0xFFFF && !d.uniform c.inst then some 0
    else (upFrom (8 * c.inst) 8).findSome? (rillRule d fB m)
  else if c.tag = tagJETS then
    let ds := (bankLanes c.inst).filterMap d.laneDom?
    if ds.any (· != ds.headD 0) then some 1 else none
  else if c.tag = tagKERN then
    let k := kernOf c.inst c.pay
    if k.dom = 2 then none
    else if k.ins.any (fun l => (d.laneDom? l).any (· != k.dom)) then some 8
    else if k.outs.any (fun l => (d.laneDom? l).any (· != k.dom)) then some 0xA
    else none
  else none

/-- 0x45: a lane of X while X is off, a port lane in X, a kernel in X. -/
def p5X (d : Draft) (c : Chunk) : Option Nat :=
  if c.tag = tagLANE then
    ((recs 4 c.pay).find? (fun r =>
      let x := laneRecOf 0 r
      x.dom == 2 && (!d.domn.xEn || isPort x.lane))).map (·.1)
  else if c.tag = tagKERN then (if u8 c.pay 0 = 2 then some 0 else none)
  else none

/-- One code over the whole draft. -/
def p5Code (d : Draft) (code : Nat) (f : Chunk → Option Nat) : Option VErr :=
  d.chunks.findSome? (fun c => (f c).map (fun o => ⟨code, .pay c.tag c.inst o⟩))

/-- Phase 5, the codes in order (R526). -/
def phase5 (d : Draft) (fB : Nat) : Option VErr :=
  (((((p5Code d 0x40 (p5Writer d)).orElse
    (fun _ => p5Code d 0x41 (p5Unused d))).orElse
    (fun _ => p5Code d 0x42 (p5Ply d))).orElse
    (fun _ => p5Code d 0x43 (p5Mixed d))).orElse
    (fun _ => p5Code d 0x44 (p5Place d fB))).orElse
    (fun _ => p5Code d 0x45 (p5X d))

/-- Phases 3 to 5. -/
def phases35 (d : Draft) (fB : Nat) : Option VErr :=
  ((phase3 d).orElse (fun _ => d.chunks.findSome? (fieldCheck d fB))).orElse (fun _ => phase5 d fB)

end Sys2Proof.Machine
end

