-- ==== Sys2Proof/Machine/Validate.lean ====
section
/-! DEFINITION. The checks of VALIDATE, phases 6 to 8 (R70, R119, R120, R125, R127, R128, R207, R208, R218, R234, R246), what
a commit writes into the loom's stores, the preparation estimate (R71), and the plies that a cold commit affects (R78). -/

namespace Sys2Proof.Machine

/-! ## Phase 6: decks (R113, R114, R119, R120) -/

/-- The walk over the decks: what earlier cards have claimed, and the course in progress. -/
structure Walk where
  slots : List Nat := []
  meters : List Nat := []
  lines : List Nat := []
  once : List Nat := []
  /-- Lanes and operations of the course in progress, its cards, and the first card that breaks a course rule. -/
  course : List (Nat × Nat) := []
  cards : Nat := 0
  held : Option Nat := none
  ended : Bool := false
  err : Option (Nat × Nat) := none
  deriving DecidableEq, Repr

/-- Whether a lane is one that exactly one card writes: an into-kernel port lane, or the input of a configured sluice. -/
def onceLane (d : Draft) (l : Nat) : Bool := isPort l || (isSluIn l && (d.sluc? (l - 0x1E00)).isSome)

/-- One card of the walk, at payload offset `o`. -/
def walkCard (d : Draft) (dom : Nat) (w : Walk) (x : Nat × Card) : Walk :=
  let o := x.1
  let c := x.2
  if w.err.isSome then w
  else if w.ended then { w with err := some (0x50, o) }
  else
    match cardCode d dom c with
    | some e => { w with err := some (e, o) }
    | none =>
      let n := w.cards + 1
      let clash := c.writes.elim false (fun l => w.course.any (fun y => y.1 == l && !(y.2 == opSUM && c.op == opSUM)))
      let held := w.held.orElse (fun _ => if 512 < n || clash then some o else none)
      let twice := (c.writes.elim false (fun l => onceLane d l && w.once.contains l)) ||
        (c.hasSlot && w.slots.contains c.state) || (c.meter && w.meters.contains c.midx) ||
        (c.op == opDLW && w.lines.contains c.line)
      let w1 := { w with
        slots := if c.hasSlot then c.state :: w.slots else w.slots
        meters := if c.meter then c.midx :: w.meters else w.meters
        lines := if c.op = opDLW then c.line :: w.lines else w.lines
        once := c.writes.elim w.once (fun l => if onceLane d l then l :: w.once else w.once)
        ended := c.op == opEND }
      if twice then { w1 with err := some (0x50, o) }
      else if c.courseEnd ∨ c.op = opEND then
        { w1 with course := [], cards := 0, held := none, err := held.map (fun h => (0x50, h)) }
      else { w1 with course := c.writes.elim w.course (fun l => (l, c.op) :: w.course), cards := n, held := held }

/-- One DECK chunk of the walk; a deck without END fails at its last card (log entry 14). -/
def walkDeck (d : Draft) (a : Walk × Option VErr) (c : Chunk) : Walk × Option VErr :=
  if a.2.isSome then a
  else
    let cs := (recs 16 c.pay).map (fun r => (r.1, cardFields (cardOf r.2)))
    let w := cs.foldl (walkCard d c.inst) { a.1 with course := [], cards := 0, held := none, ended := false }
    let e := w.err.orElse (fun _ => if w.ended then none else some (0x50, c.pay.length - 16))
    (w, e.map (fun x => ⟨x.1, .pay tagDECK c.inst x.2⟩))

/-- Lanes that no card writes: into-kernel port lanes, then sluice inputs (R120). -/
def unwritten (d : Draft) (w : Walk) : Option VErr :=
  let ks := sortKey (·.id) d.kerns
  let ss := sortKey (·.inst) (d.ofTag tagSLUC)
  ((ks.find? (fun k => k.ins.any (fun l => !w.once.contains l))).map (fun k => VErr.mk 0x50 (.pay tagKERN k.id 8))).orElse
    (fun _ => (ss.find? (fun c => !w.once.contains (0x1E00 + c.inst))).map (fun c => ⟨0x50, .hdr tagSLUC c.inst⟩))

/-! ## The stores of a commit (R127, R128) -/

/-- How a commit treats a store: it stays, loads bank 0, swaps banks, or takes commit edits. -/
inductive Way where
  | keep
  | load
  | swap
  | edits
  deriving DecidableEq, Repr

/-- The deck of a domain up to END. -/
def Draft.deckCut (d : Draft) (dom : Nat) : List (BitVec 128) :=
  let cs := d.deck dom
  let n := (cs.takeWhile (fun c => (cardFields c).op != opEND)).length
  cs.take (n + 1)

def Draft.cardTotal (d : Draft) : Nat := ((below 3).map (fun m => (d.deckCut m).length)).sum

/-- Whether the card store, and the coefficient store, take the wide layout (R127). -/
def Draft.cardsWide (d : Draft) : Bool := decide (8192 < d.cardTotal)
def Draft.coefsWide (d : Draft) : Bool := d.coefSegs.any (fun s => !s.2.2.isEmpty && decide (8192 < s.2.1 + s.2.2.length))

/-- Every covered coefficient: (instance, payload offset, index, word), in draft order. -/
def Draft.coefWords (d : Draft) : List (Nat × Nat × Nat × BitVec 32) :=
  d.coefSegs.flatMap (fun s => (s.2.2.zipIdx).map (fun w => (s.1, 4 + 4 * w.2, s.2.1 + w.2, w.1)))

/-- Whether two drafts hold the same coefficients. -/
def sameCoefs (a d : Draft) : Bool :=
  d.coefWords.all (fun w => a.coef w.2.2.1 == w.2.2.2) && a.coefWords.all (fun w => d.coef w.2.2.1 == w.2.2.2)

def sameCards (a d : Draft) : Bool := (below 3).all (fun m => a.deckCut m == d.deckCut m)

/-- The way of each store, decided separately (R128). With no deck in force a draft always loads. -/
def cardWay (force : Option Draft) (d : Draft) : Way :=
  match force with
  | none => .load
  | some f =>
    if f.cardTotal = 0 then .load
    else if sameCards f d then .keep
    else if !f.cardsWide && !d.cardsWide then .swap else .edits

def coefWay (force : Option Draft) (d : Draft) : Way :=
  match force with
  | none => .load
  | some f =>
    if f.cardTotal = 0 then .load
    else if sameCoefs f d then .keep
    else if !f.coefsWide && !d.coefsWide then .swap else .edits

/-- Differing entries of the stores that take commit edits, in draft order: tag, instance, payload offset. Coefficients
that no segment covers any more come last, with no chunk. -/
def diffEntries (f d : Draft) (cw kw : Way) : List (Option (Nat × Nat × Nat)) :=
  let here := d.chunks.flatMap (fun c =>
    if c.tag = tagDECK ∧ cw = .edits then
      (((d.deckCut c.inst).zip (f.deckCut c.inst)).zipIdx).filterMap (fun e =>
        if e.1.1 = e.1.2 then none else some (some (tagDECK, c.inst, 16 * e.2)))
    else if c.tag = tagCOEF ∧ kw = .edits then
      (d.coefWords.filter (fun w => w.1 == c.inst && f.coef w.2.2.1 != w.2.2.2)).map (fun w => some (tagCOEF, c.inst, w.2.1))
    else [])
  let gone := if kw = .edits then
      (f.coefWords.filter (fun w => w.2.2.2 != 0 && !(d.coefWords.any (fun x => x.2.2.1 == w.2.2.1)))).map (fun _ => none)
    else []
  here ++ gone

/-- The first DECK or COEF chunk of a draft that differs from the draft in force, or one that is gone. -/
def firstChanged (f d : Draft) (tags : List Nat) : Loc :=
  match d.chunks.find? (fun c => tags.contains c.tag && f.pay? c.tag c.inst != some c.pay) with
  | some c => .hdr c.tag c.inst
  | none => (f.chunks.find? (fun c => tags.contains c.tag && (d.pay? c.tag c.inst).isNone)).elim (.abs 0 0 0)
      (fun c => .hdr c.tag c.inst)

/-- The first DECK chunk whose length changes, or one that is gone (R525). -/
def lengthChanged (f d : Draft) : Loc :=
  match d.chunks.find? (fun c => c.tag == tagDECK && (f.deckCut c.inst).length != (d.deckCut c.inst).length) with
  | some c => .hdr c.tag c.inst
  | none => (f.chunks.find? (fun c => c.tag == tagDECK && (d.pay? c.tag c.inst).isNone)).elim (.abs 0 0 0) (fun c => .hdr c.tag c.inst)

/-- Code 0x51 (R128): more than 16,384 cards; a changed deck with another length; too many edits; positions that move. -/
def storeCheck (b : Block) (d : Draft) : Option VErr :=
  let l0 := (d.deckCut 0).length
  let l1 := (d.deckCut 1).length
  let above := (if 16384 < l0 then some (0, 16384) else if 16384 < l0 + l1 then some (1, 16384 - l0)
    else if 16384 < d.cardTotal then some (2, 16384 - l0 - l1) else none : Option (Nat × Nat))
  (above.map (fun x => VErr.mk 0x51 (.pay tagDECK x.1 (16 * x.2)))).orElse (fun _ =>
    match b.stg.force with
    | none => none
    | some f =>
      let cw := cardWay (some f) d
      let kw := coefWay (some f) d
      let es := diffEntries f d cw kw
      if cw = .edits && !((below 3).all (fun m => (f.deckCut m).length == (d.deckCut m).length)) then
        some ⟨0x51, lengthChanged f d⟩
      else if 256 < es.length then
        some ⟨0x51, (es.getD 256 none).elim (firstChanged f d [tagDECK, tagCOEF]) (fun x => .pay x.1 x.2.1 x.2.2)⟩
      else if cw = .edits && !(f.cardsWide && d.cardsWide) && b.loom.cardBank.bank != 0 then
        some ⟨0x51, firstChanged f d [tagDECK]⟩
      else if kw = .edits && !(f.coefsWide && d.coefsWide) && b.loom.coefBank.bank != 0 then
        some ⟨0x51, firstChanged f d [tagCOEF]⟩
      else none)

/-- Slots per second of one deck, times 100 (R93, R125). -/
def deckLoad (d : Draft) (fB dom : Nat) : Nat := deckSlots ((d.deckCut dom).map cardFields) * limitRate100 d fB dom

/-- Code 0x52 (R125), at the deck, in INST order, that takes the load over the limit. -/
def loadCheck (d : Draft) (fB : Nat) : Option VErr :=
  ((below 3).find? (fun m => decide (320000000000 < ((below (m + 1)).map (deckLoad d fB)).sum))).map
    (fun m => ⟨0x52, .hdr tagDECK m⟩)

def phase6 (b : Block) (d : Draft) : Option VErr :=
  let w := (d.ofTag tagDECK).foldl (walkDeck d) ({}, none)
  ((w.2.orElse (fun _ => unwritten d w.1)).orElse (fun _ => storeCheck b d)).orElse (fun _ => loadCheck d b.fB)

/-! ## Phase 7: placement and memory -/

/-- Basins that failed their test (R456). -/
def Block.badBasins (b : Block) : List Nat := (below 8).filter (fun n => b.rbit Reg.BSN_TEST n)

/-- Code 0x61 (R207): the first PLCE record that breaks a rule. -/
def plceCheck (b : Block) (d : Draft) : Option VErr :=
  (d.plces.find? (fun r =>
    let s := 8 * r.bobbin + r.spindle
    let one := r.bobbin != 0xFF && r.spindle != 0xFF
    (d.kern? r.kernel).isNone ||
    (r.kind == 0 && (d.plces.takeWhile (fun x => x.ofs != r.ofs)).any (fun x => x.kind == 0 && x.kernel == r.kernel)) ||
    (r.kind == 0 && forbidden d r.kernel s) || (r.kind == 1 && r.bobbin == 0xFF && r.spindle == 0xFF) ||
    (one && b.crl.fmap.contains s))).map (fun r => ⟨0x61, .pay tagPLCE 0 r.ofs⟩)

/-- A kernel that fits nowhere (R208). -/
def noFit (k : Nat) (near : Bool) : VErr := if near then ⟨0x62, .pay tagKERN k 0x10⟩ else ⟨0x60, .pay tagKERN k 4⟩

/-- Code 0x62 for the delay-line region (R234): the first line that ends above the staging buffer. -/
def lineCheck (b : Block) (d : Draft) : Option VErr :=
  ((sortKey (·.line) d.dlays).find? (fun r => decide (b.stagingBase < lineBase d r.line + 4 * lineWords r.len))).map
    (fun r => ⟨0x62, .pay tagDLAY 0 (r.ofs + 4)⟩)

/-- The first item whose addition takes a sum over a limit. -/
def overAt (limit : Nat) : Nat → List (Nat × Loc) → Option Loc
  | _, [] => none
  | acc, x :: r => if limit < acc + x.1 then some x.2 else overAt limit (acc + x.1) r

/-- Code 0x63 (R246). -/
def demandCheck (b : Block) (d : Draft) : Option VErr :=
  (overAt (100 * cstBudget b.cst.ecc b.cst.rate) 0 (demandItems d b.crl.fmap b.fB)).map (fun l => ⟨0x63, l⟩)

/-- Whether a kernel of a new draft continues: its chunk is byte-identical and it has a place, or one being loaded. -/
def Block.continues (b : Block) (d : Draft) (k : Nat) : Bool :=
  (b.stg.force.elim none (fun f => f.pay? tagKERN k)) == d.pay? tagKERN k &&
  ((b.runPlace k).isSome || b.crl.restarts.any (fun p => p.k == k))

/-- Where new and changed kernels start at block N (R218): each at its computed place or at an interim one. -/
def startPlaces (b : Block) (d : Draft) (share : List Nat) (computed : List CPlace) :
    List Kern → List Occ → List CPlace → Except VErr (List CPlace)
  | [], _, acc => .ok acc
  | k :: ks, os, acc =>
    if b.continues d k.id then startPlaces b d share computed ks os acc
    else
      let go := fun (c : CPlace) => startPlaces b d share computed ks (os ++ [occOf (draftSpb d b.fBlk k.dom) k c]) (acc ++ [c])
      match (computed.find? (fun c => c.k == k.id)).filter (fitsAt os k) with
      | some c => go c
      | none =>
        match firstFit d b.crl.fmap share b.fB os k with
        | .ok c => go c
        | .error near => .error (noFit k.id near)

/-- Phase 7: the starting places and the computed placement, or the first failure. -/
def phase7 (b : Block) (d : Draft) : Except VErr (List CPlace × List CPlace) :=
  match sysShare d b.fB b.badBasins with
  | .error e => .error e
  | .ok (sh, _) =>
    match plceCheck b d with
    | some e => .error e
    | none =>
      let p := placeAll d b.crl.fmap sh.used b.fB
      match p.2 with
      | (k, near) :: _ => .error (noFit k near)
      | [] =>
        match (lineCheck b d).orElse (fun _ => demandCheck b d) with
        | some e => .error e
        | none =>
          match startPlaces b d sh.used p.1 (placeOrder d) b.occ [] with
          | .error e => .error e
          | .ok st => .ok (st, p.1)

/-! ## Phase 8, PREP and the affected plies (R71, R78) -/

/-- Whether a chunk is the same in two drafts, absent in both included. -/
def sameChunk (a d : Draft) (tag inst : Nat) : Bool := a.pay? tag inst == d.pay? tag inst

/-- The keys of the chunks of one tag in either draft. -/
def bothInsts (a d : Draft) (tag : Nat) : List Nat := ((a.ofTag tag).map (·.inst) ++ (d.ofTag tag).map (·.inst)).eraseDups

/-- The instances of a tag whose chunk changes. -/
def changedInsts (a d : Draft) (tag : Nat) : List Nat := (bothInsts a d tag).filter (fun i => !sameChunk a d tag i)

/-- Whether a commit is cold (R78): a structural chunk differs. Without a draft in force it never is. -/
def isCold (force : Option Draft) (d : Draft) : Bool :=
  force.elim false (fun f => tagTable.any (fun t => t.2.2.2 && !(changedInsts f d t.1).isEmpty))

/-- The preparation estimate P (R71). -/
def prepBlocks (force : Option Draft) (d : Draft) : Nat :=
  let ks := (d.kerns.filter (fun k => (force.elim none (fun f => f.pay? tagKERN k.id)) != d.pay? tagKERN k.id)).map
    (fun k => 8 * k.progWords + k.xInit + k.yInit + k.sInit)
  let cw := cardWay force d
  let kw := coefWay force d
  let es := force.elim [] (fun f => diffEntries f d cw kw)
  let deckE := (es.filter (fun e => e.elim false (fun x => x.1 == tagDECK))).length
  let cards := match cw with
    | .keep => 0
    | .edits => deckE
    | _ => d.cardTotal
  let coefs := match kw with
    | .keep => 0
    | .edits => es.length - deckE
    | _ => d.coefWords.length
  satN 0xFFFF (2 + ceilDiv (ks.sum + 16 * cards + 4 * coefs) 65536)

/-- The lanes of a structural chunk's hardware. -/
def chunkLanes (d : Draft) (tag inst : Nat) : List Nat :=
  if tag = tagSKIN then (d.skin? inst).elim [] (fun k => upFrom k.firstLane k.lanes)
  else if tag = tagSLUC then [0x1E00 + inst, 0x1F00 + inst]
  else if tag = tagRILL then upFrom (0x1000 + 16 * inst) 16 ++ upFrom (0x1060 + 16 * inst) 16
  else if tag = tagJETS then bankLanes inst
  else []

/-- The SPEED and the address record of a media port (R61). -/
def portSig (d : Draft) (p : Nat) : Bytes :=
  (d.pay? tagPORT 0).elim (List.replicate 33 0) (fun b => (b.drop (8 + p)).take 1 ++ slice (0x10 + 32 * p) 32 b)

/-- The lane records of a ply. -/
def plySig (d : Draft) (r : PlyRec) : List (Nat × Nat × Nat) := r.lanes.filterMap (fun l => (d.lane? l).map (fun x => (l, x.dom, x.dir)))

/-- The affected plies of a cold commit of `d` over `f` (R78). -/
def affectedPlies (f d : Draft) : List Nat :=
  let lanes := [tagSKIN, tagSLUC, tagRILL, tagJETS].flatMap (fun t =>
    (changedInsts f d t).flatMap (fun i => chunkLanes f t i ++ chunkLanes d t i))
  let ports := (below 4).filter (fun p => portSig f p != portSig d p)
  let pl := (d.skins.filter (fun k => ports.contains k.portA || ports.contains k.portB)).flatMap (fun k => upFrom k.firstLane k.lanes)
  let x := f.domn
  let y := d.domn
  let fCh := x.fMult != y.fMult
  let xCh := x.xEn != y.xEn || x.xKind != y.xKind || x.xIdx != y.xIdx || x.xRate != y.xRate
  (d.plies.filter (fun r =>
    (f.ply? r.ply).elim true (fun o => plySig f o != plySig d r) || r.lanes.any (fun l => lanes.contains l || pl.contains l) ||
    (fCh && d.laneDom? r.first == some 0) || (xCh && d.laneDom? r.first == some 2))).map (·.ply)

/-! ## The whole of VALIDATE (R70) -/

/-- What a passed VALIDATE leaves: the effective draft, COLD, PREP, starting places and the computed placement. -/
structure Passed where
  eff : Draft
  cold : Bool
  prep : Nat
  start : List CPlace
  computed : List CPlace
  deriving DecidableEq, Repr

/-- A location as ERR_TAG, ERR_INST and ERR_OFS (R71, R525). -/
def Loc.resolve (d : Draft) : Loc → Nat × Nat × Nat
  | .abs t i o => (t, i, o)
  | .hdr t i => (t, i, ((d.chunk? t i).bind (·.off)).getD 0xFFFFFFFF)
  | .chdr t i o => (t, i, (((d.chunk? t i).bind (·.off)).map (· + o)).getD 0xFFFFFFFF)
  | .pay t i o => (t, i, (((d.chunk? t i).bind (·.off)).map (· + 16 + o)).getD 0xFFFFFFFF)

/-- A failure as ERR, ERR_TAG, ERR_INST, ERR_OFS. -/
def VErr.out (e : VErr) (d : Draft) : Nat × Nat × Nat × Nat := (e.code, e.loc.resolve d)

/-- All phases over the held bytes, of which `len` were announced (SYS_DFT_LEN, or LEN of a flash slot). -/
def Block.validateBytes (b : Block) (srcOk : Bool) (len : Nat) (bs : Bytes) : Except (Nat × Nat × Nat × Nat) Passed :=
  match parseDraft len bs with
  | .error e => .error (e.out {})
  | .ok p =>
    match phase2 srcOk b.stg.force p with
    | some e => .error (e.out p)
    | none =>
      let d := effective b.stg.force p
      match (phases35 d b.fB).orElse (fun _ => phase6 b d) with
      | some e => .error (e.out d)
      | none =>
        match phase7 b d with
        | .error e => .error (e.out d)
        | .ok (st, cp) =>
          let cold := isCold b.stg.force d
          if cold && !bit d.flags 1 then .error (0x70, 0, 0, 0x20)
          else .ok { eff := d, cold := cold, prep := prepBlocks b.stg.force d, start := st, computed := cp }

end Sys2Proof.Machine
end

