-- ==== Sys2Proof/Machine/Time.lean ====
section
/-! DEFINITION. The time unit: increment, slews, steps, spouts, captures and windows (spec/11_network_time.md, R304 to
R325). Instants are in units of 2^-32 ns of TSU time, stamps in 125 ps units. -/

namespace Sys2Proof.Machine

/-- Whether a write by master `m` to the registers of R307 is accepted; else MTX records it. -/
def Block.timeMaster (b : Block) (m a : Nat) (f : Block → Block) : Block :=
  if m = 13 ∨ m = 14 then f b else b.mtxFault mtxDENIED m (regBase + a) true

/-! ## Increment and slews (R305, R306) -/

/-- A write of TSU_INCR_HI applies the pair at the next tick, or leaves both registers (R305). -/
def Block.incrWrite (v : Nat) (b : Block) : Block :=
  let x := b.reg Reg.TSU_INCR_LO + 2 ^ 32 * (v % 4)
  if 0x1F8000000 ≤ x ∧ x ≤ 0x208000000 then
    (b.setReg Reg.TSU_INCR_HI (v % 4)).setTsu (fun t => { t with incrNext := some x })
  else b

/-- A write of TSU_ADJ_CNT starts a slew with the TSU_ADJ_FRAC then held (R306). -/
def Block.slewWrite (v : Nat) (b : Block) : Block :=
  let f := toS 32 (b.reg Reg.TSU_ADJ_FRAC)
  if 0x2000000 < f.natAbs then b else b.setTsu (fun t => { t with slewFrac := f, slewCnt := v % 2 ^ 32 })

/-! ## Steps (R310, R311) -/

/-- STEP_REQUEST: a write of TSU_STEP_CMD (R310). -/
def Block.stepWrite (v : Nat) (b : Block) : Block :=
  let d := toS 32 (b.reg Reg.TSU_STEP_SEC) * 1000000000 + toS 32 (b.reg Reg.TSU_STEP_NS)
  if !bit v 0 then b
  else if (b.reg Reg.TSU_JUMP_LIM < d.natAbs ∧ !bit v 1) ∨ b.tsu.step.isSome then b.tsuFault 1 1 0
  else b.setTsu (fun t => { t with step := some (d, t.ticks + 16) })

/-- STEP_APPLY: time runs to the tick of the pending step, which applies (R310, R311, R321). -/
def Block.stepApply (b : Block) : Block :=
  match b.tsu.step with
  | none => b
  | some (_, at') => b.runTicks (at' - b.tsu.ticks)

/-- ABSORB_DONE: the ticks are back on TSU time (R311). -/
def Block.absorbDone (b : Block) : Block :=
  if b.tsu.realign then b else b.runTicks (ceilDiv b.tsu.rem.natAbs slackTick.toNat)

/-- REALIGN_RELEASE: the ticks are on TSU time, and the muted plies are released at the first block tick from then on
(R311). Samples that a step back repeats run again. -/
def Block.realignRelease (b : Block) : Block :=
  if !b.tsu.realign then b
  else
    let b1 := b.setTsu (fun t => { t with rem := 0 })
    let b2 := b1.toBlk (b1.blk + 1)
    let b3 := { b2 with loom := { b2.loom with ended := [], sent := [] } }
    ((b3.setTsu (fun t => { t with realign := false })).unmute muRealign).setInt Reg.TSU_INT 2

/-! ## Reads that latch or remove (R308, R316, R322) -/

/-- NOW_READ (R308). -/
def Block.nowLatch (b : Block) : Block :=
  let t := b.tsu
  ((b.setReg Reg.TSU_NOW_FRAC t.frac).setReg Reg.TSU_NOW_SEC_LO (t.sec % 2 ^ 32)).setReg Reg.TSU_NOW_SEC_HI (t.sec / 2 ^ 32)

def Block.nowRead (b : Block) : Block := b.nowLatch.emit (.read (regBase + Reg.TSU_NOW_NS) 4 b.tsu.ns)

/-- TXS_READ: the oldest entry of the TXS FIFO is removed (R316). -/
def Block.txsNs (b : Block) : Nat := (b.tsu.txs.head?).elim 0 (fun e => stampNs e.stamp)
def Block.txsPop (b : Block) : Block := b.setTsu (fun t => { t with txs := t.txs.tail })
def Block.txsRead (b : Block) : Block := b.txsPop.emit (.read (regBase + Reg.TSU_TXS_NS) 4 b.txsNs)

/-- CAPTURE_READ: the oldest entry of a capture FIFO is removed (R322). -/
def Block.capNs (b : Block) (n : Nat) : Nat := ((tget {} b.tsu.caps n).fifo.head?).elim 0 (fun e => stampNs e.1)
def Block.capPop (n : Nat) (b : Block) : Block :=
  b.setTsu (fun t => { t with caps := tmod {} n (fun c => { c with fifo := c.fifo.tail }) t.caps })
def Block.capRead (n : Nat) (b : Block) : Block := (b.capPop n).emit (.read (regBase + Reg.TSU_CAP_NS n) 4 (b.capNs n))

/-! ## Spouts (R319, R320) -/

/-- The value within 2^31 s of the current seconds whose low 32 bits are given (R312). -/
def Block.nearSec (b : Block) (x : Nat) : Nat := ((b.tsu.sec : Int) + wrapS 32 ((x : Int) - b.tsu.sec)).toNat

def Block.spoutStart (b : Block) (n : Nat) (v : Nat) : Nat :=
  (b.nearSec (b.reg (Reg.TSU_SPT_SEC n)) * 1000000000 + b.rfld (Reg.TSU_SPT_NS n) 0 30) * 2 ^ 32 + fld v 5 3 * 2 ^ 29

def Block.spoutPeriod (b : Block) (n : Nat) : Nat :=
  b.rfld (Reg.TSU_SPT_PER_NS n) 0 30 * 2 ^ 32 + b.reg (Reg.TSU_SPT_PER_FRAC n)

/-- SPOUT_ARM: EN is written 1 while it is 0 (R319, R320). A pulse of an earlier arming ends on time. -/
def Block.spoutArm (n v : Nat) (b : Block) : Block :=
  let a := Reg.TSU_SPT_CTRL n
  let old := b.reg a
  let flags := setFld (setFld 0 4 1 (fld old 4 1 - fld old 4 1 * fld v 4 1)) 1 1 (fld old 1 1 - fld old 1 1 * fld v 1 1)
  let w := flags + fld v 8 24 * 256 + fld v 5 3 * 32 + fld v 3 1 * 8
  let st := b.spoutStart n v
  let per := b.spoutPeriod n
  let width := fld v 8 24 * 64 * 2 ^ 32
  if st < b.now + 1000 * 2 ^ 32 ∨ width = 0 ∨ (per ≠ 0 ∧ per < width + 64 * 2 ^ 32) then
    (b.setReg a (setFld w 4 1 1)).tsuFault 3 4 n
  else
    let old := tget {} b.tsu.spouts n
    let x : Spout := { armed := true, start := st, period := per, width := fld v 8 24, trail := old.trail,
                       level := if old.trail.isSome then old.level else bit v 3 }
    (b.setReg a (w + 1)).setTsu (fun t => { t with spouts := tput {} n x t.spouts })

/-- SPOUT_DISARM: EN is written 0; a pulse in progress ends first (R319). -/
def Block.spoutDisarm (n v : Nat) (b : Block) : Block :=
  let a := Reg.TSU_SPT_CTRL n
  let old := b.reg a
  let x := tget {} b.tsu.spouts n
  let keep := bit old 0
  let w := if keep then setFld old 0 1 0
    else setFld (fld v 8 24 * 256 + fld v 5 3 * 32 + fld v 3 1 * 8) 0 1 0 + fld old 4 1 * 16 + fld old 1 1 * 2
  let w1 := setFld (setFld w 4 1 (fld old 4 1 - fld old 4 1 * fld v 4 1)) 1 1 (fld old 1 1 - fld old 1 1 * fld v 1 1)
  let y := if x.trail.isSome then { x with ending := true } else { x with armed := false }
  (b.setReg a w1).setTsu (fun t => { t with spouts := tput {} n y t.spouts })

/-- A write of TSU_SPT_CTRL(n): while EN = 1 the WIDTH, SUB and POL fields do not change (R320). -/
def Block.spoutWrite (n v : Nat) (b : Block) : Block :=
  let a := Reg.TSU_SPT_CTRL n
  let old := b.reg a
  if !bit v 0 then b.spoutDisarm n v
  else if !bit old 0 then b.spoutArm n v
  else b.setReg a (setFld (setFld old 4 1 (fld old 4 1 - fld old 4 1 * fld v 4 1)) 1 1 (fld old 1 1 - fld old 1 1 * fld v 1 1))

/-- Names of balls in the output log. -/
def pinSpout (n : Nat) : Nat := n
def pinWcko (n : Nat) : Nat := 16 + n
def pinPmicReq : Nat := 33
def pinJetEn (n : Nat) : Nat := 64 + n

/-- SPOUT_EDGE: the next leading edge of an armed spout (R319). -/
def Block.spoutEdge (n : Nat) (b : Block) : Block :=
  let x := tget {} b.tsu.spouts n
  if !x.armed || x.trail.isSome || (x.period == 0 && x.k != 0) then b
  else
    let due := x.start + x.k * x.period
    let b1 := b.toTsu due
    let up := !b1.rbit (Reg.TSU_SPT_CTRL n) 3
    let lead := 16 * b1.tsu.ticks - (b1.now - due) / 2 ^ 29
    let y := { x with trail := some (lead + x.width * 512), ending := x.period == 0, k := x.k + 1, level := up }
    (b1.setTsu (fun t => { t with spouts := tput {} n y t.spouts })).emit (.edge (pinSpout n) up (due * 8 / 2 ^ 32 : Nat))

/-- SPOUT_TRAILING_EDGE: WIDTH x 64 ns after the leading edge, on the tick count, whatever becomes of TSU time (R319, R321). -/
def Block.spoutTrail (n : Nat) (b : Block) : Block :=
  let x := tget {} b.tsu.spouts n
  match x.trail with
  | none => b
  | some c =>
    let b1 := b.runTicks (ceilDiv c 16 - b.tsu.ticks)
    let x1 := tget {} b1.tsu.spouts n
    let y := { x1 with trail := none, ending := false, armed := x1.armed && !x1.ending, level := !x1.level }
    let b2 := (b1.setTsu (fun t => { t with spouts := tput {} n y t.spouts })).emit (.edge (pinSpout n) (!x1.level) (b1.stampAt c : Nat))
    if x1.ending then b2.setRfld (Reg.TSU_SPT_CTRL n) 0 1 0 else b2

/-! ## Captures and windows (R322, R323) -/

/-- WINDOW fault and event of window w. -/
def Block.winEvent (b : Block) (w : Nat) : Block := (b.setInt Reg.TSU_WIN_EVT w).tsuFault 5 6 w

/-- A stamp reaches window w (R323). -/
def Block.winSee (n t : Nat) (b : Block) (w : Nat) : Block :=
  let x := tget {} b.tsu.wins w
  let c := b.reg (Reg.TSU_WIN_CTRL w)
  if x.armed ∧ fld c 7 3 = n ∧ x.opn ≤ t ∧ t < x.cls then
    let b1 := b.setTsu (fun u => { u with wins := tput {} w { x with inside := true } u.wins })
    if bit c 6 && !x.inside then b1.winEvent w else b1
  else b

/-- CAPTURE: an edge on CATCHn, `falling` or rising (R322). -/
def Block.capture (n : Nat) (falling : Bool) (tap : Nat) (b : Block) : Block :=
  let a := Reg.TSU_CAP_CTRL n
  let c := b.reg a
  if n < 8 ∧ bit c 0 ∧ bit c (if falling then 2 else 1) then
    let x := tget {} b.tsu.caps n
    let t := b.stamp tap
    let k := b.clkStamp tap
    let b1 := b.setTsu (fun u => { u with caps := tput {} n { x with last := some k } u.caps })
    if x.last.any (fun l => k ≤ l + 64) then (b1.count a 24 8 1).tsuFault 4 5 n
    else
      let b2 := if 16 ≤ x.fifo.length then (b1.count a 16 8 1).tsuFault 4 5 n
        else (b1.setTsu (fun u => { u with caps := tput {} n { fifo := x.fifo ++ [(t, falling)], last := some k } u.caps })).setInt
          Reg.TSU_INT 5
      (below 16).foldl (Block.winSee n t) b2
  else b

/-- A time of a window, in 125 ps units. -/
def Block.winTime (b : Block) (sec ns sub : Nat) : Nat := (b.nearSec sec * 1000000000 + ns) * 8 + sub

/-- WINDOW_ARM: a write of TSU_WIN_CTRL(w) (R323). -/
def Block.winWrite (w v : Nat) (b : Block) : Block :=
  let a := Reg.TSU_WIN_CTRL w
  let old := b.reg a
  let x := tget {} b.tsu.wins w
  let ref := fld old 5 1 - fld old 5 1 * fld v 5 1
  let subs := if bit old 0 then fld old 10 6 else fld v 10 6
  let base := fld v 16 16 * 65536 + subs * 1024 + fld v 6 4 * 64 + ref * 32
  let put := fun (y : Win) (c : Block) => c.setTsu (fun t => { t with wins := tput {} w y t.wins })
  if !bit v 0 then put { x with armed := false } (b.setReg a base)
  else if bit old 0 then b.setReg a (base + 1)
  else
    let o := b.winTime (b.reg (Reg.TSU_WIN_OPEN_SEC w)) (b.rfld (Reg.TSU_WIN_OPEN_NS w) 0 30) (fld v 13 3)
    let c := b.winTime (b.reg (Reg.TSU_WIN_CLOSE_SEC w)) (b.rfld (Reg.TSU_WIN_CLOSE_NS w) 0 30) (fld v 10 3)
    let per := fld v 16 16 * 8000000
    if c ≤ o ∨ c < b.stamp 0 + 8000 ∨ (per ≠ 0 ∧ per < c - o) then b.setReg a (setFld base 5 1 1)
    else put { armed := true, opn := o, cls := c, inside := false } (b.setReg a (base + 1))

/-- WINDOW_CLOSE: the cycle of window w ends at close + 100 ns (R323). -/
def Block.winClose (w : Nat) (b : Block) : Block :=
  let x := tget {} b.tsu.wins w
  if !x.armed then b
  else
    let b1 := b.toTsu ((x.cls + 800) * 2 ^ 29)
    let c := b1.reg (Reg.TSU_WIN_CTRL w)
    let b2 := if !bit c 6 && !x.inside then b1.winEvent w else b1
    let per := fld c 16 16 * 8000000
    let y := if per = 0 then { x with armed := false } else { x with opn := x.opn + per, cls := x.cls + per, inside := false }
    let b3 := b2.setTsu (fun t => { t with wins := tput {} w y t.wins })
    if per = 0 then b3.setRfld (Reg.TSU_WIN_CTRL w) 0 1 0 else b3

/-! ## The commands -/

/-- INCREMENT_WRITE (R305). -/
def execIncrementWrite (m v : Nat) : State → Answer :=
  onRegBy m Reg.TSU_INCR_HI true (fun b => b.timeMaster m Reg.TSU_INCR_HI (Block.incrWrite v))
/-- SLEW (R306). -/
def execSlew (m v : Nat) : State → Answer := onRegBy m Reg.TSU_ADJ_CNT true (fun b => b.timeMaster m Reg.TSU_ADJ_CNT (Block.slewWrite v))
/-- SLEW_END (R306). -/
def execSlewEnd : State → Answer := onBlk (fun b => b.runTicks b.tsu.slewCnt)
/-- STEP_REQUEST (R310). -/
def execStepRequest (m v : Nat) : State → Answer := onRegBy m Reg.TSU_STEP_CMD true (fun b => b.timeMaster m Reg.TSU_STEP_CMD (Block.stepWrite v))
/-- STEP_APPLY (R310). -/
def execStepApply : State → Answer := onBlk Block.stepApply
/-- ABSORB_DONE (R311). -/
def execAbsorbDone : State → Answer := onBlk Block.absorbDone
/-- REALIGN_RELEASE (R311). -/
def execRealignRelease : State → Answer := onBlk Block.realignRelease
/-- NOW_READ (R308). -/
def execNowRead : State → Answer := onReg Reg.TSU_NOW_NS false Block.nowRead
/-- TXS_READ (R316). -/
def execTxsRead : State → Answer := onReg Reg.TSU_TXS_NS false Block.txsRead
/-- SPOUT_ARM (R320). -/
def execSpoutArm (n v : Nat) : State → Answer := onReg (Reg.TSU_SPT_CTRL n) true (Block.spoutWrite n v)
/-- SPOUT_DISARM (R319). -/
def execSpoutDisarm (n v : Nat) : State → Answer := onReg (Reg.TSU_SPT_CTRL n) true (Block.spoutWrite n v)
/-- SPOUT_EDGE (R319). -/
def execSpoutEdge (n : Nat) : State → Answer := onBlk (Block.spoutEdge n)
/-- SPOUT_TRAILING_EDGE (R319). -/
def execSpoutTrailingEdge (n : Nat) : State → Answer := onBlk (Block.spoutTrail n)
/-- CAPTURE (R322). -/
def execCapture (n : Nat) (falling : Bool) (tap : Nat) : State → Answer := onBlk (Block.capture n falling tap)
/-- CAPTURE_READ (R322). -/
def execCaptureRead (n : Nat) : State → Answer := onReg (Reg.TSU_CAP_NS n) false (Block.capRead n)
/-- WINDOW_ARM (R323). -/
def execWindowArm (w v : Nat) : State → Answer := onReg (Reg.TSU_WIN_CTRL w) true (Block.winWrite w v)
/-- WINDOW_CLOSE (R323). -/
def execWindowClose (w : Nat) : State → Answer := onBlk (Block.winClose w)

end Sys2Proof.Machine
end

