-- ==== Sys2Proof/Machine/Jet.lean ====
section
/-! DEFINITION. The jets and the sense inputs (spec/14_jets.md): the signal path, the protection chain, cuts, start and
stop, states and retries (R370 to R388). -/

namespace Sys2Proof.Machine

def Block.setJets (b : Block) (f : Jets → Jets) : Block := { b with jet := f b.jet }
def Block.jetOf (b : Block) (n : Nat) : Jet := tget {} b.jet.jets n
def Block.setJet (b : Block) (n : Nat) (x : Jet) : Block := b.setJets (fun j => { j with jets := tput {} n x j.jets })
def Block.bank (b : Block) (k : Nat) : Bank := tget {} b.jet.banks k
def Block.setBank (b : Block) (k : Nat) (x : Bank) : Block := b.setJets (fun j => { j with banks := tput {} k x j.banks })

/-- The leg balls of a jet: 0 A, 1 B. -/
def pinJetLeg (n k : Nat) : Nat := 128 + 2 * n + k

/-- Faults of a jet and of a sense input (R387, R388). -/
def Block.jetFault (b : Block) (code n : Nat) : Block := (b.setInt Reg.JET_INT (5 + code)).raise srcJET code 1 n n
def Block.snsFault (b : Block) (code i : Nat) : Block := (b.setInt Reg.SNS_INT (code - 1)).raise srcSNS code 1 i i

def Jet.modulating (x : Jet) : Bool := x.st == 1 || x.st == 2 || x.st == 3
def jetLane (n : Nat) : Nat := 0x10C0 + n
def jetsOf (k : Nat) : List Nat := upFrom (8 * k) 8

/-- PROT of a jet of the draft in force. -/
def Block.prot (b : Block) (n : Nat) : Prot := b.stg.force.elim {} (fun d => d.prot n)

/-! ## The carrier (R372) -/

def Bank.k (x : Bank) : Nat := 8 * 2 ^ x.carrier
def Bank.n (x : Bank) : Nat := 2 ^ (15 - x.carrier)

/-- The carrier period that is running. -/
def Block.period (b : Block) (k : Nat) : Nat := b.ticksAt ((b.bank k).k * b.fB)

/-- MIN_PULSE in grid counts, rounded up (R373). -/
def Block.minCounts (b : Block) (k : Nat) : Nat := ceilDiv ((b.bank k).minPulse * 125 * 128 * (8192 * b.fBlk)) 1000000000000

/-- The carrier period that begins at block tick `t`: every block tick is a carrier edge. -/
def Block.periodOf (b : Block) (k t : Nat) : Nat := t * ((b.bank k).k * (b.fB / b.fBlk))

/-- The edges of one carrier period (R375), in grid counts from its start. -/
def Block.legEdges (b : Block) (n per nn : Nat) (y : Int) : Block :=
  let wa : Int := (nn : Int) / 2 + y
  let wb : Int := (nn : Int) / 2 - y
  let ra := ((nn : Int) - wa) / 2
  let rb := ((nn : Int) - wb) / 2
  b.emitOut (.legs n per ra (ra + wa) rb (rb + wb))

/-- Both legs go low, and the driver enable with them. -/
def Block.jetLow (b : Block) (n : Nat) : Block :=
  ((b.emitOut (.pin (pinJetEn n) false)).emitOut (.pin (pinJetLeg n 0) false)).emitOut (.pin (pinJetLeg n 1) false)

/-! ## Cuts (R378, R379) -/

/-- The 8th limited period in a row moves the jet to SHORT (R379). -/
def Block.enterShort (b : Block) (n : Nat) : Block :=
  let x := b.jetOf n
  let b1 := b.setJet n { x with st := 4, stoppedAt := b.stamp 0, startAt := none, stopAt := none, offAt := none,
                                tripPend := 0, lvl := 0 }
  ((b1.jetLow n).count (Reg.JET_CNT n) 16 8 1).jetFault 1 n

/-- `c` more limited periods, the last of them period `p`. -/
def Block.limited (b : Block) (n p c run : Nat) : Block :=
  let b1 := (b.setJet n { b.jetOf n with limNext := p + 1, limCnt := min 8 run }).count (Reg.JET_CNT n) 0 16 c
  let b2 := b1.setInt Reg.JET_INT 0
  if 8 ≤ run then b2.enterShort n else b2

/-- While a cut lasts, every carrier period up to `p` is limited, until the 8th in a row. -/
def Block.limitTo (b : Block) (n p : Nat) : Block :=
  let x := b.jetOf n
  if !x.modulating ∨ x.cut = 0 ∨ p < x.limNext then b
  else
    let c := min (p + 1 - x.limNext) (8 - x.limCnt)
    b.limited n (x.limNext + c - 1) c (x.limCnt + c)

/-- CUT: a condition begins to hold both legs low (R378): 0 FLT_N, 1 the fast detector. -/
def Block.cutJet (n cause : Nat) (b : Block) : Block :=
  let p := b.period (n / 8)
  let b0 := b.limitTo n p
  let x := b0.jetOf n
  let b1 := b0.setJet n { x with cut := setFld x.cut (cause % 2) 1 1 }
  if !x.modulating then b1
  else
    let b2 := (b1.emitOut (.pin (pinJetLeg n 0) false)).emitOut (.pin (pinJetLeg n 1) false)
    if x.limNext = p + 1 then b2
    else b2.limited n p 1 (if x.limNext = p then x.limCnt + 1 else 1)

/-- CUT_END: a condition clears; with neither left the cut ends at the next carrier edge, and the legs switch again (R378). -/
def Block.cutClear (n cause : Nat) (b : Block) : Block :=
  let p := b.period (n / 8)
  let b1 := b.limitTo n p
  let x := b1.jetOf n
  let cut := setFld x.cut (cause % 2) 1 0
  let b2 := b1.setJet n { x with cut := cut }
  if x.cut ≠ 0 ∧ cut = 0 ∧ x.modulating then
    let b3 := b2.advance (tickInstant ((b.bank (n / 8)).k * b.fB) (p + 1))
    (x.ys.filter (fun e => decide (p < e.1))).foldl (fun z e => z.legEdges n e.1 (b.bank (n / 8)).n e.2) b3
  else b2

/-- SHORT: a cut reaches its 8th limited period in a row, at that period's start (R379). -/
def Block.shortJet (n : Nat) (b : Block) : Block :=
  let x := b.jetOf n
  if !x.modulating ∨ x.cut = 0 then b
  else
    let p := x.limNext + (8 - x.limCnt) - 1
    (b.advance (tickInstant ((b.bank (n / 8)).k * b.fB) p)).limitTo n p

/-! ## Trips (R380, R382) -/

/-- The stage temperature, in 0.1 °C. -/
def Block.stageT (b : Block) (n : Nat) : Int := toS 16 (b.reg (Reg.JET_STAGE_T n))

def Block.live? (b : Block) (i : Nat) : Bool := tget false b.jet.live i

/-- A jet in RUN whose stage is too hot, or that has lost a sense input, begins its stop at the next block tick with a
trip pending; a trip never comes from a stale value. -/
def Block.tripCheck (b : Block) (n : Nat) : Block :=
  let x := b.jetOf n
  let hot := !x.stale && decide (((b.prot n).tTrip : Int) ≤ b.stageT n)
  let lost := !b.live? (2 * n) || !b.live? (2 * n + 1)
  if x.st = 2 ∧ x.tripPend = 0 ∧ (hot ∨ lost) then
    b.setJet n { x with tripPend := if hot then 1 else 2, stopAt := some (x.stopAt.getD (b.blk + 1)) }
  else b

/-! ## Start and stop (R383 to R385) -/

/-- PRECHARGE begins (step 1 of a start). -/
def Block.precharge (b : Block) (n at' : Nat) : Block :=
  let x := b.jetOf n
  b.setJet n { x with st := 1, startAt := none, seqAt := at', lvl := 0, vPrev := 0, errs := [], fresh := true, rampT := 0,
                      sent := none, ys := [], limNext := max x.limNext (b.periodOf (n / 8) at'), stopAt := none, stopCnt := 0, offAt := none, tripPend := 0, limCnt := 0 }

/-- A hard stop (R384): EN deasserts and both legs go low at once. -/
def Block.hardStop (b : Block) (n : Nat) : Block :=
  let x := b.jetOf n
  if !x.modulating then b
  else ((b.setJet n { x with st := 0, lvl := 0, stopAt := none, offAt := none, tripPend := 0 }).jetLow n).setInt Reg.JET_INT 4

/-- What has come due for one jet at the block ticks so far. -/
def Block.jetDue (b : Block) (n : Nat) : Block :=
  let now := b.blk
  let due := fun (a : Option Nat) => a.elim false (fun t => decide (t ≤ now))
  let x0 := b.jetOf n
  let b1 := if x0.st = 0 ∧ due x0.startAt then b.precharge n (x0.startAt.getD now) else b
  let x1 := b1.jetOf n
  let b2 := if x1.st = 1 ∧ x1.seqAt + 1 ≤ now then
      ((b1.setJet n { x1 with st := 2, runAt := b1.stamp 0 }).emitOut (.pin (pinJetEn n) true)).tripCheck n
    else b1
  let x2 := b2.jetOf n
  let b3 := if x2.st = 2 ∧ due x2.stopAt then b2.setJet n { x2 with st := 3, stopAt := none, stopCnt := 0 } else b2
  let x3 := b3.jetOf n
  if x3.st = 3 ∧ due x3.offAt then
    let t := x3.tripPend
    let b4 := (b3.setJet n { x3 with st := if t = 0 then 0 else 5, reason := t, tripPend := 0, offAt := none,
                                     stoppedAt := b3.stamp 0 }).jetLow n
    if t = 0 then b4 else b4.jetFault 2 n
  else b3

/-- A bank changes state (JET_INT.BANK). -/
def Block.bankSt (b : Block) (k st : Nat) : Block := (b.setBank k { b.bank k with st := st }).setInt Reg.JET_INT 5

/-- The committed configuration of a bank (R56, R383): its jets return to OFF with no retries, and the models' temperatures
are the ambient (R377). -/
def Block.bankLoad (b : Block) (k : Nat) : Block :=
  match b.stg.force with
  | none => b
  | some d =>
    let has := (d.pay? tagJETS k).isSome
    let r0 := d.jet (8 * k)
    let en := ((below 8).map (fun i => b2n (d.jet (8 * k + i)).en * 2 ^ i)).sum
    let dom := ((jetsOf k).findSome? (fun n => d.laneDom? (jetLane n))).getD 0
    let b1 := b.setBank k { b.bank k with cfg := has, en := en, dom := dom, carrier := r0.carrier, minPulse := r0.minPulse,
                                          retry := r0.retry, reload := false }
    let b2 := (b1.setRfld (Reg.JET_BANK_CFG k) 16 2 r0.carrier).setRfld (Reg.JET_BANK_CFG k) 0 16 r0.retry
    (jetsOf k).foldl (fun y n =>
      let x := y.jetOf n
      let amb : Rat := (toS 16 (y.reg (Reg.JET_AMB n)) : Rat) / 10
      y.setJet n { x with st := 0, cfg := d.jet n, retries := 0, reason := 0, startAt := none, stopAt := none, offAt := none,
                          tMag := amb, tCoil := amb, iSum := 0, iCnt := 0, re := none, lvl := 0 }) b2

/-- What has come due for a bank: a hard stop, a start, a stop, and their ends. -/
def Block.bankDue (b : Block) (k : Nat) : Block :=
  let now := b.blk
  let due := fun (a : Option Nat) => a.elim false (fun t => decide (t ≤ now))
  let x := b.bank k
  let b1 := if due b.jet.hardAt then
      let y := (jetsOf k).foldl (fun y n => y.hardStop n) b
      if x.st = 0 then y
      else (y.setBank k { y.bank k with resume := x.st == 1 || x.st == 2, startAt := none, stopAt := none }).bankSt k 0
    else b
  let x1 := b1.bank k
  let b2 := if due x1.startAt ∧ x1.st = 0 ∧ x1.cfg then
      let t := x1.startAt.getD now
      let y := (b1.setBank k { x1 with startAt := none, startedAt := t }).bankSt k 1
      (jetsOf k).foldl (fun z n => if (z.jetOf n).cfg.en && (z.jetOf n).st == 0 then z.precharge n t else z) y
    else b1
  let x2 := b2.bank k
  let b3 := if due x2.stopAt ∧ (x2.st = 1 ∨ x2.st = 2) then
      let y := (b2.setBank k { x2 with stopAt := none }).bankSt k 3
      (jetsOf k).foldl (fun z n =>
        let j := z.jetOf n
        if j.st = 1 ∨ j.st = 2 then z.setJet n { j with stopAt := some (j.stopAt.getD now) } else z) y
    else b2
  let b4 := (jetsOf k).foldl Block.jetDue b3
  let x4 := b4.bank k
  if x4.st = 1 ∧ x4.startedAt + 1 ≤ now then b4.bankSt k 2
  else if x4.st = 3 ∧ (jetsOf k).all (fun n => !(b4.jetOf n).modulating) then
    let b5 := b4.bankSt k 0
    if x4.reload then b5.bankLoad k else b5
  else b4

/-- The block ticks at which a bank or one of its jets has a step of a start to take. -/
def Block.startTicks (b : Block) (k : Nat) : List Nat :=
  let x := b.bank k
  let js := (jetsOf k).flatMap (fun n =>
    let j := b.jetOf n
    (if j.st = 0 then j.startAt.toList else []) ++ (if j.st = 1 then [j.seqAt + 1] else []))
  x.startAt.toList ++ (if x.st = 1 then [x.startedAt + 1] else []) ++ js

/-- The same for a stop. -/
def Block.stopTicks (b : Block) (k : Nat) : List Nat :=
  let x := b.bank k
  let js := (jetsOf k).flatMap (fun n => let j := b.jetOf n; j.stopAt.toList ++ (if j.st = 3 then j.offAt.toList else []))
  x.stopAt.toList ++ b.jet.hardAt.toList ++ js

/-- The next of a bank's steps is taken, at its block tick. -/
def Block.nextStep (b : Block) (k : Nat) (ts : List Nat) : Block :=
  match ts.min? with
  | none => b
  | some t => (b.toBlk t).bankDue k

/-- The plies of the jets are released (R384): a bank stopped hard begins its start sequence at this block tick. -/
def Block.jetsResume (b : Block) : Block :=
  let b1 := (below 4).foldl Block.bankDue b
  let b2 := b1.setJets (fun j => { j with hardAt := none })
  (below 4).foldl (fun y k => if (y.bank k).resume then
    y.setBank k { y.bank k with resume := false, startAt := some y.blk } else y) b2

/-- BANK_START and BANK_STOP: a write of JET_BANK_CMD (R383). -/
def Block.bankCmd (k v : Nat) (b : Block) : Block :=
  let x := b.bank k
  let b1 := if bit v 0 && x.cfg && x.st == 0 then b.setBank k { x with startAt := some (b.blk + 1) } else b
  let y := b1.bank k
  if bit v 1 && (y.st == 1 || y.st == 2) then b1.setBank k { y with stopAt := some (b.blk + 1) } else b1

/-! ## The signal path (R373 to R376) -/

def ratMin (a b : Rat) : Rat := if a ≤ b then a else b
def ratMax (a b : Rat) : Rat := if a ≤ b then b else a
def ratAbs (a : Rat) : Rat := if a < 0 then -a else a

/-- The DC-bus voltage of a jet, in 0.1 V; a lost input gives 0 (R376, R382). -/
def Block.busV (b : Block) (k : Nat) : Rat :=
  if b.live? (64 + k) then ((tget (0 : Int) b.jet.meas (64 + k) : Int) : Rat) / 2 ^ 31 * b.rfld (Reg.SNS_BUS_FS k) 0 16 else 0

/-- g_sag (R376). -/
def sagGain (p : Prot) (v : Rat) : Rat :=
  if p.sagKnee = 0 ∨ (p.sagKnee : Rat) ≤ v then 1
  else if v ≤ p.sagFloor then 0
  else (v - p.sagFloor) / ((p.sagKnee : Rat) - p.sagFloor)

/-- A quotient of the models; by a constant that the draft leaves 0 it has no value in the manual, and is free (log entry 46). -/
def ratQuot (a b : Rat) : Rat := if b = 0 then Config.quotByZero a else a / b

/-- T_est of a jet (R377). -/
def Jet.tEst (x : Jet) (p : Prot) : Rat :=
  match x.re with
  | none => x.tCoil
  | some re => ratMax x.tCoil (25 + (ratQuot (re * 1000) p.reNom - 1) / (393 / 100000))

/-- g_coil (R376); 1 while the limiter is off (R370). -/
def coilGain (p : Prot) (t : Rat) : Rat :=
  if p.rthCoil = 0 then 1 else ratMin 1 (ratMax (1 / 16) (1 - (t - (p.tCoilMax : Rat) / 10 + 20) * 15 / 320))

/-- g_fold (R376), at most 1/2 while the stage temperature is stale (R380). -/
def foldGain (p : Prot) (t : Int) (stale : Bool) : Rat :=
  let g : Rat := if t ≤ p.tFold then 1 else if (p.tTrip : Int) ≤ t then 1 / 4
    else 1 - 3 / 4 * ((t - p.tFold : Int) : Rat) / (((p.tTrip : Int) - p.tFold : Int) : Rat)
  if stale then ratMin g (1 / 2) else g

/-- The applied gain follows its target (R376). -/
def gainStep (p : Prot) (r : Nat) (g gt : Rat) : Rat :=
  if gt < g then g + (if p.attack = 0 then 1 else ratMin 1 (1000000 / ((p.attack : Rat) * r))) * (gt - g)
  else g + (if p.release = 0 then 1 else ratMin 1 (1000 / ((p.release : Rat) * r))) * (gt - g)

/-- One step of the shaper (R374): the value of the period and the errors after it, newest first. -/
def shape (w : Rat) (es : List Rat) : Int × List Rat :=
  let e := fun (i : Nat) => es.getD i 0
  let u := w + 7 * e 0 - 21 * e 1 + 35 * e 2 - 35 * e 3 + 21 * e 4 - 7 * e 5 + e 6
  let y := ratHE u
  (y, ((y : Rat) - u) :: es.take 6)

/-- The carrier periods of one sample: interpolation, limit, shaper and edges (R373 to R375). The second part says
whether a limit acted. -/
def Block.jetPeriods (n nn m first : Nat) (cmax vp v : Rat) (low : Bool) : List Nat → Bool → Block → Bool × Block
  | [], c, b => (c, b)
  | j :: js, c, b =>
      let w0 := (vp + (j + 1 : Nat) * (v - vp) / m) * nn / 2
      let w := ratMin cmax (ratMax (-cmax) w0)
      let r := shape w (b.jetOf n).errs
      let x := b.jetOf n
      let b1 := b.setJet n { x with errs := r.2, ys := x.ys ++ [(first + j, r.1)] }
      let b2 := if low then b1 else b1.legEdges n (first + j) nn r.1
      Block.jetPeriods n nn m first cmax vp v low js (c || decide (w ≠ w0)) b2

/-- The pilot of a jet at sample tick `t` of its ramp-in (R377). -/
def pilotAt (p : Prot) (r t : Nat) : Rat := (p.pilot : Rat) / 32768 * ((sinTurn (6 * t) r : Rat) / 2 ^ 200)

/-- JET_SAMPLE: sample `s` of a jet's domain goes out from tick s + 3, once (R373). -/
def Block.jetSample (n s : Nat) (b : Block) : Block :=
  let k := n / 8
  let bk := b.bank k
  if !bk.cfg then b
  else
    let b0 := (b.toTick bk.dom (s + 3)).bankDue k
    let first := (s + 3) * bk.k / (if bk.dom = 0 then b.domn.fMult else 1)
    let b1 := b0.limitTo n first
    let x := b1.jetOf n
    if !x.modulating ∨ x.sent.any (fun e => decide (s ≤ e)) then b1
    else
      let p := b1.prot n
      let r := b1.rate bk.dom
      let m := bk.k / (if bk.dom = 0 then b.domn.fMult else 1)
      let sag := sagGain p (b1.busV x.cfg.busv)
      let gt := sag * x.gCoil * x.gFold
      let g := if x.fresh then gt else gainStep p r x.g gt
      let b2 := if sag < 1 ∧ x.gSag = 1 then b1.setInt Reg.JET_INT 1 else b1
      let ramp := x.st == 3 || (x.st == 2 && decide (x.seqAt + 2 ≤ b1.blk))
      let lvl := if ramp then lvlNext (x.st == 2 && !b1.laneMuted (jetLane n)) x.lvl else x.lvl
      let rho : Rat := (lvl : Rat) / 32
      let pil := if ramp then pilotAt p r x.rampT else 0
      let v := if x.st = 1 then 0 else rho * (g * ((b1.outLane (jetLane n) s : Rat) / 2 ^ 31) + pil)
      let stop := if x.st = 3 then x.stopCnt + 1 else 0
      let off := if x.st = 3 ∧ stop = 32 then some (ceilDiv (s + 4) (b1.spb bk.dom)) else x.offAt
      let b3 := b2.setJet n { x with gSag := sag, g := g, fresh := false, lvl := lvl, vPrev := v, stopCnt := stop, sent := some s, ys := [],
                                     offAt := off, rampT := if ramp then x.rampT + 1 else 0 }
      let cmax : Rat := (bk.n : Rat) / 2 - b1.minCounts k - 64
      let q := Block.jetPeriods n bk.n m first cmax x.vPrev v (x.cut != 0) (below m) false b3
      if q.1 then q.2.count (Reg.JET_CLIP n) 0 16 1 else q.2

/-! ## Temperatures (R376, R377, R380) -/

/-- The voice-coil model of one jet over one block (R377), in kelvins, watts and seconds. With the limiter off a time constant
may be 0 (R370). -/
def coilModel (p : Prot) (x : Jet) (amb : Rat) (fblk : Nat) : Jet :=
  let amp : Rat := (x.cfg.iFs : Rat) / 100
  let i2 : Rat := if x.iCnt = 0 then 0 else (x.iSum : Rat) / x.iCnt / 2 ^ 62 * amp * amp
  let re : Rat := (p.reNom : Rat) / 1000 * (1 + 393 / 100000 * (x.tCoil - 25))
  let pw := i2 * re
  let mag := x.tMag + ratQuot ((pw * p.rthMag / 1000 - (x.tMag - amb)) / fblk) ((p.tauMag : Rat) / 10)
  let coil := x.tCoil + ratQuot ((pw * p.rthCoil / 1000 - (x.tCoil - mag)) / fblk) ((p.tauCoil : Rat) / 1000)
  { x with tMag := mag, tCoil := coil, iSum := 0, iCnt := 0 }

/-- The thermal update of one jet (R376, R377). -/
def Block.thermal (b : Block) (n : Nat) : Block :=
  let p := b.prot n
  let x := coilModel p (b.jetOf n) ((toS 16 (b.reg (Reg.JET_AMB n)) : Rat) / 10) b.fBlk
  let gc := coilGain p (x.tEst p)
  let gf := foldGain p (b.stageT n) x.stale
  let b1 := b.setJet n { x with gCoil := gc, gFold := gf }
  let b2 := if gc < 1 ∧ x.gCoil = 1 then b1.setInt Reg.JET_INT 2 else b1
  let b3 := if gf < 1 ∧ x.gFold = 1 then b2.setInt Reg.JET_INT 3 else b2
  b3.tripCheck n

/-- THERMAL_UPDATE: at block tick `t` (R376, R377), for every enabled jet. -/
def Block.thermalUpdate (t : Nat) (b : Block) : Block :=
  let b1 := b.toBlk t
  let b2 := (below 4).foldl Block.bankDue b1
  ((below 32).filter (fun n => (b2.jetOf n).cfg.en)).foldl Block.thermal b2

/-- PILOT_MEASURE: the demodulated voltage and current at 6 Hz, real and imaginary parts in Q0.31 of full scale (R377). -/
def Block.pilotMeasure (n : Nat) (vr vi ir ii : Int) (b : Block) : Block :=
  let x := b.jetOf n
  let p := b.prot n
  if p.pilot = 0 ∨ !x.modulating then b
  else
    let i2 := ir * ir + ii * ii
    if i2 * 1000000 < 2 ^ 62 then b.setJet n { x with re := none }
    else
      let re : Rat := ratQuot (((vr * ir + vi * ii : Int) : Rat) / i2 * ((x.cfg.vFs : Rat) / 10)) ((x.cfg.iFs : Rat) / 100)
      b.setJet n { x with re := some re, reLast := re }

/-- STAGE_TEMP_WRITE by master `m`: masters 13 to 15 only (R380). -/
def Block.stageTempWrite (m n v : Nat) (b : Block) : Block :=
  if m < 13 then b.mtxFault mtxDENIED m (regBase + Reg.JET_STAGE_T n) true
  else
    let b1 := b.setReg (Reg.JET_STAGE_T n) (v % 2 ^ 16)
    (b1.setJet n { b1.jetOf n with stale := false, wroteAt := b1.stamp 0 }).tripCheck n

/-- TEMP_STALE: the stage temperature has not been written for 2 s (R380). -/
def Block.tempStale (n : Nat) (b : Block) : Block :=
  let x := b.jetOf n
  if x.stale then b
  else
    let b1 := b.afterNs ((x.wroteAt + 16000000000 - b.stamp 0) / 8)
    (b1.setJet n { x with stale := true }).jetFault 3 n

/-! ## Sense inputs (R381, R382) -/

/-- The lane of a sense input (R21). -/
def senseLane (i : Nat) : Nat := if i < 64 then 0x10E0 + i else 0x1120 + (i - 64)

def Block.setLive (b : Block) (i : Nat) (v : Bool) : Block := b.setJets (fun j => { j with live := tput false i v j.live })

/-- SENSE_LOST: a current or voltage input without transitions for 64 periods (R382). -/
def Block.senseLost (i : Nat) (b : Block) : Block :=
  if !b.live? i ∨ 64 ≤ i then b else ((b.setLive i false).snsFault 1 i).tripCheck (i / 2)

/-- BUS_LOST: a DC-bus input without transitions (R382). -/
def Block.busLost (k : Nat) (b : Block) : Block :=
  if !b.live? (64 + k) ∨ 8 ≤ k then b else (b.setLive (64 + k) false).snsFault 2 (64 + k)

/-- SENSE_LIVE (R382). -/
def Block.senseLive (i : Nat) (b : Block) : Block := if i < 72 then b.setLive i true else b

/-- SENSE_DELIVERY: input `i` delivers the decimated measurement of sample tick `s` of its lane's domain (R85, R381). The
jets take it whether or not the draft lists the lane. -/
def Block.senseDelivery (i s v : Nat) (b : Block) : Block :=
  let l := senseLane i
  let d := b.stg.force.bind (fun d => d.laneDom? l)
  let b0 := d.elim b (fun dom => b.toTick dom s)
  let w := if b.live? i then toS 32 v else 0
  let b1 := b0.setJets (fun j => { j with meas := tput 0 i w j.meas })
  let b2 :=
    if 64 ≤ i then
      let fs := b1.rfld (Reg.SNS_BUS_FS (i - 64)) 0 16
      b1.setReg (Reg.SNS_BUS (i - 64)) (ofS 16 (w * fs / 2 ^ 31))
    else if i % 2 = 0 then
      let x := b1.jetOf (i / 2)
      b1.setJet (i / 2) { x with iSum := x.iSum + w.natAbs * w.natAbs, iCnt := x.iCnt + 1 }
    else b1
  d.elim b2 (fun _ => b2.deliver l s w)

/-! ## Restarts and retries (R385, R386) -/

/-- A restart from SHORT, or from TRIP when the stage is cool and the sense inputs are live (R385). -/
def Block.tryRestart (b : Block) (n : Nat) : Bool × Block :=
  let x := b.jetOf n
  let cool := decide (b.stageT n ≤ (b.prot n).tFold) && b.live? (2 * n) && b.live? (2 * n + 1)
  if x.st = 4 ∨ (x.st = 5 ∧ cool) then
    (true, b.setJet n { x with st := 0, reason := 0, startAt := some (b.blk + 1) })
  else (false, b)

/-- JET_RESTART: a write of JET_CMD (R385). -/
def Block.jetRestart (n v : Nat) (b : Block) : Block :=
  let x := b.jetOf n
  if bit v 0 && (x.st == 4 || x.st == 5) then ((b.setJet n { x with retries := 0 }).tryRestart n).2 else b

/-- RETRY: RETRY ms after SHORT or TRIP (R386). -/
def Block.jetRetry (n : Nat) (b : Block) : Block :=
  let x := b.jetOf n
  let bk := b.bank (n / 8)
  let lim := b.rfld (Reg.JET_BANK_CFG (n / 8)) 24 8
  if bk.retry = 0 ∨ !(x.st == 4 || x.st == 5) ∨ lim ≤ x.retries then b
  else
    let b1 := b.afterNs ((x.stoppedAt + bk.retry * 8000000 - b.stamp 0) / 8)
    let b2 := b1.setJet n { x with retries := x.retries + 1 }
    let r := b2.tryRestart n
    if r.1 then r.2 else r.2.setJet n { r.2.jetOf n with stoppedAt := r.2.stamp 0 }

/-- RETRY_CLEAR: 1 s in RUN (R386). -/
def Block.retryClear (n : Nat) (b : Block) : Block :=
  let x := b.jetOf n
  if x.st ≠ 2 then b
  else (b.afterNs ((x.runAt + 8000000000 - b.stamp 0) / 8)).setJet n { x with retries := 0 }

/-! ## Configuration by a commit (R383, R385) -/

/-- A commit carries a bank's chunk: a running bank stops first, and then loads. -/
def Block.bankConfig (b : Block) (k : Nat) : Block :=
  if (jetsOf k).any (fun n => (b.jetOf n).modulating) then
    (b.setBank k { b.bank k with reload := true, startAt := none, stopAt := some b.blk }).bankDue k
  else (b.setBank k { b.bank k with st := 0, startAt := none, stopAt := none }).bankLoad k

/-! ## A unit that does not drive (R405) -/

/-- A ball of a unit that does not drive: low, or high-impedance (R405). -/
def Block.fencePin (b : Block) (hiz : Bool) (p : Nat) : Block := b.emit (if hiz then .hiz p else .pin p false)

/-- The outputs of a unit that stops driving (R405). -/
def Block.fenceOut (b : Block) : Block :=
  let hiz := b.rbit Reg.PAR_CFG 1
  let js := (below 32).filter (fun n => (b.jetOf n).cfg.en)
  let rs := (below 48).filter (fun n => (b.rill n).role != 2)
  let b1 := js.foldl (fun x n => [pinJetEn n, pinJetLeg n 0, pinJetLeg n 1].foldl (fun y p => y.fencePin hiz p) x) b
  rs.foldl (fun x n =>
    (pinRill n 0 :: (if (b.rill n).role = 0 then [pinRill n 1, pinRill n 2] else [])).foldl (fun y p => y.fencePin hiz p) x) b1

/-- The balls of a unit that does not drive follow PAR_CFG.HIZ and the outputs in use. -/
def Block.fenceCheck (b : Block) : Block := if b.drives then b else b.fenceOut

/-! ## Views -/

def Block.bankStatView (b : Block) (k : Nat) : Nat :=
  let x := b.bank k
  let run := ((below 8).map (fun i => b2n ((b.jetOf (8 * k + i)).st == 2) * 2 ^ i)).sum
  x.en * 2 ^ 16 + run * 2 ^ 8 + x.st

def Block.jetStatView (b : Block) (n : Nat) : Nat :=
  let x := b.jetOf n
  let lim := if x.gSag = 1 ∧ x.gCoil = 1 ∧ x.gFold = 1 then 0
    else if x.gSag ≤ x.gCoil ∧ x.gSag ≤ x.gFold then 1 else if x.gCoil ≤ x.gFold then 2 else 3
  let p := b.period (n / 8)
  let cnt := if x.modulating ∧ x.cut ≠ 0 then min 8 (x.limCnt + (p + 1 - x.limNext))
    else if x.st = 4 ∨ p ≤ x.limNext then x.limCnt else 0
  cnt * 2 ^ 24 + lim * 2 ^ 16 + x.reason * 2 ^ 8 + b2n x.stale * 8 + x.st

/-- The jet registers that show exact values; a jet that has not been updated since reset shows the reset values. -/
def Block.jetGainView (b : Block) (n : Nat) : Nat := (roundView (Reg.JET_GAIN n) ((b.jetOf n).g * 2 ^ 30)).toNat % 2 ^ 32

def Block.jetGainsView (b : Block) (n : Nat) : Nat :=
  let x := b.jetOf n
  let q := fun (i : Nat) (r : Rat) => (roundView (Reg.JET_GAINS n + i) (r * 512)).toNat % 1024
  if x = {} then 0 else (x.gFold * 512).floor.toNat % 1024 * 2 ^ 20 + q 1 x.gCoil * 2 ^ 10 + q 0 x.gSag

def Block.jetTempView (b : Block) (n : Nat) : Nat :=
  let x := b.jetOf n
  if x = {} then 0
  else ofS 16 (roundView (Reg.JET_TEMP n + 2) (x.tMag * 10)) * 2 ^ 16 + ofS 16 (roundView (Reg.JET_TEMP n) (x.tEst (b.prot n) * 10))

def Block.jetReView (b : Block) (n : Nat) : Nat :=
  let x := b.jetOf n
  b2n x.re.isSome * 2 ^ 31 + (roundView (Reg.JET_RE n) (x.reLast * 1000)).toNat % 2 ^ 24

/-- SNS_LIVE_LO, SNS_LIVE_HI and SNS_BUS_LIVE. -/
def Block.liveView (b : Block) (first n : Nat) : Nat := ((below n).map (fun i => b2n (b.live? (first + i)) * 2 ^ i)).sum

/-! ## The commands -/

/-- JET_SAMPLE (R373). -/
def execJetSample (n s : Nat) : State → Answer := onBlk (Block.jetSample n s)
/-- CUT (R378). -/
def execCut (n cause : Nat) : State → Answer := onBlk (Block.cutJet n cause)
/-- CUT_END (R378). -/
def execCutEnd (n cause : Nat) : State → Answer := onBlk (Block.cutClear n cause)
/-- SHORT (R379). -/
def execShort (n : Nat) : State → Answer := onBlk (Block.shortJet n)
/-- THERMAL_UPDATE (R377). -/
def execThermalUpdate (t : Nat) : State → Answer := onBlk (Block.thermalUpdate t)
/-- PILOT_MEASURE (R377). -/
def execPilotMeasure (n : Nat) (vr vi ir ii : Int) : State → Answer := onBlk (Block.pilotMeasure n vr vi ir ii)
/-- STAGE_TEMP_WRITE (R380). -/
def execStageTempWrite (m n v : Nat) : State → Answer := onRegBy m (Reg.JET_STAGE_T n) true (Block.stageTempWrite m n v)
/-- TEMP_STALE (R380). -/
def execTempStale (n : Nat) : State → Answer := onBlk (Block.tempStale n)
/-- SENSE_LOST (R382). -/
def execSenseLost (i : Nat) : State → Answer := onBlk (Block.senseLost i)
/-- BUS_LOST (R382). -/
def execBusLost (k : Nat) : State → Answer := onBlk (Block.busLost k)
/-- SENSE_LIVE (R382). -/
def execSenseLive (i : Nat) : State → Answer := onBlk (Block.senseLive i)
/-- BANK_START (R383). -/
def execBankStart (k v : Nat) : State → Answer := onReg (Reg.JET_BANK_CMD k) true (Block.bankCmd k v)
/-- BANK_STOP (R383). -/
def execBankStop (k v : Nat) : State → Answer := onReg (Reg.JET_BANK_CMD k) true (Block.bankCmd k v)
/-- START_SEQUENCE (R383). -/
def execStartSequence (k : Nat) : State → Answer := onBlk (fun b => b.nextStep k (b.startTicks k))
/-- STOP_SEQUENCE (R383). -/
def execStopSequence (k : Nat) : State → Answer := onBlk (fun b => b.nextStep k (b.stopTicks k))
/-- JET_RESTART (R385). -/
def execJetRestart (n v : Nat) : State → Answer := onReg (Reg.JET_CMD n) true (Block.jetRestart n v)
/-- RETRY (R386). -/
def execRetry (n : Nat) : State → Answer := onBlk (Block.jetRetry n)
/-- RETRY_CLEAR (R386). -/
def execRetryClear (n : Nat) : State → Answer := onBlk (Block.retryClear n)
/-- SENSE_DELIVERY (R381). -/
def execSenseDelivery (i s v : Nat) : State → Answer := onBlk (Block.senseDelivery i s v)

end Sys2Proof.Machine
end

