-- ==== Sys2Proof/Machine/Wellhead.lean ====
section
/-! DEFINITION. The wellhead: quality, qualification, selection, the DPLL and holdover, the PLLs, the family switch and the
word-clock outputs (spec/12_wellhead.md, R326 to R354; R92). Frequency offsets are Q16.16 ppb. -/

namespace Sys2Proof.Machine

def Block.setWlh (b : Block) (f : Wlh → Wlh) : Block := { b with wlh := f b.wlh }
def Block.cand (b : Block) (c : Nat) : Cand := tget {} b.wlh.cands c
def Block.setCand (b : Block) (c : Nat) (x : Cand) : Block := b.setWlh (fun w => { w with cands := tput {} c x w.cands })
def Block.ql (b : Block) (n : Nat) : Ql := tget {} b.wlh.qls n
def Block.setQl (b : Block) (n : Nat) (x : Ql) : Block := b.setWlh (fun w => { w with qls := tput {} n x w.qls })

/-- A fault of R354: record, INT bit, and the candidate concerned. -/
def Block.wlhFault (b : Block) (code cls c : Nat) : Block := (b.setInt Reg.WLH_INT (code - 1)).raise srcWLH code cls c c

/-! ## Quality (R332 to R337) -/

/-- The quality input of a candidate (R329). -/
def qlOf (c : Nat) : Option Nat :=
  match c with
  | 4 => some 0
  | 5 => some 1
  | 7 => some 2
  | 8 => some 3
  | _ => none

/-- The level in force on a quality input: the worse of the last two valid frames', 15 before two have arrived (R334). -/
def Ql.level (q : Ql) : Nat := if q.good < 2 then 15 else max q.prevLevel q.lastLevel

/-- Whether a candidate's quality is stale. -/
def Block.candStale (b : Block) (c : Nat) : Bool :=
  match qlOf c with
  | some n => (b.ql n).stale || decide ((b.ql n).good < 2)
  | none => if c = 10 then !b.par.twin.seen else (b.cand c).stale

/-- The level of a candidate: 15 if its quality is stale (R332). -/
def Block.candLevel (b : Block) (c : Nat) : Nat :=
  if c = 11 ∨ b.candStale c then 15
  else match qlOf c with
    | some n => (b.ql n).level
    | none => if c = 10 then (if b.par.twin.level = 15 then 15 else min 14 (b.par.twin.level + 1)) else (b.cand c).level

/-- The family a candidate carries; none for a family-neutral one (R330). -/
def Block.candFam (b : Block) (c : Nat) : Option Nat :=
  if c = 10 then some (fld b.par.twin.wlh 4 1)
  else if 4 ≤ c ∧ c ≤ 6 then (b.cand c).fam else none

/-- R342. -/
def Block.eligible (b : Block) (c : Nat) : Bool :=
  decide (c < 11) && (b.cand c).st == 3 && decide (b.candLevel c ≤ 14) &&
  ((b.candFam c).all (fun f => f == b.wlh.family) || b.rbit Reg.WLH_CTRL 1)

def Block.rank (b : Block) (c : Nat) : Nat := if c = 11 then 0xFF else b.rfld (Reg.WLH_CAND_CFG c) 0 8

/-! ## The family switch (R92) -/

/-- Convert a block number of a tick not yet reached to the first block tick of the new family at or after its time. -/
def famConv (now fOld fNew n : Nat) : Nat := if now < n then ceilDiv (n * fNew) fOld else n

/-- Convert a register pair that holds a block number. -/
def Block.convReg (b : Block) (conv : Nat → Nat) (lo hi : Nat) : Block := b.setReg64 lo hi (conv (b.reg64 lo hi))

/-- The block numbers that running kernels and migrations hold. A block that has been reached keeps its place in time, so that
what has begun has begun under the new numbers (DEDUCED, log entry 16). -/
def creelConv (conv : Nat → Nat) (c : Creel) : Creel :=
  let place := fun (p : Place) => { p with first := conv p.first, last := p.last.map conv, outFrom := conv p.outFrom,
                                           zeroFrom := p.zeroFrom.map conv, staged := p.staged.map conv,
                                           outOwed := p.outOwed.map conv, doneBlks := p.doneBlks.map conv,
                                           wrote := p.wrote.map (fun e => (conv e.1, e.2)) }
  { c with run := c.run.map place, migs := c.migs.map (fun m => { m with c := conv m.c, verdicts := m.verdicts.map (fun v => (conv v.1, v.2)) }),
           retry := c.retry.map (fun r => (r.1, r.2.1, conv r.2.2.1, r.2.2.2)) }

/-- Block numbers that the jets hold. -/
def jetsConv (f : Nat → Nat) (j : Jets) : Jets :=
  let jet := fun (x : Jet) => { x with startAt := x.startAt.map f, seqAt := f x.seqAt, stopAt := x.stopAt.map f,
                                       offAt := x.offAt.map f }
  let bank := fun (x : Bank) => { x with startAt := x.startAt.map f, startedAt := f x.startedAt, stopAt := x.stopAt.map f }
  { j with jets := j.jets.map (fun e => (e.1, jet e.2)), banks := j.banks.map (fun e => (e.1, bank e.2)),
           hardAt := j.hardAt.map f }

/-- FIRST_BLK and LAST_BLK of the descriptors of a run list, by the first entry's address. -/
def Block.convDescs (conv : Nat → Nat) : Nat → Nat → Block → Block
  | 0, _, b => b
  | n + 1, a, b =>
    let d := descOf (b.rdBytes a 64)
    if !d.valid then b
    else
      let b1 := (b.wrLE (a + 0x30) 8 (conv d.first)).wrLE (a + 0x38) 8 (if d.last = noLast then noLast else conv d.last)
      Block.convDescs conv n (a + 64) b1

/-- The run lists of a spindle: the one in force, and the next one while a switch is armed. -/
def Block.convLists (conv : Nat → Nat) (b : Block) (s : Nat) : Block :=
  let base := basinBase (s / 8)
  let b1 := Block.convDescs conv 32 (base + b.reg (Reg.SPN_RL_PTR (s / 8) (s % 8))) b
  if b.rbit (Reg.SPN_SCTRL (s / 8) (s % 8)) 1 then Block.convDescs conv 32 (base + b.reg (Reg.SPN_RL_NXT (s / 8) (s % 8))) b1 else b1

/-- The block and release numbers of a spindle at work. -/
def spnConv (conv : Nat → Nat) (x : Spindle) : Spindle :=
  let desc := fun (d : Desc) => { d with first := conv d.first, last := if d.last = noLast then noLast else conv d.last }
  { x with blk := conv x.blk, rel := conv x.rel, desc := desc x.desc, todo := x.todo.map (fun e => (e.1, desc e.2)) }

/-- The family changes to `f` (R92). -/
def Block.familySwitch (f : Nat) (b : Block) : Block :=
  if f = b.wlh.family ∨ 1 < f then b
  else
    let fNew := if f = 1 then 11025 else 12000
    let conv := famConv b.blk b.fBlk fNew
    let all := fun (n : Nat) => if n ≤ b.blk then n * fNew / b.fBlk else conv n
    let at' := fun (dom : Nat) => b.tickTime * (b.rate dom / b.fB * (4 * fNew)) / secFrac
    let b0 := ((b.reindex 0 (at' 0)).reindex 1 (at' 1)).abandon none
    let b1 := ((b0.muteNext muFamily (b.domPlies [0, 1])).hardStopNext)
    let b2 := ((b1.convReg conv Reg.LOM_EDIT_AT_LO Reg.LOM_EDIT_AT_HI).convReg conv Reg.CST_FCHG_AT_LO Reg.CST_FCHG_AT_HI)
    let b3 := (below 8).foldl (fun x n => x.convReg conv (Reg.CST_RSV_AT_LO n) (Reg.CST_RSV_AT_HI n)) b2
    let b4 : Block := (below 64).foldl (fun x s => x.convReg conv (Reg.SPN_RL_AT_LO (s / 8) (s % 8)) (Reg.SPN_RL_AT_HI (s / 8) (s % 8))) b3
    let b4 : Block := ((b4.crl.run.map (·.s)).eraseDups).foldl (Block.convLists all) b4
    let lm : Loom := { b4.loom with edits := b4.loom.edits.map (fun e => { e with due := conv e.due }),
                                    lines := b4.loom.lines.map (fun e => (e.1, { e.2 with fetched := all e.2.fetched })) }
    let cs : Cistern := { b4.cst with fchg := b4.cst.fchg.map (fun e => (conv e.1, e.2)),
                                      rsv := b4.cst.rsv.map (fun e => if e.2.run then e else (e.1, { e.2 with begin := conv e.2.begin })) }
    let mf := b4.muteFrom.map (fun e => (e.1, conv e.2))
    let par := { b4.par with e := conv b4.par.e, g := conv b4.par.g, resign := b4.par.resign.map conv,
                             twinResign := b4.par.twinResign.map conv }
    let w := { b4.wlh with family := f, famSwitch := true }
    let b5 : Block := { b4 with loom := lm, muteFrom := mf, crl := creelConv all b4.crl, jet := jetsConv all b4.jet, par := par, wlh := w,
                                cst := cs, spns := b4.spns.map (fun e => (e.1, spnConv all e.2)),
                                sys := { b4.sys with leaveAt := conv b4.sys.leaveAt } }
    b5.divAll.refill (fun i => if (b.skein? i).any (fun q => q.2.1 == 2) then b.heldWords i else reKey b.fBlk fNew (b.heldWords i))

/-- FAMILY_RELEASE: the audio master reports lock; the plies are released at the first block tick after (R92). -/
def Block.familyRelease (b : Block) : Block :=
  if !b.wlh.famSwitch then b
  else
    let b1 := b.toBlk (b.blk + 1)
    let b2 := (b1.setWlh (fun w => { w with famSwitch := false })).unmute muFamily
    if b2.wlh.unlockMute then b2 else b2.jetsResume

/-! ## The window of the XO estimate (R339) -/

/-- LOCKED to the selected candidate, and that of level 6 or better. -/
def Block.estGood (b : Block) : Bool :=
  b.wlh.st == 2 && b.wlh.cur == b.wlh.sel && b.wlh.sel.any (fun c => decide (b.candLevel c ≤ 6))

/-- The condition holds throughout a window or there is none: an event that ends it ends the window. -/
def Block.estCheck (b : Block) : Block :=
  if b.wlh.estOn && !b.estGood then b.setWlh (fun w => { w with estOn := false, estSecs := 0 }) else b

/-- A second of the window ends: only a whole second counts. -/
def Block.estTick (b : Block) : Block :=
  if b.estGood then b.setWlh (fun w => { w with estOn := true, estSecs := if w.estOn then w.estSecs + 1 else 0 }) else b.estCheck

/-! ## Selection (R343 to R345) -/

/-- Two candidates agree (R343). -/
def Block.agree (b : Block) (c d : Nat) : Bool :=
  decide (((b.cand c).y16 - (b.cand d).y16).natAbs ≤ b.reg Reg.WLH_AGREE * 65536)

def allAgree (ag : Nat → Nat → Bool) (g : List Nat) : Bool := g.all (fun c => g.all (fun d => ag c d))

/-- The choice within the groups, best first: the selection, whether a disagreement was met, and its group's members. -/
def chooseIn (ag : Nat → Nat → Bool) (voters : List Nat) (cur : Option Nat) :
    List (List Nat) → Option Nat × List Nat → Option Nat × List Nat
  | [], acc => acc
  | g :: r, acc =>
    let pick := fun (l : List Nat) => match cur.filter (fun c => l.contains c) with
      | some c => some c
      | none => l.head?
    if allAgree ag g then (pick g, acc.2)
    else
      let votes := g.map (fun c => (c, (voters.filter (fun d => d != c && ag d c)).length))
      let top := votes.foldl (fun m v => max m v.2) 0
      let w := (votes.filter (fun v => v.2 == top)).map (·.1)
      if 0 < top ∧ allAgree ag w then (pick w, g)
      else match cur.filter (fun c => g.contains c) with
        | some c => (some c, g)
        | none => chooseIn ag voters cur r (none, g)

/-- Eligible candidates grouped by level and rank, best group first, each in index order. -/
def Block.groups (b : Block) : List (List Nat) :=
  let el := (below 11).filter b.eligible
  let keys := (sortKey id (el.map (fun c => b.candLevel c * 256 + b.rank c))).eraseDups
  keys.map (fun k => el.filter (fun c => b.candLevel c * 256 + b.rank c == k))

/-- |y16 - y256| of a candidate. -/
def Block.candU (b : Block) (c : Nat) : Nat := ((b.cand c).y16 - (b.cand c).y256).natAbs

/-- The selected candidate becomes `s`; its family is followed (R345), and its u is that of the last one selected (R349). -/
def Block.setSel (b : Block) (s : Option Nat) : Block :=
  let b1 := (b.setWlh (fun w => { w with sel := s, selU := s.elim w.selU b.candU })).estCheck
  match s.bind b1.candFam with
  | some f => if s = b.wlh.sel then b1 else b1.familySwitch f
  | none => b1

/-- An evaluation of the selection (R343, R344); `force` for RESELECT. -/
def Block.select (b : Block) (force : Bool) : Block :=
  if !b.rbit Reg.WLH_CTRL 0 && !force && b.wlh.sel.any b.eligible then b
  else
    let voters := (below 11).filter (fun c => (b.cand c).st == 3)
    let r := chooseIn b.agree voters b.wlh.sel b.groups (none, [])
    let cs := (below 11).foldl (fun t c => tmod {} c (fun x => { x with disagree := r.2.contains c }) t) b.wlh.cands
    let b1 := b.setWlh (fun w => { w with cands := cs, disagree := !r.2.isEmpty })
    let b2 := match r.2 with
      | [] => b1
      | c :: _ => b1.wlhFault 3 0 c
    b2.setSel r.1

/-- An evaluation after an event that may have made the selected candidate ineligible (R344). -/
def Block.selectIfLost (b : Block) : Block := if b.wlh.sel.all b.eligible then b.estCheck else b.select false

/-! ## Qualification (R338, R341) -/

/-- A candidate enters ABSENT from ARMING or QUALIFIED, or from DISQUALIFIED (R341). -/
def Block.candLost (c : Nat) (b : Block) : Block :=
  let x := b.cand c
  let y := { x with present := false, hist := [], dur := 0, y1 := 0, y16 := 0, y256 := 0, fam := none }
  let go := decide (2 ≤ x.st)
  let b1 := b.setCand c { y with st := if go then 1 else x.st }
  let b2 := if x.st = 2 ∨ x.st = 3 then b1.count (Reg.WLH_CAND_CNT c) 16 16 1 else b1
  if x.st = 3 then b2.wlhFault 2 0 c else b2

/-- Mean of the newest `n` measurements, or of those there are (R338). -/
def Block.meanOf (b : Block) (l : List Int) (n : Nat) : Int × Block :=
  let k := l.take n
  b.drawRound k.sum (max 1 k.length)

/-- The measured family and the nominal rate, in Hz, of a rate in nHz (R331). -/
def famOfRate (r : Nat) : Option (Nat × Nat) :=
  ([(1, 44100), (1, 88200), (1, 176400), (0, 48000), (0, 96000), (0, 192000)] : List (Nat × Nat)).find? (fun e =>
    decide (((r : Int) - (e.2 * 1000000000 : Nat)).natAbs * 1000 ≤ e.2 * 1000000000))

/-- The offset of a candidate against XO_HOLD enters its windows (R338). -/
def Block.measured (b : Block) (c : Nat) (fam : Option Nat) (off : Int) : Block :=
  let x := b.cand c
  let h := (off - b.wlh.eXo) :: x.hist.take 255
  let r1 := b.meanOf h 1
  let r2 := r1.2.meanOf h 16
  let r3 := r2.2.meanOf h 256
  let b1 := r3.2.setCand c { x with present := true, fam := fam, hist := h, y1 := r1.1, y16 := r2.1, y256 := r3.1 }
  if b1.wlh.sel = some c then b1.setWlh (fun w => { w with selU := b1.candU c }) else b1

/-- One candidate's measurement: the offset against XO_HOLD, in Q16.16 ppb, of a candidate that has no rate of its own; the
rate in nHz of WCK0, WCK1 and DARS0, taken against the nominal rate of its measured family. At any other rate they count as
lost (R331). -/
def Block.measure (b : Block) (m : Nat × Int) : Block :=
  let c := m.1
  if 10 < c then b
  else if 4 ≤ c ∧ c ≤ 6 then
    match famOfRate m.2.toNat with
    | none => b.candLost c
    | some (f, nom) =>
      let r := b.drawRound ((m.2 - (nom * 1000000000 : Nat)) * 65536) nom
      r.2.measured c (some f) r.1
  else b.measured c none m.2

/-- The state machine of one candidate at a 1 s update (R341). -/
def Block.candStep (b : Block) (c : Nat) : Block :=
  let x := b.cand c
  let big := fun (lim : Nat) => decide (lim * 65536 < x.y1.natAbs) || decide (lim * 65536 < x.y16.natAbs) ||
    decide (lim * 65536 < x.y256.natAbs)
  let out := big (b.reg Reg.WLH_TOL)
  let well := !big (b.reg Reg.WLH_TOL - b.reg Reg.WLH_HYST)
  let goto := fun (s : Nat) => b.setCand c { x with st := s, dur := 0 }
  let wait := fun (ok : Bool) (n s : Nat) =>
    if !ok then b.setCand c { x with dur := 0 }
    else if n ≤ x.dur + 1 then goto s else b.setCand c { x with dur := x.dur + 1 }
  if b.rank c = 0xFF then goto 0
  else match x.st with
    | 0 => goto 1
    | 1 => if x.present ∧ !(decide (4 ≤ c) && decide (c ≤ 6) && x.fam.isNone) then goto 2 else b
    | 2 => wait well (b.rfld Reg.WLH_CTRL 8 4) 3
    | 3 =>
        let n := max 1 (b.rfld Reg.WLH_QUAL 0 16)
        if out ∧ n ≤ x.dur + 1 then ((goto 4).count (Reg.WLH_CAND_CNT c) 0 16 1).wlhFault 2 0 c
        else b.setCand c { x with dur := if out then x.dur + 1 else 0 }
    | 4 => wait well (b.rfld Reg.WLH_QUAL 16 16) 3
    | _ => b

/-- MEASUREMENT_UPDATE: the 1 s update, with the measurements of the candidates present (R338, R341, R344). -/
def Block.measurementUpdate (ms : List (Nat × Int)) (b : Block) : Block :=
  let b1 := (below 11).foldl Block.candStep (ms.foldl Block.measure b)
  b1.estTick.select false

/-- CANDIDATE_LOST (R329, R341, R344). -/
def Block.candidateLost (c : Nat) (b : Block) : Block := if c < 11 then (b.candLost c).selectIfLost else b

/-- QUALITY_FRAME on QLINn: its bytes, and whether a framing error (1) or too long a gap (2) was found (R333, R334). -/
def Block.qualityFrame (n : Nat) (f : Bytes) (err : Nat) (b : Block) : Block :=
  if 3 < n then b
  else
    let q := b.ql n
    let u := fun (i : Nat) => u8 f i
    let check := (f.take 5).foldl (fun a x => a ^^^ x.toNat) 0
    let src := if n < 2 then 4 + n else 5 + n
    let bad := if u 0 ≠ 0x51 ∨ err = 1 then 1
      else if err = 2 ∨ f.length ≠ 6 then 2
      else if u 5 ≠ check then 3
      else if u 1 ≠ src then 4
      else if 16 ≤ u 2 ∨ 2 ≤ u 3 then 5 else 0
    if bad ≠ 0 then ((b.setQl n { q with badCode := bad }).count (Reg.WLH_QL_CNT n) 16 16 1).wlhFault 4 0 src
    else
      let fresh := q.good = 0 ∨ u 4 ≠ q.seq
      let q1 := { q with good := q.good + 1, prevLevel := if q.good = 0 then 15 else q.lastLevel, lastLevel := u 2, seq := u 4,
                         flags := u 3, stale := if fresh then false else q.stale }
      ((b.setQl n q1).count (Reg.WLH_QL_CNT n) 0 16 1).selectIfLost

/-- QUALITY_STALE of a candidate (R334 to R336). -/
def Block.qualityStale (c : Nat) (b : Block) : Block :=
  (match qlOf c with
    | some n => b.setQl n { b.ql n with stale := true }
    | none => if c < 10 then b.setCand c { b.cand c with stale := true } else b).selectIfLost

/-- The level of an Announce (R335). -/
def announceLevel (cls acc : Nat) : Nat :=
  let base := if cls = 6 then 0 else if cls = 7 then 2 else if cls = 13 then 4 else if cls = 14 then 5
    else if cls = 52 ∨ cls = 187 then 7 else if cls = 58 ∨ cls = 193 then 9 else if cls = 248 then 10
    else if cls = 255 then 15 else 12
  let add := if 0x17 ≤ acc ∧ acc ≤ 0x22 then 0 else if 0x23 ≤ acc ∧ acc ≤ 0x25 then 1
    else if 0x26 ≤ acc ∧ acc ≤ 0x2F then 2 else if acc = 0xFE then 1 else 3
  if base = 15 then 15 else min 14 (base + add)

/-- ANNOUNCE: an accepted Announce of a PTP candidate (R335). -/
def Block.announce (c cls acc : Nat) (b : Block) : Block :=
  if c < 4 ∨ c = 9 then (b.setCand c { b.cand c with level := announceLevel cls acc, stale := false }).selectIfLost else b

/-- CHANNEL_STATUS: a block of DARS0 with byte 4 and whether its CRCC checks (R336). -/
def Block.channelStatus (byte4 : Nat) (crcc : Bool) (b : Block) : Block :=
  if !crcc then b
  else
    let l := match fld byte4 0 2 with
      | 0 => 11
      | 1 => 3
      | 2 => 6
      | _ => 15
    (b.setCand 6 { b.cand 6 with level := l, stale := false }).selectIfLost

/-- XO_ESTIMATE_UPDATE: `off` is the offset of XO_HOLD against the candidate over the window (R339). -/
def Block.xoEstimate (off : Int) (b : Block) : Block :=
  if b.wlh.estSecs < 256 ∨ b.wlh.xoLost then b
  else
    let aging := (toS 32 (b.reg Reg.WLH_AGING)).natAbs
    let lim : Int := ((aging * 512 * 100 + 65536 * 86400) / 8640000 : Nat)
    let d := off - b.wlh.eXo
    let e := if !b.wlh.eXoSet then off else b.wlh.eXo + max (-lim) (min lim d)
    b.setWlh (fun w => { w with eXo := e, eXoSet := true, estSecs := 0 })

/-- FAMILY_SWITCH: the selected candidate bears family `f`, which FAM_FOLLOW = 1 has the wellhead follow (R345, DEDUCED: a
selected word clock that changes its family counts as a change of the selection to it). The switch that a change of the
selection or a write of WLH_CTRL.FAMILY asks for happens with it (`setSel`, `wlhCtrlWrite`). -/
def Block.followFamily (f : Nat) (b : Block) : Block :=
  if (b.wlh.sel.bind b.candFam) = some f ∧ b.rbit Reg.WLH_CTRL 1 then b.familySwitch f else b

/-! ## Registers that start an evaluation (R344, R345) -/

/-- A write of WLH_CTRL: RESELECT and FAMILY_WRITE are its rows. -/
def Block.wlhCtrlWrite (v : Nat) (b : Block) : Block :=
  let a := Reg.WLH_CTRL
  let old := b.reg a
  let arm := if fld v 8 4 = 0 then fld old 8 4 else fld v 8 4
  let bw := if fld v 4 2 = 3 then fld old 4 2 else fld v 4 2
  let neutral := b.wlh.sel.all (fun c => (b.candFam c).isNone)
  let fam := if neutral then fld v 2 1 else fld old 2 1
  let b1 := b.setReg a (arm * 256 + bw * 16 + fld v 3 1 * 8 + fam * 4 + fld v 0 2)
  let b2 := if neutral ∧ fam ≠ fld old 2 1 then b1.familySwitch fam else b1
  b2.select (bit v 6)

/-- A write of WLH_CAND_CFG(c). -/
def Block.candCfgWrite (c v : Nat) (b : Block) : Block :=
  let r := fld v 0 8
  (if c < 11 ∧ (r ≤ 7 ∨ r = 0xFF) then b.setReg (Reg.WLH_CAND_CFG c) r else b).select false

/-- A write of WLH_TOL, WLH_HYST, WLH_AGREE, WLH_HOLD_BUDGET or WLH_QUAL within R340. -/
def Block.wlhRangeWrite (a v : Nat) (b : Block) : Block :=
  let ok := if a = Reg.WLH_TOL then decide (1 ≤ v) && decide (v ≤ 10000)
    else if a = Reg.WLH_HYST then decide (v + 1 ≤ b.reg Reg.WLH_TOL)
    else if a = Reg.WLH_AGREE then decide (1 ≤ v) && decide (v ≤ 10000)
    else if a = Reg.WLH_HOLD_BUDGET then decide (v ≠ 0)
    else decide (fld v 0 16 ≤ 3600) && decide (1 ≤ fld v 16 16) && decide (fld v 16 16 ≤ 3600)
  if ok then b.setReg a v else b

/-! ## The DPLL and holdover (R326, R346 to R350) -/

/-- The limits of y_out: ±10 ppm, and 0.1 ppb in a millisecond (R326). -/
def yClamp (old y : Int) : Int := max (-655360000) (min 655360000 (max (old - 6553) (min (old + 6553) y)))

/-- Entry to HOLDOVER (R346, R348 to R350): the mean is held, and y_out moves to it within the slope limit (R347). -/
def Block.enterHoldover (b : Block) : Block :=
  let h := (b.wlh.yHist.drop 2000).take 16000
  let r := if h.isEmpty then (b.wlh.y, b) else b.drawRound h.sum h.length
  let u := max (65536 * 86400) (b.wlh.selU * 864000)
  let b1 := r.2.setWlh (fun w => { w with st := 3, holdY := r.1, holdK := 0, holdE := 0, holdU := u,
                                          holdT0 := toS 16 (b.rfld Reg.WLH_XO_TEMP 0 16) })
  let c := b.wlh.cur.getD 15
  let b2 := b1.wlhFault 5 1 c
  if b2.wlh.xoLost then (b2.setWlh (fun w => { w with holdExpired := true })).wlhFault 6 1 c else b2

/-- The DPLL starts to follow the selected candidate. -/
def Block.toLocking (b : Block) : Block :=
  b.setWlh (fun w => { w with st := 1, cur := w.sel, lockMs := 0, holdExpired := false })

/-- The states of R346. -/
def Block.dpllStep (err : Int) (b : Block) : Block :=
  let r := b.draw
  let w0 := b.wlh
  let b1 := match w0.st with
    | 0 => b.setWlh (fun w => { w with y := yClamp w.y (-w.eXo) })
    | 3 => b.setWlh (fun w => { w with y := yClamp w.y w.holdY })
    | _ => r.2.setWlh (fun w => { w with y := yClamp w.y ((r.1 : Int) - 655360000) })
  let b2 := b1.setWlh (fun w => { w with yHist := w.y :: w.yHist.take 17999 })
  match w0.st, w0.sel with
  | 0, some _ => b2.toLocking
  | 0, none => b2
  | 1, none => if w0.everLocked then b2.enterHoldover else b2.setWlh (fun w => { w with st := 0 })
  | 1, some _ =>
      if w0.sel ≠ w0.cur then b2.toLocking
      else if 65536 ≤ err.natAbs then b2.setWlh (fun w => { w with lockMs := 0 })
      else if 4000 ≤ w0.lockMs + 1 then
        (b2.setWlh (fun w => { w with st := 2, lockMs := 0, everLocked := true })).setInt Reg.WLH_INT 8
      else b2.setWlh (fun w => { w with lockMs := w.lockMs + 1 })
  | 2, none => b2.enterHoldover
  | 2, some c => if w0.sel ≠ w0.cur then b2.toLocking.wlhFault 1 0 c else b2
  | _, some _ => b2.toLocking
  | _, none => b2

/-- DPLL_UPDATE: one millisecond's update, with the DPLL's frequency error (R346). While it follows a reference its output
is a free value; in every state it keeps the limits of R326 (log entry 13). -/
def Block.dpllUpdate (err : Int) (b : Block) : Block := (b.dpllStep err).estCheck

/-- HOLDOVER_UPDATE: the next whole second after the entry (R349). -/
def Block.holdoverUpdate (b : Block) : Block :=
  if b.wlh.st ≠ 3 then b
  else
    let k := b.wlh.holdK + 1
    let t := toS 16 (b.rfld Reg.WLH_XO_TEMP 0 16)
    let aging := (toS 32 (b.reg Reg.WLH_AGING)).natAbs
    let tempco := (toS 32 (b.reg Reg.WLH_TEMPCO)).natAbs
    let e := b.wlh.holdE + b.wlh.holdU + aging * k * 10 + tempco * (t - b.wlh.holdT0).natAbs * 8640
    let above := decide (b.reg Reg.WLH_HOLD_BUDGET * (65536 * 864000) < e)
    let b1 := b.setWlh (fun w => { w with holdK := k, holdE := e, holdExpired := w.holdExpired || above })
    if above ∧ !b.wlh.holdExpired then b1.wlhFault 6 1 (b.wlh.cur.getD 15) else b1

/-- XO_LOST (R350). -/
def Block.xoLose (b : Block) : Block :=
  if b.wlh.xoLost then b else (b.setWlh (fun w => { w with xoLost := true })).wlhFault 8 1 15

/-- XO_RETURN (R350). -/
def Block.xoReturn (b : Block) : Block := b.setWlh (fun w => { w with xoLost := false })

/-- PLL_UNLOCK (R351). -/
def Block.pllUnlock (b : Block) : Block :=
  let b1 := b.setWlh (fun w => { w with pllLock := false, unlockMute := true })
  ((b1.muteNext muPll (b1.domPlies [0, 1])).hardStopNext).wlhFault 7 1 15

/-- PLL_LOCK_RELEASE: both PLLs have reported lock for 1 ms (R351). -/
def Block.pllLockRelease (b : Block) : Block :=
  let b1 := if b.wlh.unlockMute then b.toBlk (b.blk + 1) else b
  let b2 := (b1.setWlh (fun w => { w with pllLock := true, unlockMute := false })).unmute muPll
  if b.wlh.unlockMute && !b2.wlh.famSwitch then b2.jetsResume else b2

/-! ## Word-clock outputs (R352, R353) -/

def Block.wcko (b : Block) (n : Nat) : Wcko := tget {} b.wlh.wckos n
def Block.setWcko (b : Block) (n : Nat) (x : Wcko) : Block := b.setWlh (fun w => { w with wckos := tput {} n x w.wckos })

/-- The rate of a source of events on ticks. -/
def Block.wckoRate (b : Block) (src : Nat) : Nat := if src = 0 then b.fB else if src = 1 then b.rate 0 else b.fBlk

/-- The period of a word-clock output in 125 ps units, as a numerator and a denominator: DIV + 1 source periods, of an input
source the mean over its last 16 edges; none while fewer than two are known (R352). -/
def Block.wckoPeriod (b : Block) (n src div : Nat) : Option (Nat × Nat) :=
  if src ≤ 2 then some (8000000000 * (div + 1), b.wckoRate src)
  else
    let l := (b.wcko n).stamps
    if l.length < 2 then none else some ((l.headD 0 - l.getLastD 0) * (div + 1), l.length - 1)

/-- OFFSET and DIV as they now stand apply from the first output edge 1 us after the present time (R353). -/
def Block.wckoPut (b : Block) (n div : Nat) : Block :=
  let e : WckoSet := { tsu := b.stamp 0, clk := b.clkStamp 0, ofs := toS 32 (b.reg (Reg.WLH_WCKO_OFS n)), div := div }
  b.setWcko n { b.wcko n with sets := e :: (b.wcko n).sets }

/-- A write of WLH_WCKO_CTRL(n): a reserved SRC leaves that field, and a width that is 0 or not 64 ns shorter than the output
period the register, whatever MODE is (DEDUCED: R353 names no MODE; log entry 44). -/
def Block.wckoWrite (n v : Nat) (b : Block) : Block :=
  let a := Reg.WLH_WCKO_CTRL n
  let old := b.reg a
  let src := if fld v 28 3 = 7 then fld old 28 3 else fld v 28 3
  let width := fld v 0 8 * 512
  let same := fld old 28 3 = src ∧ fld old 26 1 = fld v 26 1
  let wide := (if src ≤ 2 ∨ same then b.wckoPeriod n src (fld v 8 16) else none).any (fun p => decide (p.1 < (width + 512) * p.2))
  if width = 0 ∨ wide then b
  else
    let w := fld v 31 1 * 2 ^ 31 + src * 2 ^ 28 + fld v 26 2 * 2 ^ 26 + fld v 0 24
    let b1 := b.setReg a w
    let x := b.wcko n
    let y : Wcko := if same then x else { x with stamps := [], idle := false, reach := none }
    if !bit v 31 then b1.setWcko n { y with level := bit w 26 }
    else if !bit old 31 then
      (b1.setWcko n { y with events := 0, reach := none, sets := [], level := bit w 26 }).wckoPut n (fld v 8 16)
    else
      let b2 := b1.setWcko n y
      if fld old 8 16 = fld v 8 16 then b2 else b2.wckoPut n (fld v 8 16)

/-- A write of WLH_WCKO_OFS(n) (R353). -/
def Block.wckoOfsWrite (n v : Nat) (b : Block) : Block :=
  let b1 := b.setReg (Reg.WLH_WCKO_OFS n) v
  let c := b.reg (Reg.WLH_WCKO_CTRL n)
  if bit c 31 then b1.wckoPut n (fld c 8 16) else b1

/-- The values that an event's output edge falls under: the newest whose edge falls 1 us after their write, with those
written since; `lead` gives the edge under an entry, and `wrote` when that was written. -/
def wckoUse (lead : WckoSet → Int) (wrote : WckoSet → Nat) : List WckoSet → List WckoSet → Option (WckoSet × List WckoSet)
  | _, [] => none
  | acc, [e] => some (e, acc ++ [e])
  | acc, e :: r => if (wrote e : Int) + 8000 ≤ lead e then some (e, acc ++ [e]) else wckoUse lead wrote (acc ++ [e]) r

/-- An output edge and the end of its pulse, at TSU times in 125 ps units (R352, R353). -/
def Block.wckoFire (n : Nat) (lead : Int) (half : Nat) (b : Block) : Block :=
  let c := b.reg (Reg.WLH_WCKO_CTRL n)
  let wid : Nat := if bit c 27 then fld c 0 8 * 512 else half
  (b.emit (.edge (pinWcko n) (!bit c 26) lead)).emit (.edge (pinWcko n) (bit c 26) (lead + wid))

/-- Event `k` of a source that is a tick (R352). -/
def Block.wckoTick (n k : Nat) (b : Block) : Block :=
  let src := b.rfld (Reg.WLH_WCKO_CTRL n) 28 3
  let f := b.wckoRate src
  let b1 := b.advance (tickInstant f k)
  let x := b1.wcko n
  let ev : Int := (tickInstant f k * 8 / 2 ^ 32 : Nat)
  match wckoUse (fun e => ev + e.ofs) (·.tsu) [] x.sets with
  | none => b1
  | some (e, l) =>
    let b2 := b1.setWcko n { x with events := x.events + 1, sets := l }
    if k % (e.div + 1) = 0 then b2.wckoFire n (ev + e.ofs) (8000000000 * (e.div + 1) / (2 * f)) else b2

/-- Event `m` of an input source, predicted from the edge that was event `j`, at stamp `t`, with the mean period `p / q`. -/
def Block.wckoPlace (n t : Nat) (j : Int) (p q : Nat) (m : Int) (b : Block) : Block :=
  let x := b.wcko n
  match wckoUse (fun e => t + (((m - j) * p + e.ofs * q) / (q : Int))) (·.clk) [] x.sets with
  | none => b
  | some (e, l) =>
    let b1 := b.setWcko n { x with sets := l }
    let lead := t + (((m - j) * p + e.ofs * q) / (q : Int))
    if m % (e.div + 1 : Nat) = 0 ∧ 0 ≤ m then
      b1.wckoFire n (lead + ((b.stamp 0 : Int) - b.clkStamp 0)) (p * (e.div + 1) / (2 * q))
    else b1

/-- An edge of an input source, `tap` into the present tick of the time clock: with EN = 1 it is the next event, and the
output edges that fall at least 200 ns after it, and not so long after the next one, are placed from it (R352). A source that
was lost gives edges from the second edge on (R353). -/
def Block.wckoInput (n tap : Nat) (b : Block) : Block :=
  let x := b.wcko n
  let c := b.reg (Reg.WLH_WCKO_CTRL n)
  let t := b.clkStamp tap
  let l := (t :: x.stamps).take 16
  let y : Wcko := { x with stamps := l, idle := x.idle && decide (l.length < 2), events := x.events + fld c 31 1 }
  let b1 := b.setWcko n y
  if !bit c 31 ∨ l.length < 2 then b1
  else
    let p := l.headD 0 - l.getLastD 0
    let q := l.length - 1
    let j : Int := x.events
    let ofs := (y.sets.head?).elim 0 (·.ofs)
    let top := if p = 0 then j else j + -(((ofs - 1600) * q) / (p : Int))
    let first := x.reach.elim top (· + 1)
    let b2 := (below (top + 1 - first).toNat).foldl (fun z (i : Nat) => z.wckoPlace n t j p q (first + i)) b1
    b2.setWcko n { b2.wcko n with reach := some (max top (x.reach.getD top)) }

/-- WCKO_EDGE: a source event of output n. `k` is its index from the epoch for SRC 0 to 2; of an input source, after
`dt` ticks of the time clock, an edge comes `tap` into the tick, or the source is found `lost` (R352, R353). -/
def Block.wckoEdge (n k dt tap : Nat) (lost : Bool) (b : Block) : Block :=
  let c := b.reg (Reg.WLH_WCKO_CTRL n)
  if 3 < n then b
  else if fld c 28 3 ≤ 2 then (if bit c 31 then b.wckoTick n k else b)
  else
    let b1 := b.runTicks dt
    if lost then b1.setWcko n { b1.wcko n with idle := true, stamps := [], reach := none, level := bit c 26 }
    else b1.wckoInput n tap

/-! ## The commands -/

/-- FAMILY_SWITCH (R92). -/
def execFamilySwitch (f : Nat) : State → Answer := onBlk (Block.followFamily f)
/-- FAMILY_RELEASE (R92). -/
def execFamilyRelease : State → Answer := onBlk Block.familyRelease
/-- MEASUREMENT_UPDATE (R338). -/
def execMeasurementUpdate (ms : List (Nat × Int)) : State → Answer := onBlk (Block.sameCycle (Block.measurementUpdate ms))
/-- CANDIDATE_LOST (R329). -/
def execCandidateLost (c : Nat) : State → Answer := onBlk (Block.candidateLost c)
/-- QUALITY_FRAME (R333). -/
def execQualityFrame (n : Nat) (f : Bytes) (err : Nat) : State → Answer := onBlk (Block.qualityFrame n f err)
/-- QUALITY_STALE (R334). -/
def execQualityStale (c : Nat) : State → Answer := onBlk (Block.qualityStale c)
/-- ANNOUNCE (R335). -/
def execAnnounce (c cls acc : Nat) : State → Answer := onBlk (Block.announce c cls acc)
/-- CHANNEL_STATUS (R336). -/
def execChannelStatus (byte4 : Nat) (crcc : Bool) : State → Answer := onBlk (Block.channelStatus byte4 crcc)
/-- XO_ESTIMATE_UPDATE (R339). -/
def execXoEstimateUpdate (off : Int) : State → Answer := onBlk (Block.xoEstimate off)
/-- RESELECT (R344). -/
def execReselect (v : Nat) : State → Answer := onReg Reg.WLH_CTRL true (Block.wlhCtrlWrite v)
/-- FAMILY_WRITE (R345). -/
def execFamilyWrite (v : Nat) : State → Answer := onReg Reg.WLH_CTRL true (Block.wlhCtrlWrite v)
/-- DPLL_UPDATE (R346). -/
def execDpllUpdate (err : Int) : State → Answer := onBlk (Block.sameCycle (Block.dpllUpdate err))
/-- HOLDOVER_UPDATE (R349). -/
def execHoldoverUpdate : State → Answer := onBlk Block.holdoverUpdate
/-- XO_LOST (R350). -/
def execXoLost : State → Answer := onBlk Block.xoLose
/-- XO_RETURN (R350). -/
def execXoReturn : State → Answer := onBlk Block.xoReturn
/-- PLL_UNLOCK (R351). -/
def execPllUnlock : State → Answer := onBlk Block.pllUnlock
/-- PLL_LOCK_RELEASE (R351). -/
def execPllLockRelease : State → Answer := onBlk Block.pllLockRelease
/-- WCKO_EDGE (R352). -/
def execWckoEdge (n k dt tap : Nat) (lost : Bool) : State → Answer := onBlk (Block.wckoEdge n k dt tap lost)

end Sys2Proof.Machine
end

