-- ==== Sys2Proof/Machine/Draft.lean ====
section
/-! DEFINITION. The staging and commit machinery (spec/02_draft.md, R65 to R82): the draft commands, the decision, the
block at which a draft takes effect, settling, and the flash slots. A draft command answers a status of R418. -/

namespace Sys2Proof.Machine

/-! ## Sources (R65, R66) -/

/-- SYS_DFT_STAT.OWNER. -/
def Source.num : Source → Nat
  | .none => 0
  | .host => 1
  | .pair => 2
  | .mgmt => 3
  | .flash => 4

/-- SYS_DFT_STAT.STATE. -/
def StgState.num : StgState → Nat
  | .empty => 0
  | .loading => 1
  | .validating => 2
  | .valid => 3
  | .rejected => 4
  | .armed => 5
  | .settling => 6
  | .storing => 7

/-- The status with which a source is refused draft commands; 0 when it is permitted (R65, R414, R418). -/
def Block.srcRefused (b : Block) (src : Source) : Nat :=
  match src with
  | .host => if b.level 0 = 3 then 0 else 0x10 + 256 * b.level 0
  | .pair => if b.level 1 = 3 then 0 else 0x10 + 256 * b.level 1
  | .mgmt => if b.level 2 < 2 then 0x10 + 256 * b.level 2 else if b.sys.draftEn then 0 else 0x11
  | .flash => 0
  | .none => 0x10

/-- STATUS 0x30, STATE. -/
def stSTATE : Nat := 0x30

/-- STATUS 0x32, DRAFT, with SYS_DFT_STAT.ERR in its detail. -/
def stDRAFT (err : Nat) : Nat := 0x32 + 256 * err

/-- A draft command from a permitted source of a device that is not severed (R494). -/
def Block.dftGate (b : Block) (src : Source) (f : Nat × Block) : Nat × Block :=
  if b.srcRefused src ≠ 0 then (b.srcRefused src, b) else if b.severed then (stSTATE, b) else f

/-- Whether the staged draft is the source's (R66). -/
def Block.owns (b : Block) (src : Source) : Bool := b.stg.owner == src

/-! ## OPEN, VALIDATE and the end of its checks (R67, R69 to R71) -/

def Block.dftOpen (src : Source) (b : Block) : Nat × Block :=
  b.dftGate src (match b.stg.st with
    | .empty => (0, b.setStg (fun g => { g with st := .loading, owner := src }))
    | .rejected => if b.owns src then (0, b.setStg (fun g => { g with st := .loading })) else (stSTATE, b)
    | _ => (stSTATE, b))

/-- Bytes go into the staging buffer, from its owner while LOADING (R66, R69, R439). -/
def Block.dftData (src : Source) (ofs : Nat) (bs : Bytes) (b : Block) : Nat × Block :=
  b.dftGate src (if b.stg.st = .loading ∧ b.owns src then (0, b.wrBytes (b.stagingBase + ofs) bs) else (stSTATE, b))

/-- VALIDATE copies the staged bytes into the held copy; on a paired unit they also go to the twin (R67, R410). -/
def Block.dftValidate (src : Source) (b : Block) : Nat × Block :=
  b.dftGate src (
    if b.stg.st = .loading ∧ b.owns src then
      let len := b.rfld Reg.SYS_DFT_LEN 0 25
      let bs := b.rdBytes b.stagingBase (min 0x1000000 len)
      let b1 := ((b.eccNote false 13 b.stagingBase bs.length).wrBytes b.heldBase bs).setStg (fun g => { g with st := .validating, held := bs, heldLen := len, eff := none })
      (0, if b.paired && src != .pair then b1.sendData (u64 bs 8) bs else b1)
    else (stSTATE, b))

/-- VALIDATION_DONE (R70, R71, R525). DESIGN CHOICE (log entry 22): a pass returns ERR to 0 and leaves ERR_INST,
SYS_DFT_ERR_TAG and SYS_DFT_ERR_OFS of an earlier failure as they are. -/
def Block.dftValidated (b : Block) : Block :=
  if b.stg.st ≠ .validating then b
  else
    match b.validateBytes (b.srcRefused b.stg.owner == 0) b.stg.heldLen b.stg.held with
    | .ok p =>
      let g := { b.stg with st := .valid, err := 0, cold := p.cold, prep := p.prep, eff := some p.eff }
      ({ b with stg := g, crl := { b.crl with staged := p.start, stagedComputed := p.computed } }).setInt Reg.SYS_DFT_INT 0
    | .error (code, tag, inst, ofs) =>
      (b.setStg (fun g => { g with st := .rejected, err := code, errTag := tag, errInst := inst, errOfs := ofs })).setInt
        Reg.SYS_DFT_INT 1

/-! ## COMMIT and ABORT (R69, R72, R410, R411) -/

/-- A refused COMMIT writes its code and leaves the draft VALID (R72). -/
def Block.commitRefused (b : Block) (code : Nat) : Nat × Block :=
  (stDRAFT code, (b.setStg (fun g => { g with err := code, errInst := 0, errTag := 0, errOfs := 0 })).setInt Reg.SYS_DFT_INT 1)

/-- The smallest permitted N (R72). -/
def Block.leastN (b : Block) : Nat := b.blk + max (if b.paired then 48 else 24) b.stg.prep

/-- The code with which N is refused, 0 for none (R72). -/
def Block.commitCode (b : Block) (n : Nat) : Nat :=
  if n < b.leastN then 0x80 else if b.paired && b.wlh.st != 2 then 0x81 else 0

/-- The bobbins, and the domains of R465, that a draft needs. -/
def Block.domNeeds (b : Block) (d : Draft) : List Nat :=
  let ps := (b.crl.staged.map (·.s)) ++ ((b.crl.run.filter (fun p => b.continues d p.k)).map (·.s))
  (ps.map (fun s => 3 + s / 8)).eraseDups ++
    (if decide (0 < d.cardTotal) || !(d.ofTag tagSLUC).isEmpty then [11] else []) ++
    (if (d.ofTag tagRILL).isEmpty then [] else [17]) ++ (if (d.ofTag tagJETS).isEmpty then [] else [18])

/-- Arm the valid draft at block N (R72, R134, R219); what it needs is woken (R217). -/
def Block.arm (b : Block) (n : Nat) : Block :=
  match b.stg.eff with
  | none => b
  | some d =>
    let es := b.stg.force.elim [] (fun f => diffEntries f d (cardWay (some f) d) (coefWay (some f) d))
    let b1 := { b with stg := { b.stg with st := .armed, armedAt := n, err := 0 }, loom := { b.loom with resv := es.length },
                       crl := { b.crl with held := true }, par := { b.par with decided := false, twinGo := none } }
    (b1.domNeeds d).foldl Block.wakeReq b1

/-- COMMIT at block `n0`, 0 for the earliest. On a paired unit it proposes N to the twin and is answered later (R410). -/
def Block.dftCommit (src : Source) (n0 : Nat) (b : Block) : Nat × Block :=
  b.dftGate src (
    if b.stg.st ≠ .valid ∨ !b.owns src ∨ b.par.proposed.isSome then (stSTATE, b)
    else
      let n := if n0 = 0 then b.leastN else n0
      if b.commitCode n ≠ 0 then b.commitRefused (b.commitCode n)
      else if b.paired then
        (0, (b.setPar (fun p => { p with proposed := some n })).sendPropose (b.stg.eff.elim 0 (·.serial)) n)
      else (0, b.arm n))

/-- The staging buffer is given up. -/
def Block.stgEmpty (b : Block) : Block :=
  { b with stg := { b.stg with st := .empty, owner := .none, held := [], heldLen := 0, eff := none, cold := false },
           crl := { b.crl with staged := [], stagedComputed := [] }, par := { b.par with proposed := none } }

/-- An armed commit ends without taking effect; the draft is VALID again. -/
def Block.disarm (b : Block) : Block :=
  { b with stg := { b.stg with st := .valid }, loom := { b.loom with resv := 0 }, crl := { b.crl with held := false },
           par := { b.par with agreed := false, proposed := none, twinGo := none, decided := false } }

/-- ABORT, from the owner or the host (R66, R69); of an agreed commit, the twin is told at once (R411). -/
def Block.dftAbort (src : Source) (b : Block) : Nat × Block :=
  b.dftGate src (
    if !(b.owns src || src == .host) then (stSTATE, b)
    else match b.stg.st with
      | .loading | .rejected | .valid => (0, b.stgEmpty)
      | .armed =>
        if b.stg.armedAt ≤ b.blk + 1 then (stSTATE, b)
        else (0, (if b.par.agreed then b.sendDecide (b.stg.eff.elim 0 (·.serial)) false else b).disarm)
      | _ => (stSTATE, b))

/-! ## STORE and the flash slots (R80, R81) -/

def slotBase (i : Nat) : Nat := if i = 0 then 0x1000000 else 0x2000000
def slotRec (i : Nat) : Nat := if i = 0 then 0xFF0000 else 0xFF1000

def Block.flashBytes (b : Block) (a n : Nat) : Bytes := (upFrom a n).map (tget 0xFF b.stg.flash)

def Block.flashWrite (b : Block) (a : Nat) (bs : Bytes) : Block :=
  b.setStg (fun g => { g with flash := (bs.zipIdx).foldl (fun t x => tput 0xFF (a + x.2) x.1 t) g.flash })

/-- GEN and LEN of a slot whose record is valid (R80). -/
def Block.slotInfo (b : Block) (i : Nat) : Option (Nat × Nat) :=
  let r := b.flashBytes (slotRec i) 16
  if r.take 4 = [0x4C, 0x53, 0x4C, 0x54] ∧ u32 r 12 = crc32c (r.take 12) then some (u32 r 4, u32 r 8) else none

/-- The slot that holds the current default: the valid one of greater GEN; slot A when both are equal (DESIGN CHOICE, log
entry 22). -/
def Block.defaultSlot (b : Block) : Option Nat :=
  match b.slotInfo 0, b.slotInfo 1 with
  | none, none => none
  | some _, none => some 0
  | none, some _ => some 1
  | some x, some y => some (if x.1 < y.1 then 1 else 0)

/-- STORE begins (R69, R81). -/
def Block.dftStore (src : Source) (b : Block) : Nat × Block :=
  b.dftGate src (
    if b.stg.st = .valid ∧ b.owns src then (0, b.setStg (fun g => { g with st := .storing })) else (stSTATE, b))

/-- STORE_DONE: the flash write ends. `ok` says that the write and its read-back succeeded; of a failed one, the first
`n` bytes have been written (R81, log entry 22). GEN counts modulo 2^32, from 1 where the other slot has no valid record
(DESIGN CHOICE, log entry 22). -/
def Block.dftStored (ok : Bool) (n : Nat) (b : Block) : Block :=
  match b.stg.st, b.stg.eff with
  | .storing, some d =>
    let i := if b.defaultSlot = some 0 then 1 else 0
    let bs := draftBytes d
    let gen := ((b.slotInfo (1 - i)).elim 0 (·.1) + 1) % 2 ^ 32
    let r := ([0x4C, 0x53, 0x4C, 0x54] : Bytes) ++ leBytes 4 gen ++ leBytes 4 bs.length
    let b1 := b.setStg (fun g => { g with st := .valid })
    if ok then ((b1.flashWrite (slotBase i) bs).flashWrite (slotRec i) (r ++ leBytes 4 (crc32c r))).setInt Reg.SYS_DFT_INT 5
    else (b1.flashWrite (slotBase i) (bs.take n)).setInt Reg.SYS_DFT_INT 6
  | _, _ => b

/-- A write of SYS_DFT_CMD by a source. -/
def Block.dftCmd (src : Source) (v : Nat) (b : Block) : Nat × Block :=
  match v % 16 with
  | 1 => b.dftOpen src
  | 2 => b.dftValidate src
  | 3 => b.dftCommit src (b.reg64 Reg.SYS_DFT_CBLK_LO Reg.SYS_DFT_CBLK_HI)
  | 4 => b.dftAbort src
  | 5 => b.dftStore src
  | _ => (0, b)

end Sys2Proof.Machine
end

