-- ==== Sys2Proof/Machine/Mailbox.lean ====
section
/-! DEFINITION. The mailboxes and doorbells (spec/16_control_ports.md, R427 to R431). A mailbox lives in its registers:
MBX_CTRL holds its state, MBX_DATA its words. -/

namespace Sys2Proof.Machine

/-- The receiver of a mailbox, none for the twin: 0 distaff 0, 1 distaff 1, 2 the host (R427). -/
def mbxReceiver (m : Nat) : Option Nat :=
  if m < 4 then some 0 else if m < 8 then some 1 else if m < 16 then some 2 else if m < 18 then some 0
  else if m < 20 then some 2 else if m < 24 then none else if m < 28 then some 1 else some 0

/-- The sender of a mailbox, as R427 numbers receivers; none for the Gweast link. -/
def mbxSender (m : Nat) : Option Nat :=
  if m < 8 then some 2 else if m < 12 then some 0 else if m < 16 then some 1 else if m < 20 then none
  else if m = 20 then some 0 else if m = 21 then some 1 else if m < 24 then some 2 else if m < 28 then some 0 else some 1

/-- The master that a sender or receiver is: 13 and 14 the distaffs, 15 the host. -/
def mbxMaster (e : Nat) : Nat := 13 + e

def Block.mbxState (b : Block) (m : Nat) : Nat := b.rfld (Reg.MBX_CTRL m) 16 2
def Block.mbxLen (b : Block) (m : Nat) : Nat := b.rfld (Reg.MBX_CTRL m) 0 5

/-- The completion of a mailbox is reported to its sender (R430). -/
def Block.mbxEvent (b : Block) (m : Nat) : Block := (mbxSender m).elim b (fun e => b.setInt (Reg.MBX_EVT e) m)

/-- An MBX frame (R393, R431). -/
def Block.sendMbx (b : Block) (m len : Nat) (data : Bytes) : Block :=
  b.gwReliable 4 (leBytes 1 m ++ leBytes 1 len ++ leBytes 2 0 ++ data.take 64 ++ List.replicate (64 - data.length) 0)

def Block.mbxBytes (b : Block) (m : Nat) : Bytes := (below 16).flatMap (fun i => leBytes 4 (b.reg (Reg.MBX_DATA m i)))

def Block.mbxFill (b : Block) (m : Nat) (bs : Bytes) : Block :=
  (below 16).foldl (fun x i => x.setReg (Reg.MBX_DATA m i) (u32 bs (4 * i))) b

/-- DATA, LEN and BELL are cleared and the state changes. -/
def Block.mbxClear (b : Block) (m st : Nat) : Block :=
  (b.mbxFill m []).setReg (Reg.MBX_CTRL m) (setFld (b.reg (Reg.MBX_CTRL m) / 2 ^ 13 * 2 ^ 13) 16 2 st)

/-- A mailbox becomes ABORTED (R429, R440): ABORT on MBX, and its sender is told. -/
def Block.mbxAbort (b : Block) (m : Nat) : Block :=
  let p := if 16 ≤ m ∧ m < 24 then 1 else 0
  let b1 := (b.setRfld (Reg.MBX_CTRL m) 16 2 3).mbxEvent m
  if b.mbxState m = 3 then b1 else (b1.setInt Reg.MBX_INT 1).raise srcMBX 2 0 p m

/-- GO (R429, R431): the receiver's doorbell rings, or the message goes to the twin; with the link DOWN it is aborted. -/
def Block.mbxGo (m : Nat) (b : Block) : Block :=
  let n := b.mbxLen m
  if b.mbxState m = 1 ∨ n < 8 ∨ 16 < n then b.setRfld (Reg.MBX_CTRL m) 24 1 1
  else
    let b1 := b.setRfld (Reg.MBX_CTRL m) 16 2 1
    match mbxReceiver m with
    | some e => b1.setInt (Reg.MBX_DB e) (b.rfld (Reg.MBX_CTRL m) 8 5)
    | none => if b.gwUp then b1.sendMbx (m - 4) n ((b.mbxBytes m).take (4 * n)) else b1.mbxAbort m

/-- TAKE (R429, R431). -/
def Block.mbxTake (m : Nat) (b : Block) : Block :=
  if b.mbxState m = 1 then
    let b1 := (b.setRfld (Reg.MBX_CTRL m) 16 2 2).mbxEvent m
    if 16 ≤ m ∧ m < 20 then b1.sendMbx (m + 4) 0 [] else b1
  else b

/-- A message of the twin arrives for mailbox 16 to 19 (R431). -/
def Block.mbxDeliver (b : Block) (m n : Nat) (data : Bytes) : Block :=
  if b.mbxState m = 1 then b.sendMbx (m + 4) 0xFF []
  else
    let b1 := (b.mbxFill m data).setReg (Reg.MBX_CTRL m) (setFld (b.reg (Reg.MBX_CTRL m) / 2 ^ 13 * 2 ^ 13) 16 2 1 + 256 * m + n)
    (mbxReceiver m).elim b1 (fun e => b1.setInt (Reg.MBX_DB e) m)

/-- An MBX frame of the twin (R431). -/
def Block.mbxFrame (m n : Nat) (data : Bytes) (b : Block) : Block :=
  if m < 20 then b.mbxDeliver m n (data.take (4 * n))
  else if b.mbxState m ≠ 1 then b
  else if n = 0 then (b.setRfld (Reg.MBX_CTRL m) 16 2 2).mbxEvent m
  else b.mbxAbort m

/-- The link goes DOWN: mailboxes 20 to 23 that are BUSY become ABORTED (R431). -/
def Block.mbxLinkDown (b : Block) : Block :=
  [20, 21, 22, 23].foldl (fun x m => if x.mbxState m = 1 then x.mbxAbort m else x) b

/-- A reset of receiver or sender `e` (R429). -/
def Block.mbxReset (b : Block) (e : Nat) : Block :=
  (below 32).foldl (fun x m =>
    let x1 := if mbxReceiver m = some e then
        let y := (x.mbxAbort m).mbxClear m 3
        if 16 ≤ m ∧ m < 20 then y.sendMbx (m + 4) 0xFF [] else y
      else x
    if mbxSender m = some e ∧ (x1.mbxState m = 2 ∨ x1.mbxState m = 3) then x1.mbxClear m 0 else x1) b

/-- A write of MBX_DB_SET (R430). -/
def Block.doorbell (e v : Nat) (b : Block) : Block := b.orReg (Reg.MBX_DB e) v

end Sys2Proof.Machine
end

