-- ==== Sys2Proof/Machine/Ecp.lean ====
section
/-! DEFINITION. Service requests and their answers, over ECP and through mailboxes (spec/16_control_ports.md, R413 to R419,
R432 to R439): the order of the checks, the answers kept for duplicates, messages to the host and the twin, and the answers
owed until a draft command completes. -/

namespace Sys2Proof.Machine

/-! ## The catalogue (R414, R439) -/

/-- What a service needs: a level, or the rule for drafts. -/
inductive Need where
  | level (n : Nat)
  | draft
  deriving DecidableEq, Repr

/-- The services and their minimum levels (R439). -/
def svcNeed (op : Nat) : Option Need :=
  match op with
  | 0x01 | 0x02 | 0x03 | 0x05 | 0x30 => some (.level 1)
  | 0x06 | 0x20 | 0x21 | 0x22 | 0x40 | 0x41 | 0x42 => some (.level 2)
  | 0x04 | 0x31 | 0x32 | 0x50 | 0x51 | 0x60 => some (.level 3)
  | 0x10 | 0x11 | 0x12 | 0x13 | 0x14 | 0x15 => some .draft
  | _ => none

/-- STATUS of a command above the level in force (R418). -/
def stPRIV (level : Nat) : Nat := 0x10 + 256 * level
def stBUSY : Nat := 0x01
def stVERSION : Nat := 0x20
def stLENGTH : Nat := 0x21
def stOPCODE : Nat := 0x22
/-- BAD_FIELD at a payload byte offset, which saturates at 255. -/
def stFIELD (ofs : Nat) : Nat := 0x23 + 256 * min 255 ofs
/-- REFUSED with the block's fault code. -/
def stREFUSED (code : Nat) : Nat := 0x31 + 256 * code
def stTWIN : Nat := 0x40

/-- The source of the draft commands of a port (R65). -/
def portSource (p : Nat) : Source := match p with | 0 => .host | 1 => .pair | 2 => .mgmt | _ => .none

/-- Whether the level of port p permits a service: 0, or the status that refuses it (R414). -/
def Block.levelRefused (b : Block) (p : Nat) (n : Need) : Nat :=
  match n with
  | .level k => if k ≤ b.level p then 0 else stPRIV (b.level p)
  | .draft => if p < 3 then b.srcRefused (portSource p) else stPRIV (b.level p)

/-! ## Lengths and fields of a request (R436, R439) -/

/-- The payload length of a service: its least value, and what it is once that much is there. -/
def svcLen (op : Nat) (p : Bytes) : Nat × Nat :=
  match op with
  | 0x03 => (4, 4 + 4 * u32 p 0)
  | 0x04 => (4, 4 + 8 * u32 p 0)
  | 0x11 => (4, max 4 p.length)
  | 0x20 => (16, 16 + 8 * u32 p 12)
  | 0x05 | 0x06 | 0x12 | 0x40 | 0x41 | 0x42 | 0x50 | 0x60 => (4, 4)
  | 0x13 | 0x32 => (8, 8)
  | 0x21 => (28, 28)
  | 0x31 => (16, 16)
  | _ => (0, 0)

/-- The first of some fields that is wrong: offset and whether it holds. -/
def firstBad (l : List (Nat × Bool)) : Option Nat := (l.find? (fun x => !x.2)).map (·.1)

/-- A register offset: a multiple of 4 within the register space (R439). -/
def regOfsOk (a : Nat) : Bool := decide (a % 4 = 0) && decide (a < 0x1000000)

/-- The fields that fix a request's length: COUNT. -/
def svcCount (op : Nat) (p : Bytes) : Option Nat :=
  match op with
  | 0x03 => firstBad [(0, within 1 (u32 p 0) 64)]
  | 0x04 => firstBad [(0, within 1 (u32 p 0) 32)]
  | 0x20 => firstBad [(12, within 1 (u32 p 12) 120)]
  | _ => none

/-- The first field of a request that is reserved and not zero, or out of range. -/
def svcFields (op : Nat) (p : Bytes) : Option Nat :=
  let z := fun (o n : Nat) => (o, leNat (slice o n p) == 0)
  match op with
  | 0x03 => firstBad ((below (u32 p 0)).map (fun i => (4 + 4 * i, regOfsOk (u32 p (4 + 4 * i)))))
  | 0x04 => firstBad ((below (u32 p 0)).map (fun i => (4 + 8 * i, regOfsOk (u32 p (4 + 8 * i)))))
  | 0x05 => firstBad [(0, decide (u16 p 0 < 512)), (2, within 1 (u16 p 2) 128 && decide (u16 p 0 + u16 p 2 ≤ 512))]
  | 0x06 => firstBad [(0, decide (u8 p 0 < 32)), z 1 3]
  | 0x11 => firstBad [(0, decide (u32 p 0 + (p.length - 4) ≤ 0x1000000))]
  | 0x12 => firstBad [(0, decide (u32 p 0 ≤ 0x1000000))]
  | 0x20 => firstBad ([(8, decide (u8 p 8 ≤ 1)), z 9 3] ++
      (below (u32 p 12)).map (fun i => (16 + 8 * i, decide (u32 p (16 + 8 * i) < 16384))))
  | 0x21 => firstBad [(8, decide (u8 p 8 ≤ 1)), (9, decide (u8 p 9 ≤ 2)), (10, decide (u16 p 10 < 16384))]
  | 0x31 => firstBad [(0, decide (toS 32 (u32 p 0) = toS 64 (u64 p 0))), (12, decide (u8 p 12 ≤ 1)), z 13 3]
  | 0x32 => firstBad [(0, decide ((toS 32 (u32 p 0)).natAbs ≤ 0x2000000))]
  | 0x40 => firstBad [(0, decide (u16 p 0 < 512)), z 2 2]
  | 0x41 => firstBad [(0, decide (u8 p 0 ≤ 2)), (1, decide (u8 p 1 < (if u8 p 0 = 0 then 32 else 4))), z 2 2]
  | 0x42 => firstBad [(0, decide (u8 p 0 < 48)), z 1 3]
  | 0x50 => firstBad [(0, decide (u8 p 0 ≤ 1)), z 1 3]
  | 0x60 => firstBad [(0, decide (u8 p 0 ≤ 2)), z 1 3]
  | _ => none

/-- Whether a register holds an RC field. -/
def regRC (a : Nat) : Bool := (regRow a).elim false (fun r => r.rc != 0)

/-- Step 9 of R436: 0, or the status of a length, field or register that a request may not have. -/
def Block.fieldRefused (b : Block) (r : Req) : Nat :=
  let l := svcLen r.op r.pay
  if r.pay.length < l.1 then stLENGTH
  else match svcCount r.op r.pay with
    | some o => stFIELD o
    | none =>
      if r.pay.length ≠ l.2 then stLENGTH
      else if r.odd then stFIELD 0
      else match svcFields r.op r.pay with
        | some o => stFIELD o
        | none =>
          if r.op = 3 ∧ b.level r.port < 2 ∧ !r.relayed ∧ (below (u32 r.pay 0)).any (fun i => regRC (u32 r.pay (4 + 4 * i))) then
            stPRIV (b.level r.port)
          else 0

/-! ## Messages through mailboxes (R432) -/

/-- A message leaves through a free mailbox: BELL is the mailbox's own number (log entry 29). -/
def Block.mbxSend (m : Nat) (bs : Bytes) (b : Block) : Block :=
  let n := max 8 ((bs.length + 3) / 4)
  ((b.mbxFill m bs).setReg (Reg.MBX_CTRL m) (setFld (b.reg (Reg.MBX_CTRL m)) 0 13 (256 * m + n))).mbxGo m

/-- Firmware's messages that wait go to the mailboxes that are free. -/
def Block.mbxFlush (b : Block) : Block :=
  [8, 9, 10, 11, 12, 13, 14, 15, 20, 21].foldl (fun x m =>
    match tget [] x.sys.msgs m with
    | [] => x
    | bs :: rest =>
      if x.mbxState m = 1 then x else (x.setSys (fun s => { s with msgs := tput [] m rest s.msgs })).mbxSend m bs) b

/-- A message joins those that wait for mailbox m. -/
def Block.mbxPost (m : Nat) (bs : Bytes) (b : Block) : Block :=
  (b.setSys (fun s => { s with msgs := tmod [] m (· ++ [bs]) s.msgs })).mbxFlush

/-- A request or one part of an answer as a message: OPCODE, TAG, STATUS, PLEN, MORE, payload. -/
def mbxMsg (op tag status : Nat) (more : Bool) (pay : Bytes) : Bytes :=
  leBytes 2 op ++ leBytes 2 tag ++ leBytes 2 status ++ leBytes 1 pay.length ++ leBytes 1 (b2n more) ++ pay

/-- The messages of an answer: 56 bytes of it each. -/
def answerMsgs (op tag status : Nat) : Nat → Bytes → List Bytes
  | 0, _ => []
  | n + 1, pay =>
    mbxMsg op tag status (decide (56 < pay.length)) (pay.take 56) ::
      (if 56 < pay.length then answerMsgs op tag status n (pay.drop 56) else [])

/-- The mailbox that answers requests of mailbox m: 8 to 15 for the host's, 20 and 21 for the twin's (R432). -/
def answerBox (m : Nat) : Nat := if m < 8 then 8 + m else m + 4

/-! ## Answers (R435, R437, R438) -/

/-- An ECP answer. -/
def ecpAnswer (r : Req) (status : Nat) (pay : Bytes) : Bytes :=
  let m := leBytes 2 0x5045 ++ leBytes 1 1 ++ leBytes 1 1 ++ leBytes 4 r.tag ++ leBytes 2 r.op ++ leBytes 2 status ++
    leBytes 2 pay.length ++ leBytes 2 (b2n r.twin) ++ pay
  m ++ leBytes 4 (crc32c m)

/-- The Ethernet port of a control port (R413): C0, M0 to M3, T0. -/
def ethPort (p : Nat) : Nat := if p = 2 then 4 else if p = 7 then 5 else p - 3

def Block.ecpSend (b : Block) (p peer sport : Nat) (bs : Bytes) : Block :=
  if b.portUp (ethPort p) then b.emit (.ecp p peer sport bs) else b

/-- A request is answered; an ECP answer is also kept for its duplicates: the last 16 of a port (R437). BUSY is no outcome of
an execution, and is not kept (log entry 29). -/
def Block.answer (r : Req) (status : Nat) (pay : Bytes) (b : Block) : Block :=
  match r.box with
  | some m =>
    (answerMsgs r.op (r.tag % 65536) status (pay.length / 56 + 1) pay).foldl (fun x bs => x.mbxPost (answerBox m) bs) b
  | none =>
    let bs := ecpAnswer r status pay
    let t := b.pclk
    let b1 := if status = stBUSY then b else b.setSys (fun s => { s with stored := tmod [] r.port (fun l =>
      ({ peer := r.peer, sport := r.sport, tag := r.tag, at' := t, bytes := bs } :: l).take 16) s.stored })
    b1.ecpSend r.port r.peer r.sport bs

/-- The counter pair of a port that carries ECP. -/
def ecpCnt (p : Nat) : Option Nat := if 2 ≤ p ∧ p ≤ 6 then some (p - 2) else none

/-- A violation by a request (R417, R419), counted for an ECP request in MBX_ECP_CNT. -/
def Block.reqViolates (r : Req) (code : Nat) (b : Block) : Block :=
  match r.box with
  | some m => b.violate r.port code 1 r.op m (r.tag % 65536 * 65536)
  | none =>
    let b1 := b.violate r.port code 0 r.op r.peer (r.sport % 65536 + r.tag % 65536 * 65536)
    (ecpCnt r.port).elim b1 (fun q => b1.count (Reg.MBX_ECP_CNT q) 0 16 1)

/-- A request is refused as a violation, and answered. -/
def Block.reqRefuse (r : Req) (status : Nat) (b : Block) : Block := (b.reqViolates r (status % 256)).answer r status []

/-- Step 7 of R436: a request is refused, or waits to be begun, at most 16 on each port (R437). -/
def Block.takeReq (r : Req) (b : Block) : Block :=
  match svcNeed r.op with
  | none => b.reqRefuse r stOPCODE
  | some _ =>
    if 16 ≤ (b.sys.waiting.filter (fun w => w.port == r.port)).length then b.answer r stBUSY []
    else b.setSys (fun s => { s with waiting := s.waiting ++ [r] })

/-- Steps 8 and 9 of R436, at the moment firmware begins a request (R416): 0, or the status that refuses it. A request that the
twin has carried here is not checked against a level again (R438). -/
def Block.beginRefused (b : Block) (r : Req) : Nat :=
  let lv := if r.relayed then 0 else (svcNeed r.op).elim 0 (b.levelRefused r.port)
  if lv ≠ 0 then lv else b.fieldRefused r

/-! ## An ECP datagram (R434 to R438) -/

/-- ECP_REQUEST: a datagram to UDP port 5940 at port p, from an address and UDP port; `uni` when its destination is the
port's unicast address. A request's STATUS is 0 (R435); one that is not fails step 9 (DEDUCED, log entry 29). -/
def Block.ecpRequest (p : Nat) (v6 : Bool) (peer sport : Nat) (uni : Bool) (d : Bytes) (b : Block) : Block :=
  let r : Req := { port := p, v6 := v6, peer := peer, sport := sport, tag := u32 d 4, op := u16 d 8, pay := (d.drop 16).take (d.length - 20) }
  let flags := u16 d 14
  if p < 2 ∨ 7 < p ∨ !b.sys.firmware ∨ !uni then b
  else if b.par.st ≠ 0 ∧ b.par.st ≠ 2 ∧ b.par.st ≠ 3 then
    (ecpCnt p).elim b (fun q => b.count (Reg.MBX_ECP_IGN q) 0 16 1)
  else if d.length < 20 ∨ u16 d 0 ≠ 0x5045 then b.reqViolates r 0x25
  else if u32 (d.drop (d.length - 4)) 0 ≠ crc32c (d.take (d.length - 4)) then b.reqViolates r 0x24
  else if u8 d 3 ≠ 0 then b.reqViolates r 0x26
  else
    let b1 := (ecpCnt p).elim b (fun q => b.count (Reg.MBX_ECP_CNT q) 16 16 1)
    if u8 d 2 ≠ 1 then b1.reqRefuse r stVERSION
    else if u16 d 12 % 4 ≠ 0 ∨ 1024 < u16 d 12 ∨ u16 d 12 ≠ d.length - 20 then b1.reqRefuse r stLENGTH
    else
      match (tget [] b1.sys.stored p).find? (fun a =>
        a.peer == peer && a.sport == sport && a.tag == r.tag && decide (b1.pclk < a.at' + 2000000000)) with
      | some a => b1.ecpSend p peer sport a.bytes
      | none => b1.takeReq { r with twin := bit flags 0, odd := decide (flags / 2 ≠ 0) || decide (u16 d 10 ≠ 0) }

/-! ## A request or an answer in a mailbox (R432, R438) -/

/-- A part of the twin's answer to a relayed request; the last part answers the request. -/
def Block.relayAnswer (y : Relay) (status : Nat) (more : Bool) (pay : Bytes) (b : Block) : Block :=
  let others := b.sys.relays.filter (fun z => z.tag != y.tag)
  if more then b.setSys (fun s => { s with relays := others ++ [{ y with got := y.got ++ pay }] })
  else
    let b1 := b.setSys (fun s => { s with relays := others })
    if y.dead then b1 else b1.answer y.req status (y.got ++ pay)

/-- Firmware takes a message from mailbox m: 0 to 7 of the host, 16 and 17 of the twin. A message of the twin with the OPCODE
and TAG of a relayed request is its answer (log entry 29). -/
def Block.mbxRequest (m : Nat) (b : Block) : Block :=
  let bs := (b.mbxBytes m).take (4 * b.mbxLen m)
  let plen := u8 bs 6
  let pay := (bs.drop 8).take plen
  let r : Req := { port := if m < 8 then 0 else 1, box := some m, tag := u16 bs 2, op := u16 bs 0, pay := pay, relayed := decide (16 ≤ m) }
  match if 16 ≤ m then b.sys.relays.find? (fun y => y.tag == r.tag && y.req.op == r.op) else none with
  | some y => b.relayAnswer y (u16 bs 4) (bit (u8 bs 7) 0) pay
  | none =>
    if 56 < plen ∨ 4 * b.mbxLen m - 8 < plen then b.reqRefuse r stLENGTH
    else b.takeReq { r with odd := decide (u16 bs 4 ≠ 0) || decide (u8 bs 7 ≠ 0) }

/-! ## Answers owed (R437) -/

/-- SYS_DFT_STAT (R67, R525). -/
def Block.dftStatView (b : Block) : Nat :=
  b.stg.errInst % 65536 * 2 ^ 16 + b.stg.err % 256 * 2 ^ 8 + b2n b.stg.cold * 2 ^ 7 + b.stg.owner.num * 16 + b.stg.st.num

/-- What VALIDATE answers: SYS_DFT_STAT, SYS_DFT_ERR_TAG, SYS_DFT_ERR_OFS, SYS_DFT_PREP. -/
def Block.validateAnswer (b : Block) : Bytes :=
  leBytes 4 b.dftStatView ++ leBytes 4 b.stg.errTag ++ leBytes 4 b.stg.errOfs ++ leBytes 4 (b.stg.prep % 65536)

/-- The answer of a begun draft command whose event has come; `stored` is the outcome of a STORE. -/
def Block.owedAnswer (b : Block) (stored : Bool) (r : Req) : Option (Nat × Bytes) :=
  match r.op with
  | 0x12 =>
    if b.stg.st = .validating then none
    else some (if b.stg.st = .rejected then stDRAFT b.stg.err else 0, b.validateAnswer)
  | 0x13 =>
    if b.par.proposed.isSome then none
    else if b.stg.st = .armed then some (0, leBytes 8 b.stg.armedAt) else some (stDRAFT b.stg.err, [])
  | _ => if b.stg.st = .storing then none else some (if stored then 0 else stREFUSED 0, [])

/-- Requests whose command has completed are answered. -/
def Block.payOwed (stored : Bool) (b : Block) : Block :=
  let due := b.sys.owed.filterMap (fun r => (b.owedAnswer stored r).map (fun a => (r, a)))
  let b1 := b.setSys (fun s => { s with owed := s.owed.filter (fun r => (b.owedAnswer stored r).isNone) })
  due.foldl (fun x e => x.answer e.1 e.2.1 e.2.2) b1

/-! ## Relays (R438) -/

/-- A request is carried to the twin; what no message can hold, or no link carry, is answered TWIN. -/
def Block.relay (r : Req) (b : Block) : Block :=
  if !b.gwUp ∨ 56 < r.pay.length then b.answer r stTWIN []
  else
    let k := b.sys.relayTag
    let t := b.pclk
    (b.setSys (fun s => { s with relayTag := (k + 1) % 65536,
                                 relays := s.relays.filter (fun y => y.tag != k) ++ [{ req := r, tag := k, at' := t }] })).mbxPost 20
      (mbxMsg r.op k 0 false r.pay)

/-- TWIN_TIMEOUT: 100 ms have passed since the oldest relayed request went (R438). -/
def Block.twinTimeout (b : Block) : Block :=
  match b.sys.relays.find? (fun y => !y.dead) with
  | none => b
  | some y =>
    let b1 := b.toPclk (y.at' + 100000000)
    (b1.setSys (fun s => { s with relays := s.relays.map (fun z => if z.tag = y.tag then { z with dead := true } else z) })).answer
      y.req stTWIN []

end Sys2Proof.Machine
end

