-- ==== Sys2Proof/Machine/Commit.lean ====
section
/-! DEFINITION. The commit itself (spec/02_draft.md, R73 to R79): the decision at block tick N - 1, everything that takes
effect at block tick N, and the release of the plies that a cold commit mutes. -/

namespace Sys2Proof.Machine

/-! ## The decision (R73, R134, R217, R219) -/

/-- Whether everything but the loading itself is ready at block tick N - 1: the edit queue has room (R134), and what the
draft needs is up (R217). -/
def Block.commitRoom (b : Block) : Bool :=
  decide (b.editsQueued ≤ 256) && b.stg.eff.elim false (fun d => (b.domNeeds d).all b.domOn)

/-- Preparation: the staged kernels are loaded at their starting places (R73). -/
def Block.loadStaged (d : Draft) (b : Block) : Block :=
  b.crl.staged.foldl (fun x c => (d.kern? c.k).elim x (fun k =>
    x.loadKernel (if k.dom = 0 then 4 * d.domn.fMult else 4) k (placeOf k c 0))) b

/-- COMMIT_DECISION at block tick N - 1: `ready` says that every part has been loaded. Migrations that have not switched
are aborted (R219), and the kernels are loaded (R73); on a pair, the decision goes to the twin (R411). -/
def Block.commitDecide (ready : Bool) (b : Block) : Block :=
  if b.stg.st ≠ .armed ∨ b.par.decided then b
  else
    let b0 := b.toBlk (b.stg.armedAt - 1)
    if b0.stg.st ≠ .armed then b0 else
    let b1 := b0.crl.migs.foldl (fun x m => x.migAbort m 6) b0
    let go := ready && b1.commitRoom
    let b2 := if b1.par.agreed then b1.sendDecide (b1.stg.eff.elim 0 (·.serial)) go else b1
    if go then (b2.stg.eff.elim b2 (fun d => b2.loadStaged d)).setPar (fun p => { p with decided := true }) else b2.abandon (some 0x82)

/-! ## The loom at block tick N (R74, R75, R77, R127 to R129, R134) -/

/-- The layout and bank of a store after a commit (R127). -/
def bankAfter (w : Way) (wide : Bool) (k : BankState) : BankState :=
  match w with
  | .load => { wide := wide, bank := 0 }
  | .swap => { wide := wide, bank := 1 - k.bank }
  | _ => { wide := wide, bank := k.bank }

/-- Edits end: those due at or before N are overridden, those held or due later are discarded (R75, R134). -/
def Block.editsEnd (b : Block) (n : Nat) : Block :=
  let late := b.loom.edits.any (fun e => e.held || decide (n < e.due))
  let b1 := b.setLoom (fun l => { l with edits := [], resv := 0 })
  if late then b1.setInt Reg.LOM_INT 6 else b1

/-- The stores take the decks and coefficients of a draft; earlier passes of X keep their view (R74). -/
def Block.storesTake (b : Block) (old : Option Draft) (d : Draft) : Block :=
  let cb := bankAfter (cardWay old d) d.cardsWide b.loom.cardBank
  let kb := bankAfter (coefWay old d) d.coefsWide b.loom.coefBank
  let base := if cb.wide then 0 else cb.bank * 8192
  let n0 := (d.deckCut 0).length
  let n1 := (d.deckCut 1).length
  let cs := d.coefWords.map (fun w => (coefEntry kb w.2.2.1, w.2.2.2))
  let feed := b.feeders
  let b1 := b.xHold.setLoom (fun l => { l with cardBank := cb, coefBank := kb, coefs := coefPut cs })
  let b2 := (b1.deckLoad 0 base (b.deckCards 0) (d.deckCut 0)).deckLoad 1 (base + n0) (b.deckCards 1) (d.deckCut 1)
  (b2.deckLoad 2 (base + n0 + n1) (b.deckCards 2) (d.deckCut 2)).meterRestart feed

/-- Cells of memory in a range, moved by a distance. -/
def cellsMoved (m : List Host.Cell) (src dst n : Nat) : List Host.Cell :=
  (m.filter (fun c => decide (src ≤ c.1) && decide (c.1 < src + n))).map (fun c => (c.1 - src + dst, c.2))

/-- Delay lines: an unchanged record keeps its words, wherever its region now lies; any other line reads 0 (R77, R233). -/
def Block.linesTake (b : Block) (old : Option Draft) (d : Draft) : Block :=
  let f := old.getD {}
  let kept := d.dlays.filter (fun r => (f.dlay? r.line).elim false (fun o => o.dom == r.dom && o.len == r.len))
  let moved := kept.filter (fun r => lineBase f r.line != lineBase d r.line)
  let cells := moved.flatMap (fun r => cellsMoved b.mem (lineBase f r.line) (lineBase d r.line) (4 * lineWords r.len))
  let inDst := fun (a : Nat) => moved.any (fun r => decide (lineBase d r.line ≤ a) && decide (a < lineBase d r.line + 4 * lineWords r.len))
  let mem := if moved.isEmpty then b.mem
    else cells.foldl (fun m c => memPut m c.1 c.2) (b.mem.filter (fun c => !(inDst c.1)))
  let ls := b.loom.lines.filter (fun e => kept.any (fun r => r.line == e.1))
  { b with mem := mem, loom := { b.loom with lines := ls } }

/-! ## Kernels at block tick N (R76, R166, R213, R218, R219) -/

/-- A new or changed kernel takes its starting place, from block N on, after the entries that continue. -/
def Block.kernelStart (n : Nat) (d : Draft) (b : Block) (c : CPlace) : Block :=
  match d.kern? c.k with
  | none => b
  | some k =>
    let e := maxOf ((b.crl.run.filter (fun p => p.s == c.s)).map (·.entry + 1)) 0
    let p := { placeOf k c n with entry := e }
    b.setCrl (fun r => { r with run := r.run ++ [p] })

/-- Kernels at a commit: old forms of changed and removed kernels process block N - 1 last, new forms start with block N,
and every kernel away from the place that the present fault map gives it is to migrate there (R213). A starting place whose spindle
has entered the fault map since VALIDATE is given up as R215 says. -/
def Block.kernelsTake (n : Nat) (go : Nat → Bool) (d : Draft) (b : Block) : Block :=
  let b1 := b.setCrl (fun r => { r with
    run := r.run.map (fun p => if p.last.isNone && !go p.k then { p with last := some (n - 1) } else p),
    restarts := r.restarts.filter (fun p => go p.k), waits := r.waits.filter (fun p => go p.k), noPlace := r.noPlace.filter go,
    held := false })
  let order := (placeOrder d).filterMap (fun k => b.crl.staged.find? (fun c => c.k == k.id))
  let b2 := order.foldl (Block.kernelStart n d) b1
  let touched := ((b.crl.run.filter (fun p => !go p.k)).map (·.s) ++ order.map (·.s)).eraseDups
  let b3 := touched.foldl (fun x s => x.armList s (n + 1)) b2
  let b4 := b3.recompute.wantComputed 0
  ((order.filter (fun c => b4.crl.fmap.contains c.s)).foldl (fun x c =>
    (x.runPlace c.k).elim x (Block.replace (x.spn c.s).isol x)) b4).updConverged

/-! ## Registers that a draft sets (R44, R77, R340, R413) -/

/-- Registers return to their reset values. -/
def Block.resetRegs (b : Block) (as : List Nat) : Block := as.foldl (fun x a => x.setReg a (regReset a).toNat) b

/-- Whether the staged draft itself holds a chunk: a chunk inherited by a patch has no offset (R525). -/
def Draft.carries (d : Draft) (tag inst : Nat) : Bool := (d.chunk? tag inst).elim false (fun c => c.off.isSome)

/-- Whether a commit takes away what a chunk configures: a full draft without it, or a patch that deletes it. A patch without
a chunk that the draft in force lacks too leaves the chunk's registers as they are (R44, R63). -/
def Block.without (b : Block) (old : Option Draft) (d : Draft) (tag : Nat) : Bool :=
  (d.chunk? tag 0).isNone && (!bit (u8 b.stg.held 0x20) 0 || (old.bind (fun o => o.chunk? tag 0)).isSome)

/-- WELL (R58, R340). -/
def Block.wellTake (b : Block) (old : Option Draft) (d : Draft) : Block :=
  let rs := [Reg.WLH_TOL, Reg.WLH_HYST, Reg.WLH_AGREE, Reg.WLH_HOLD_BUDGET, Reg.WLH_QUAL, Reg.WLH_AGING, Reg.WLH_TEMPCO] ++
    (below 11).map Reg.WLH_CAND_CFG
  match d.pay? tagWELL 0 with
  | none => if b.without old d tagWELL then ((b.resetRegs rs).setRfld Reg.WLH_CTRL 3 1 0).select false else b
  | some p =>
    if !d.carries tagWELL 0 then b
    else
      let b1 := (below 11).foldl (fun x c => x.setReg (Reg.WLH_CAND_CFG c) (u8 p c)) b
      let b2 := (((b1.setRfld Reg.WLH_CTRL 3 1 (u8 p 0xC)).setReg Reg.WLH_TOL (u32 p 0x10)).setReg Reg.WLH_QUAL
        (u16 p 0x14 + 65536 * u16 p 0x16)).setReg Reg.WLH_HYST (u32 p 0x18)
      let b3 := (b2.setReg Reg.WLH_AGREE (u32 p 0x1C)).setReg Reg.WLH_HOLD_BUDGET (if u32 p 0x20 = 0 then 1000 else u32 p 0x20)
      ((b3.setReg Reg.WLH_AGING (u32 p 0x24)).setReg Reg.WLH_TEMPCO (u32 p 0x28)).select false

/-- TIME.JUMP_LIM (R59, R310). -/
def Block.timeTake (b : Block) (old : Option Draft) (d : Draft) : Block :=
  match d.time? with
  | none => if b.without old d tagTIME then b.setReg Reg.TSU_JUMP_LIM 1000 else b
  | some t => if d.carries tagTIME 0 then b.setReg Reg.TSU_JUMP_LIM (if t.jumpLim = 0 then 1000 else t.jumpLim) else b

/-- PAIR (R60): PAR_CFG and PAR_ID. -/
def Block.pairTake (b : Block) (d : Draft) : Block :=
  let p := d.pair?.elim ({ lease := 0 } : PairCfg) id
  (b.setReg Reg.PAR_CFG (p.lease % 256 * 2 ^ 24 + p.policy % 4 * 2 ^ 22 + p.pref % 2 * 2 ^ 21 + b2n p.en * 2 ^ 20 +
    b.rfld Reg.PAR_CFG 0 20)).setReg Reg.PAR_ID p.pairId

/-- One port takes its SPEED or mode (R61, R252): a change drops the link. -/
def Block.speedTake (b : Block) (p v : Nat) : Block :=
  let a := portBase p
  if b.rfld a 0 2 = v then b
  else
    let b1 := b.setRfld a 0 2 v
    let b2 := if p < 4 ∧ v = 1 ∧ b1.rfld a 2 2 = 2 then b1.setRfld a 2 2 0 else b1
    if b.portUp p then b2.linkFall p (setFld (b.reg (a + 4)) 0 1 0) else b2

/-- PORT (R61, R413). -/
def Block.portTake (b : Block) (old : Option Draft) (d : Draft) : Block :=
  let p := (d.pay? tagPORT 0).getD []
  let has := (d.pay? tagPORT 0).isSome
  let lv := ((below 8).map (fun k =>
    (if has && u8 p k != 0xFF then min (levelCeil k) (u8 p k) else levelCeil k) * 4 ^ k)).sum
  let b1 := if b.without old d tagPORT || d.carries tagPORT 0 then b.setReg Reg.MBX_PRIV lv else b
  let b2 := (below 4).foldl (fun x i => x.speedTake i (u8 p (8 + i) % 4)) b1
  (b2.speedTake 4 (u8 p 0xC % 4)).setRfld Reg.FBS_CFG 0 1 (u8 p 0xD)

/-! ## Skeins, sluices, hanks and banks (R78) -/

/-- Instances of a tag that a commit configures: all of them on a first commit, else those that changed. -/
def takeInsts (old : Option Draft) (d : Draft) (tag : Nat) : List Nat := changedInsts (old.getD {}) d tag

/-- The skeins that a commit leaves as they are go where the new draft places their buffers, then those that it changes are
configured (R300, R302); `held` gives the words of each before the commit. -/
def Block.skeinsTake (old : Option Draft) (d : Draft) (held : Nat → List (Nat × List Int)) (b : Block) : Block :=
  let spilled := ((sysShare d b.fB b.badBasins).toOption.elim [] (·.2))
  let new := takeInsts old d tagSKIN
  let same := (d.skins.map (·.inst)).filter (fun i => decide (i < 128) && !new.contains i)
  let b1 := same.foldl (fun x i => x.setRxs i { x.rxs i with spill := spilled.contains i }) b
  let b2 := new.foldl (fun x i => match d.skin? i with
    | some k => (x.skinConfig spilled i).joinSkein d k
    | none => x.skinRemove i) b1
  same.foldl (fun x i => x.respill (b.rxs i).spill (held i) i) b2

def Block.hardwareTake (n : Nat) (old : Option Draft) (d : Draft) (held : Nat → List (Nat × List Int)) (b : Block) : Block :=
  let b1 := b.skeinsTake old d held
  let b2 := (takeInsts old d tagSLUC).foldl (fun x i => match d.sluc? i with
    | some c => x.sluConfig i c
    | none => x.setSlu i {}) b1
  let hk := takeInsts old d tagRILL
  let b3 := hk.foldl (Block.hankConfig d) b2
  let only := (below 6).filter (fun h => !hk.contains h && d.carries tagRILL h)
  let b4 := only.foldl (fun x h =>
    ((x.setReg (Reg.RIL_HANK_MASK h) (d.hankMask h)).setReg (Reg.RIL_HANK_MASK_ACTIVE h) (d.hankMask h)).setRil
      (fun r => { r with pend := r.pend.filter (· != h) })) b3
  let b5 := (takeInsts old d tagJETS).foldl Block.bankConfig b4
  if old.isSome then b5
  else (below 4).foldl (fun x k => if (x.bank k).cfg then x.setBank k { x.bank k with startAt := some n } else x) b5

/-- A jet bank with an affected ply runs its stop sequence from block N (R78). -/
def Block.banksStop (n : Nat) (ps : List Nat) (d : Draft) (b : Block) : Block :=
  (below 4).foldl (fun x k =>
    if (bankLanes k).any (fun l => (d.plyOf? l).elim false (fun r => ps.contains r.ply)) && ((x.bank k).st == 1 || (x.bank k).st == 2) then
      x.setBank k { x.bank k with stopAt := some n } else x) b

/-- A domain's switch-off begins: it takes 2 us (R460). -/
def Block.domStop (b : Block) (d : Nat) : Block :=
  if b.domOn d then
    let t := b.pclk + 2000
    (b.setRfld Reg.PWR_DOM_ON d 1 0).setSys (fun s => { s with offing := tput 0 d t s.offing })
  else b

/-! ## The whole of it -/

/-- Draft `d` takes effect at block tick `n`. -/
def Block.commitAt (n : Nat) (d : Draft) (cold : Bool) (b : Block) : Block :=
  let old := b.stg.force
  let go := fun (k : Nat) => b.continues d k
  let ps := if cold then old.elim [] (fun f => affectedPlies f d) else []
  let fm := old.elim false (fun f => f.domn.fMult != d.domn.fMult)
  let b0 := (b.passesBefore n).editsEnd n
  let b1 := ((if fm then b0.reindex 0 (b0.tick 0 * d.domn.fMult / b0.domn.fMult) else b0).linesTake old d).storesTake old d
  let b2 := ((b1.setStg (fun g => { g with force := some d })).linesSweep 0).linesSweep 1
  let b3 := (b2.kernelsTake n go d).hardwareTake n old d (b.heldAt b.domn.fMult d.domn.fMult)
  let b4 := (((b3.wellTake old d).timeTake old d).pairTake d).portTake old d
  let b5 := (b4.rsvCommit d).banksStop n ps d
  let b6 := { b5 with muted := b5.muted.filter (fun e => (d.ply? e.1).isSome) }
  let b7 := b6.muteAll muCold ps
  let b8 := if fm then b7.ratioFix else b7
  let b9 := (b8.setReg64 Reg.SYS_DFT_SER_LO Reg.SYS_DFT_SER_HI d.serial).wrBytes b8.forceBase (draftBytes d)
  let b10 := b9.stgEmpty.setPar (fun p => { p with agreed := false, twinGo := none, decided := false })
  let b11 := b10.fenceCheck.setInt Reg.SYS_DFT_INT 2
  let keep := b11.stg.unsettled.filter (fun p => (d.ply? p).isSome && !ps.contains p)
  if cold && !ps.isEmpty then
    b11.setStg (fun g => { g with st := .settling, settleN := n, affected := ps, unsettled := keep })
  else
    let b12 := b11.setStg (fun g => { g with unsettled := keep })
    if cold then b12.setInt Reg.SYS_DFT_INT 3 else b12

/-- COMMIT_BLOCK: block tick N of the armed commit. A commit not yet decided is decided here; on a pair it also needs the
twin's GO (R411). -/
def Block.commitBlock (b : Block) : Block :=
  let b0 := b.commitDecide true
  match b0.stg.st, b0.stg.eff with
  | .armed, some d =>
    let b1 := b0.toBlk b0.stg.armedAt
    if b1.stg.st ≠ .armed then b1
    else if b1.par.agreed && b1.par.twinGo != some true then b1.abandon (some 0x91)
    else b1.commitAt b0.stg.armedAt d b0.stg.cold
  | _, _ => b0

/-! ## Cold release (R78, R79) -/

/-- Whether the blocks of a ply are ready at block tick `n` (R108, R302, R365, R383): its sluices have entered ACQUIRE, its
receive skein is in WAIT, block N has loaded its hank, and its jet bank has
stopped and loaded. -/
def Block.plyReady (b : Block) (n p : Nat) : Bool :=
  match b.stg.force.bind (fun d => (d.ply? p).map (fun r => (d, r))) with
  | none => true
  | some (d, r) =>
    let ls := r.lanes
    (below 4).all (fun k => !(ls.any (fun l => (bankLanes k).contains l)) || (!(b.bank k).reload && (b.bank k).stopAt.isNone && (b.bank k).st != 3)) &&
    ls.all (fun l => !(isSluIn l || (decide (0x1F00 ≤ l) && decide (l ≤ 0x1FFF))) || (b.slu (l % 256)).st != .off) &&
    (ls.all (fun l => decide (l < 0x1000) || decide (0x10BF < l)) || decide (b.stg.settleN < n)) &&
    d.skins.all (fun k => k.inst ≥ 128 || !(ls.any (fun l => (upFrom k.firstLane k.lanes).contains l)) || (b.rxs k.inst).st == 1)

/-- An affected ply is released; a jet bank whose plies are all released starts (R78). -/
def Block.plyFree (b : Block) (p : Nat) : Block :=
  let drop := fun (q : List Nat) => q.filter (· != p)
  let b1 := (b.setMute muCold false p).setStg (fun g => { g with affected := drop g.affected, unsettled := drop g.unsettled })
  match b.stg.force with
  | none => b1
  | some d =>
    (below 4).foldl (fun x k =>
      let mine := (d.ply? p).elim false (fun r => r.lanes.any (fun l => (bankLanes k).contains l && decide (l < 0x10E0)))
      if mine && (x.bank k).cfg && (x.bank k).st == 0 then x.setBank k { x.bank k with startAt := some x.blk } else x) b1

/-- Every affected ply of a settling commit has been released (R69, R78). -/
def Block.settledCheck (b : Block) : Block :=
  let b1 := if b.stg.affected.isEmpty && b.stg.unsettled.isEmpty then b.setInt Reg.SYS_DFT_INT 3 else b
  if b.stg.affected.isEmpty && b.stg.st == .settling then b1.setStg (fun g => { g with st := .empty }) else b1

/-- COLD_RELEASE: at block tick `n`, the plies listed whose blocks are ready are released. -/
def Block.coldRelease (n : Nat) (ps : List Nat) (b : Block) : Block :=
  let b1 := b.toBlk n
  let go := ps.filter (fun p => b1.stg.affected.contains p && b1.plyReady n p)
  if go.isEmpty then b1 else (go.foldl Block.plyFree b1).settledCheck

/-- SETTLE_TIMEOUT: 100 ms after block tick N (R79). -/
def Block.settleTimeout (b : Block) : Block :=
  if b.stg.st ≠ .settling then b
  else
    let b1 := b.advance (tickInstant b.fBlk b.stg.settleN + 100000000 * 2 ^ 32)
    let first := b1.stg.affected.head?.getD 0
    let new := !((b1.frec srcSYS).pend && ((b1.frec srcSYS).held.any (fun h => h.code == 1)))
    let b2 := b1.stg.affected.foldl (fun x p => (x.setInt Reg.SYS_INT 0).raise srcSYS 1 1 0 p) b1
    let b3 := if new then b2.setReg Reg.SYS_FLT_INFO first else b2
    b3.setStg (fun g => { g with st := .empty, unsettled := g.unsettled ++ g.affected, affected := [] })

/-- PLY_RELEASE of a ply left muted by R79: whether it was one, and the block. -/
def Block.plyRelease (p : Nat) (b : Block) : Bool × Block :=
  if b.stg.unsettled.contains p then (true, (b.plyFree p).settledCheck) else (false, b)

/-! ## Boot commits (R82) -/

/-- The first flash draft that passes every phase, in the order of R82. -/
def Block.bootDraft (b : Block) : Option Passed :=
  let first := b.defaultSlot.toList
  let other := (below 2).filter (fun i => !first.contains i && (b.slotInfo i).isSome)
  (first ++ other).findSome? (fun i => (b.slotInfo i).bind (fun r =>
    (b.validateBytes true r.2 (b.flashBytes (slotBase i) (min 0x1000000 r.2))).toOption))

end Sys2Proof.Machine
end

