-- ==== Sys2Proof/Machine/Boot.lean ====
section
/-! DEFINITION. The firmware image and its verification (spec/18_power_boot.md, R478 to R482). SHA-384 and ECDSA over
P-384 are the standard algorithms that the manual names (log entry 23). -/

namespace Sys2Proof.Machine

/-! ## SHA-384 -/

def shaK0 : List Nat := [
  0x428A2F98D728AE22, 0x7137449123EF65CD, 0xB5C0FBCFEC4D3B2F, 0xE9B5DBA58189DBBC,
  0x3956C25BF348B538, 0x59F111F1B605D019, 0x923F82A4AF194F9B, 0xAB1C5ED5DA6D8118,
  0xD807AA98A3030242, 0x12835B0145706FBE, 0x243185BE4EE4B28C, 0x550C7DC3D5FFB4E2,
  0x72BE5D74F27B896F, 0x80DEB1FE3B1696B1, 0x9BDC06A725C71235, 0xC19BF174CF692694]

def shaK1 : List Nat := [
  0xE49B69C19EF14AD2, 0xEFBE4786384F25E3, 0x0FC19DC68B8CD5B5, 0x240CA1CC77AC9C65,
  0x2DE92C6F592B0275, 0x4A7484AA6EA6E483, 0x5CB0A9DCBD41FBD4, 0x76F988DA831153B5,
  0x983E5152EE66DFAB, 0xA831C66D2DB43210, 0xB00327C898FB213F, 0xBF597FC7BEEF0EE4,
  0xC6E00BF33DA88FC2, 0xD5A79147930AA725, 0x06CA6351E003826F, 0x142929670A0E6E70]

def shaK2 : List Nat := [
  0x27B70A8546D22FFC, 0x2E1B21385C26C926, 0x4D2C6DFC5AC42AED, 0x53380D139D95B3DF,
  0x650A73548BAF63DE, 0x766A0ABB3C77B2A8, 0x81C2C92E47EDAEE6, 0x92722C851482353B,
  0xA2BFE8A14CF10364, 0xA81A664BBC423001, 0xC24B8B70D0F89791, 0xC76C51A30654BE30,
  0xD192E819D6EF5218, 0xD69906245565A910, 0xF40E35855771202A, 0x106AA07032BBD1B8]

def shaK3 : List Nat := [
  0x19A4C116B8D2D0C8, 0x1E376C085141AB53, 0x2748774CDF8EEB99, 0x34B0BCB5E19B48A8,
  0x391C0CB3C5C95A63, 0x4ED8AA4AE3418ACB, 0x5B9CCA4F7763E373, 0x682E6FF3D6B2B8A3,
  0x748F82EE5DEFB2FC, 0x78A5636F43172F60, 0x84C87814A1F0AB72, 0x8CC702081A6439EC,
  0x90BEFFFA23631E28, 0xA4506CEBDE82BDE9, 0xBEF9A3F7B2C67915, 0xC67178F2E372532B]

def shaK4 : List Nat := [
  0xCA273ECEEA26619C, 0xD186B8C721C0C207, 0xEADA7DD6CDE0EB1E, 0xF57D4F7FEE6ED178,
  0x06F067AA72176FBA, 0x0A637DC5A2C898A6, 0x113F9804BEF90DAE, 0x1B710B35131C471B,
  0x28DB77F523047D84, 0x32CAAB7B40C72493, 0x3C9EBE0A15C9BEBC, 0x431D67C49C100D4C,
  0x4CC5D4BECB3E42B6, 0x597F299CFC657E2A, 0x5FCB6FAB3AD6FAEC, 0x6C44198C4A475817]

def sha384Iv : List Nat := [
  0xCBBB9D5DC1059ED8, 0x629A292A367CD507, 0x9159015A3070DD17, 0x152FECD8F70E5939,
  0x67332667FFC00B31, 0x8EB44A8768581511, 0xDB0C2E0D64F98FA7, 0x47B5481DBEFA4FA4]

def rotr64 (n x : Nat) : Nat := (x >>> n) ||| ((x <<< (64 - n)) % 2 ^ 64)

/-- One round: the eight working words, and a round's constant plus its message word. -/
def shaRound (w : List Nat) (kx : Nat) : List Nat :=
  match w with
  | [a, b, c, d, e, f, g, h] =>
    let s1 := rotr64 14 e ^^^ rotr64 18 e ^^^ rotr64 41 e
    let ch := (e &&& f) ^^^ ((2 ^ 64 - 1 - e) &&& g)
    let t1 := h + s1 + ch + kx
    let s0 := rotr64 28 a ^^^ rotr64 34 a ^^^ rotr64 39 a
    let mj := (a &&& b) ^^^ (a &&& c) ^^^ (b &&& c)
    [(t1 + s0 + mj) % 2 ^ 64, a, b, c, (d + t1) % 2 ^ 64, e, f, g]
  | _ => w

/-- The message schedule, newest word first. -/
def shaMore (ws : List Nat) (_ : Nat) : List Nat :=
  let x := ws.getD 1 0
  let y := ws.getD 14 0
  let s1 := rotr64 19 x ^^^ rotr64 61 x ^^^ (x >>> 6)
  let s0 := rotr64 1 y ^^^ rotr64 8 y ^^^ (y >>> 7)
  ((s1 + ws.getD 6 0 + s0 + ws.getD 15 0) % 2 ^ 64) :: ws

def shaBlock (hs : List Nat) (m : Bytes) : List Nat :=
  let w0 := ((below 16).map (fun i => be64 m (8 * i))).reverse
  let ws := ((below 64).foldl shaMore w0).reverse
  let out := (List.zipWith (· + ·) (shaK0 ++ shaK1 ++ shaK2 ++ shaK3 ++ shaK4) ws).foldl shaRound hs
  List.zipWith (fun x y => (x + y) % 2 ^ 64) hs out

def shaBlocks : Nat → List Nat → Bytes → List Nat
  | 0, hs, _ => hs
  | n + 1, hs, m => shaBlocks n (shaBlock hs (m.take 128)) (m.drop 128)

def sha384 (m : Bytes) : Nat :=
  let z := (128 - (m.length + 17) % 128) % 128
  let p := m ++ [0x80] ++ List.replicate z 0 ++ beBytes 16 (8 * m.length)
  ((shaBlocks (p.length / 128) sha384Iv p).take 6).foldl (fun a x => a * 2 ^ 64 + x) 0

/-! ## ECDSA over P-384 -/

def p384P : Nat := 0xFFFFFFFFFFFFFFFFFFFFFFFFFFFFFFFFFFFFFFFFFFFFFFFFFFFFFFFFFFFFFFFEFFFFFFFF0000000000000000FFFFFFFF
def p384N : Nat := 0xFFFFFFFFFFFFFFFFFFFFFFFFFFFFFFFFFFFFFFFFFFFFFFFFC7634D81F4372DDF581A0DB248B0A77AECEC196ACCC52973
def p384B : Nat := 0xB3312FA7E23EE7E4988E056BE3F82D19181D9C6EFE8141120314088F5013875AC656398D8A2ED19D2A85C8EDD3EC2AEF
def p384G : Nat × Nat := (0xAA87CA22BE8B05378EB1C71EF320AD746E1D3B628BA79B9859F741E082542A385502F25DBF55296C3A545E3872760AB7,
  0x3617DE4A96262C6F5D9E98BF9292DC29F8F41DBD289A147CE9DA3113B5F0B8C00A60B1CE1D7E819D7A431D7C90EA0E5F)

/-- `a ^ e mod m`, by the low `n` bits of `e`. -/
def powMod (m : Nat) : Nat → Nat → Nat → Nat
  | 0, _, _ => 1 % m
  | n + 1, a, e =>
    let r := powMod m n (a * a % m) (e / 2)
    if e % 2 = 1 then r * a % m else r

/-- The inverse modulo a prime. -/
def invMod (m a : Nat) : Nat := powMod m 384 (a % m) (m - 2)

/-- The sum of two points; `none` is the point at infinity. -/
def ecAdd (a b : Option (Nat × Nat)) : Option (Nat × Nat) :=
  match a, b with
  | none, q => q
  | q, none => q
  | some (x1, y1), some (x2, y2) =>
    let m := p384P
    if x1 = x2 ∧ (y1 + y2) % m = 0 then none
    else
      let l := if x1 = x2 then (3 * x1 * x1 + (m - 3)) * invMod m (2 * y1) % m else (y2 + (m - y1)) * invMod m (x2 + (m - x1)) % m
      let x := (l * l + (m - x1) + (m - x2)) % m
      some (x, (l * (x1 + (m - x)) + (m - y1)) % m)

/-- A multiple of a point, by the low `n` bits of `k`. -/
def ecMul : Nat → Nat → Option (Nat × Nat) → Option (Nat × Nat)
  | 0, _, _ => none
  | n + 1, k, q =>
    let r := ecMul n (k / 2) (ecAdd q q)
    if k % 2 = 1 then ecAdd r q else r

def onCurve (x y : Nat) : Bool :=
  decide (x < p384P) && decide (y < p384P) && decide (y * y % p384P = (x * x * x + (p384P - 3) * x + p384B) % p384P)

/-- Whether (r, s) signs the hash `z` under the public key (x, y). -/
def ecdsaOk (x y r s z : Nat) : Bool :=
  if !onCurve x y || r == 0 || s == 0 || decide (p384N ≤ r) || decide (p384N ≤ s) then false
  else
    let w := invMod p384N s
    match ecAdd (ecMul 384 (z * w % p384N) (some p384G)) (ecMul 384 (r * w % p384N) (some (x, y))) with
    | none => false
    | some q => q.1 % p384N == r

/-! ## The image (R479, R480) -/

/-- Distaff SRAM (R24, R480). -/
def sramBase : Nat := 0x11000000

/-- The greatest image: the header and LENGTH of at most 0x1E_0000. -/
def maxBody : Nat := 0x1E0000

def imageLen (h : Bytes) : Nat := 256 + min maxBody (u32 h 0x10)

/-- PWR_BOOT.ERR of an image, 0 when every check passes (R480). -/
def imageErr (img : Bytes) : Nat :=
  let n := u32 img 0x10
  let shape := img.take 4 = [0x4C, 0x46, 0x57, 0x49] ∧ u16 img 4 = 1 ∧ u16 img 6 = 0x2048 ∧ n % 4 = 0 ∧ n ≤ maxBody ∧
    u32 img 0x14 < n ∧ u64 img 0x18 = 0 ∧ leNat (slice 0xE0 32 img) = 0
  if ¬ shape then 1
  else if sha384 (slice 0x20 96 img) ≠ Config.fusedKeyHash.toNat then 2
  else if u32 img 0xC < Config.fusedRollback.toNat then 3
  else if !ecdsaOk (beNat (slice 0x20 48 img)) (beNat (slice 0x50 48 img)) (beNat (slice 0x80 48 img)) (beNat (slice 0xB0 48 img))
      (sha384 (img.take 0x80 ++ slice 0x100 n img)) then 4
  else 0

/-- PWR_BOOT.STATE and its values (R480 to R482). -/
def Block.bootSt (b : Block) : Nat := b.rfld Reg.PWR_BOOT 0 4
def btREADING : Nat := 1
def btVERIFYING : Nat := 2
def btHOST : Nat := 3
def btTWIN : Nat := 4
def btDONE : Nat := 5
def btFAILED : Nat := 6

def Block.setBoot (b : Block) (st err : Nat) : Block := (b.setRfld Reg.PWR_BOOT 0 4 st).setRfld Reg.PWR_BOOT 8 3 err

/-- A verified image: the boot ROM sets REMAP and starts distaff 0 at ENTRY (R480). -/
def Block.bootDone (b : Block) : Block := ((b.setBoot btDONE 0).setReg Reg.SYS_REMAP 1).setSys (fun s => { s with distaff0 := true })

/-- The image in distaff SRAM, of the length given, or of its header's. -/
def Block.sramImage (b : Block) (n : Option Nat) : Bytes := b.rdBytes sramBase (n.getD (imageLen (b.rdBytes sramBase 256)))

/-- The image that waits in distaff SRAM is checked; a failure returns to the state in which the source is asked
(R481, R482). -/
def Block.bootCheck (b : Block) (n : Option Nat) : Block :=
  let e := imageErr (b.sramImage n)
  if e = 0 then b.bootDone else b.setBoot b.bootSt e

/-- Where flash image `i` lies (R478). -/
def imageBase (i : Nat) : Nat := if i = 0 then 0 else 0x800000

end Sys2Proof.Machine
end

