-- ==== Sys2Proof/Machine/Pair.lean ====
section
/-! DEFINITION. Pairing and fail-over (spec/15_pairing.md, R389 to R412): received frames, the lanes, digests, and the
state machine that a unit runs at each block tick. -/

namespace Sys2Proof.Machine

/-! ## A change of driver (R399, R401, R405, R409) -/

/-- The outputs of a unit that starts to drive; but for a change by resignation they ramp in (R399, log entry 24). -/
def Block.driveOut (b : Block) (ramp : Bool) : Block :=
  let js := (below 32).filter (fun n => (b.jetOf n).modulating)
  let b1 := js.foldl (fun x n =>
    let y := if ramp then x.setJet n { x.jetOf n with lvl := 0 } else x
    if (x.jetOf n).st = 2 ∨ (x.jetOf n).st = 3 then y.emit (.pin (pinJetEn n) true) else y) b
  if ramp then (below 48).foldl (fun x n => if (x.rill n).st = 0 then x else x.setRill n { x.rill n with outLvl := 0 }) b1 else b1

/-- The unit enters a state of R401; `ramp` says that it does not come about by resignation. -/
def Block.setRole (st : Nat) (ramp : Bool) (b : Block) : Block :=
  if st = b.par.st then b
  else
    let was := b.drives
    let t := b.now
    let b1 := (b.setPar (fun p => { p with st := st, gotGrant := false, sentGrant := false, resign := none, twinResign := none,
                                           takeReq := false, downAt := t })).setInt Reg.PAR_INT 10
    if was = b1.drives then b1
    else
      let b2 := b1.setReg64 Reg.PAR_SWITCH_LO Reg.PAR_SWITCH_HI b1.blk
      if was then b2.fenceOut else (b2.driveOut ramp).announceAddrs

/-! ## Checks of a received frame (R393, R395, R431, R482) -/

def gwType (f : Bytes) : Nat := u8 f 0
def gwPay (f : Bytes) : Bytes := slice 16 (u16 f 6) f

/-- Whether LEN is allowed for a type. -/
def gwLenOk (t n : Nat) : Bool :=
  n % 4 == 0 && (match t with
    | 1 => n == 24
    | 2 => n == 2064
    | 3 => decide (64 ≤ n) && decide (n ≤ 1088)
    | 4 => n == 68
    | 5 => decide (16 ≤ n) && decide (n ≤ 4112)
    | 6 => n == 48
    | 7 => n == 0
    | _ => false)

/-- A DRAFT frame of SERIAL 0 (R482). -/
def bootFrame (f : Bytes) : Bool := gwType f == 5 && u64 f 20 == 0

/-- Mirror records (R409), with fuel: KIND, INDEX and bytes; none where a record is malformed. -/
def mirrorRecs : Nat → Bytes → Option (List (Nat × Nat × Bytes))
  | _, [] => some []
  | 0, _ => none
  | n + 1, bs =>
    let k := u8 bs 0
    let i := u8 bs 1
    let len := u32 bs 4
    let ok := u16 bs 2 == 0 && decide (8 + len ≤ bs.length) && (match k with
      | 1 => len == 16 && decide (128 ≤ i)
      | 2 => len == 4 && decide (i < 128)
      | 3 => len == 4 && decide (i < 128)
      | 4 => len == 8 && i == 0
      | _ => false)
    if ok then (mirrorRecs n (bs.drop (8 + len))).map (fun r => (k, i, slice 8 len bs) :: r) else none

def zeros (p : Bytes) (o n : Nat) : Bool := leNat (slice o n p) == 0

/-- A stamp of a SYNC frame whose reserved bits are 0 and whose fields are in range. -/
def stampOk (p : Bytes) (o : Nat) : Bool :=
  zeros p (o + 6) 2 && decide (u32 p (o + 8) < 1000000000) && decide (u8 p (o + 12) < 8) && zeros p (o + 13) 3

/-- Whether every field of a payload is in its range and its reserved bytes are 0. -/
def payOk (t : Nat) (p : Bytes) : Bool :=
  match t with
  | 1 => decide (u8 p 0 ≤ 2) && decide (u8 p 1 ≤ 1) && zeros p 2 2 && (u8 p 0 == 2 || zeros p 12 8) && zeros p 20 4
  | 2 => decide (u32 p 8 ≤ 1) && zeros p 12 4
  | 3 => decide (u8 p 8 ≤ 5) && decide (u8 p 9 ≤ 1) && decide (u8 p 10 ≤ 1) && decide (u8 p 11 ≤ 15) &&
      decide (u8 p 12 % 16 ≤ 3) && decide (u8 p 12 < 32) && zeros p 13 3 && zeros p 32 32 && (mirrorRecs 128 (p.drop 64)).isSome
  | 4 =>
    let m := u8 p 0
    let n := u8 p 1
    zeros p 2 2 && ((decide (16 ≤ m) && decide (m ≤ 19) && decide (8 ≤ n) && decide (n ≤ 16)) ||
      (decide (20 ≤ m) && decide (m ≤ 23) && (n == 0 || n == 0xFF)))
  | 5 =>
    let n := p.length
    zeros p 1 3 && zeros p 12 4 && (match u8 p 0 with
      | 0 => decide (20 ≤ n) && decide (u32 p 16 + (n - 20) ≤ (if u64 p 4 = 0 then 0x1F0000 else 0x1000000))
      | 1 => n == 24
      | 2 => n == 20 && zeros p 17 3
      | 3 => n == 20 && decide (u8 p 16 ≤ 1) && zeros p 17 3
      | _ => false)
  | 6 => stampOk p 0 && stampOk p 16 && stampOk p 32
  | _ => true

/-- The distance of a frame's block number from this unit's, modulo 2^32. -/
def blkDist (x y : Nat) : Nat := (wrapS 32 ((x : Int) - y)).natAbs

/-- The code of R395 of a received frame, 0 when it breaks no rule. -/
def Block.gwCode (b : Block) (f : Bytes) : Nat :=
  let t := gwType f
  let n := f.length - 4
  if f.length < 20 ∨ crc32c (f.take n) ≠ u32 f n then 1
  else if !gwLenOk t (u16 f 6) || f.length != 20 + u16 f 6 then 2
  else if u32 f 8 ≠ b.reg Reg.PAR_ID ∧ !(bootFrame f && u32 f 8 == 0) then 3
  else if (t = 1 ∨ t = 2 ∨ t = 5) ∧ !bootFrame f ∧ 2 < blkDist (u32 f 12) b.blk then 4
  else if u8 f 1 / 2 ≠ 0 ∨ (t ≠ 4 ∧ t ≠ 5 ∧ u16 f 2 ≠ 0) ∨ !payOk t (gwPay f) then 5
  else 0

/-- A violation on a lane (R395). -/
def Block.gwViolation (b : Block) (l code type : Nat) : Block :=
  ((b.count (Reg.PAR_LANE_CNT l) 0 16 1).setReg Reg.PAR_VIOL (l * 65536 + code * 256 + type)).parFault 2 0

/-- ACK of a received frame: frames up to it have been received, and later ones may leave (R396). -/
def Block.gwAck (b : Block) (l ack : Nat) : Block :=
  let x := b.gwLane l
  match x.unacked.findIdx? (fun f => f.seq == ack) with
  | none => b
  | some i =>
    let rest := x.unacked.drop (i + 1)
    let b1 := b.setGwLane l { x with unacked := rest, resends := 0 }
    b1.gwBurst l 0 (31 - i)

/-- A frame arrives on a lane. It is checked, its ACK is taken, a reliable frame out of order is dropped (R396), and a frame
of the TYPE and KIND that the command names has its effect. -/
def Block.gwRx (type : Nat) (kind : Option Nat) (h : Bytes → Block → Block) (l : Nat) (f : Bytes) (b : Block) : Block :=
  if !(b.gwLane l).up then b
  else if b.gwCode f ≠ 0 then b.gwViolation l (b.gwCode f) (gwType f)
  else
    let b1 := b.gwAck l (u16 f 4)
    let x := b1.gwLane l
    let rel := gwType f == 4 || gwType f == 5
    let next := (x.rxSeq + 1) % 65536
    if rel && u16 f 2 != next then b1
    else
      let b2 := if rel then b1.setGwLane l { x with rxSeq := next } else b1
      if gwType f = type ∧ kind.all (fun k => u8 (gwPay f) 0 == k) then h f b2 else b2

/-! ## LEASE (R397, R400) -/

def Block.lease (b : Block) : Nat := b.rfld Reg.PAR_CFG 24 8

/-- This unit is preferred active (R397). -/
def Block.preferred (b : Block) : Bool := b.sys.side == b.rbit Reg.PAR_CFG 21

/-- Both units wait, on differing sides, with the link UP (R397). -/
def Block.bothWait (b : Block) : Bool :=
  b.par.st == 1 && b.gwUp && b.par.twin.seen && b.par.twin.role == 1 && b.par.twin.side != b.sys.side

def Block.onRequest (f : Bytes) (b : Block) : Block :=
  let e := u64 (gwPay f) 4 + b.lease
  if b.par.st = 4 ∨ (b.bothWait ∧ !b.preferred ∧ b.parReady) then
    (b.setPar (fun p => { p with g := max p.g e, sentGrant := true })).sendLease 1 e 0
  else b

def Block.onGrant (f : Bytes) (b : Block) : Block :=
  if b.par.st = 1 ∨ b.par.st = 2 ∨ b.par.st = 3 then
    b.setPar (fun p => { p with e := max p.e (u64 (gwPay f) 4), gotGrant := true })
  else b

def Block.onResign (f : Bytes) (b : Block) : Block :=
  if b.par.st = 4 then b.setPar (fun p => { p with twinResign := some (u64 (gwPay f) 4) }) else b

/-! ## DIGEST, STATE, MBX, SYNC (R394, R406 to R409, R411, R431) -/

def Block.onDigest (f : Bytes) (b : Block) : Block :=
  let p := gwPay f
  let digs := (below 512).foldl (fun (t : Tab Nat) i => if u32 p (16 + 4 * i) = 0 then t else t ++ [(i, u32 p (16 + 4 * i))]) []
  let d : Digests := { blk := u64 p 0, fault := u32 p 8 == 1, digs := digs }
  b.setPar (fun q => { q with twin := { q.twin with digests := d :: q.twin.digests.take 7 } })

/-- A mirror record is adopted (R409). -/
def Block.adopt (b : Block) (r : Nat × Nat × Bytes) : Block :=
  match r with
  | (1, i, p) => if (b.txs i).run then b.setTxs i { b.txs i with hopA := hopOf p 0, hopB := hopOf p 8 } else b
  | (2, i, p) => b.setReg (Reg.FLW_RX_OFS i) (u32 p 0)
  | (3, i, p) => if (b.rxs i).st = 0 then b else b.setRxs i { b.rxs i with ssrc := some (u32 p 0) }
  | (_, _, p) => b.setPar (fun q => { q with groups := (below 8).foldl (fun t k => tput 0 k (u8 p k) t) q.groups })
where
  hopOf (p : Bytes) (o : Nat) : Option Bytes := if beNat (slice o 6 p) = 0 then none else some (slice o 6 p)

/-- Whether the twin's SERIAL shows a split commit: it differs after the commit block (R411). -/
def Block.split (b : Block) (blk serial : Nat) : Bool :=
  let n := b.stg.armedAt
  b.par.st != 0 && n != 0 && decide (n ≤ b.blk) && decide (0 ≤ wrapS 32 ((blk : Int) - n)) &&
    b.stg.force.elim false (fun d => d.serial != serial)

def Block.onState (f : Bytes) (b : Block) : Block :=
  let p := gwPay f
  let b1 := b.setPar (fun q => { q with twin := { q.twin with
    seen := true, serial := u64 p 0, role := u8 p 8, ready := u8 p 9 == 1, side := u8 p 10 == 1, level := u8 p 11,
    wlh := u8 p 12, fmap := u64 p 16, lease := u64 p 24 } })
  let b1 := b1.selectIfLost
  let b2 := if b1.par.st = 4 then ((mirrorRecs 128 (p.drop 64)).getD []).foldl Block.adopt b1 else b1
  let s := b2.split (u32 f 12) (u64 p 0)
  let b3 := b2.setPar (fun q => { q with splitSeen := s })
  if s && !b.par.splitSeen then b3.parFault 6 1 else b3

def Block.onMbx (f : Bytes) (b : Block) : Block :=
  let p := gwPay f
  b.mbxFrame (u8 p 0) (u8 p 1) (p.drop 4)

/-- A stamp of a SYNC frame, in 125 ps units (R393). -/
def stampOf (p : Bytes) (o : Nat) : Nat := (leNat (slice o 6 p) * 1000000000 + u32 p (o + 8)) * 8 + u8 p (o + 12)
def stampBytes (s : Nat) : Bytes := leBytes 8 (stampSec s) ++ leBytes 4 (stampNs s) ++ leBytes 1 (stampSub s) ++ leBytes 3 0

def Block.onSync (tap : Nat) (f : Bytes) (b : Block) : Block :=
  let p := gwPay f
  let t1 := stampOf p 0
  let t2 := b.stamp tap
  let r := b.drawRound (((t2 : Int) - t1) - ((stampOf p 32 : Int) - stampOf p 16)) 2
  (r.2.setReg Reg.PAR_TWIN_OFS (ofS 32 (satS 32 r.1))).setPar (fun q => { q with twin := { q.twin with syncTx := t1, syncRx := t2 } })

/-! ## DRAFT (R410, R411, R482) -/

/-- A DRAFT frame of the twin that G0's level refuses is a violation on port 1 (R65, R417). KIND, the opcode and words 2 and
3 of its entry are free values: R417 gives none for a Gweast frame (log entry 1). -/
def Block.twinRefused (b : Block) : Block :=
  if b.srcRefused .pair = 0 then b
  else
    let k := b.drawBits 8
    let op := k.2.drawBits 16
    let w2 := op.2.drawBits 32
    let w3 := w2.2.drawBits 32
    w3.2.violate 1 0x10 k.1 op.1 w2.1 w3.1

/-- Bytes of a draft from the twin: offset 0 begins a new one, and the last frame, shorter than the rest, starts its checks. -/
def Block.stageTwin (ofs : Nat) (bs : Bytes) (b : Block) : Block :=
  let mine := b.owns .none || b.owns .pair
  let st := b.stg.st
  let fresh := ofs == 0 && mine && (st == .empty || st == .loading || st == .rejected || st == .valid) && b.par.proposed.isNone
  let b1 := if fresh then b.stgEmpty.setStg (fun g => { g with st := .loading, owner := .pair }) else b
  if b.srcRefused .pair ≠ 0 then b.twinRefused
  else if b.severed ∨ b1.stg.st ≠ .loading ∨ !b1.owns .pair then b
  else
    let b2 := (b1.dftData .pair ofs bs).2
    if bs.length < 4092 then ((b2.setReg Reg.SYS_DFT_LEN (ofs + bs.length)).dftValidate .pair).2 else b2

def Block.onData (f : Bytes) (b : Block) : Block :=
  let p := gwPay f
  let ofs := u32 p 16
  if u64 p 4 ≠ 0 then b.stageTwin ofs (p.drop 20)
  else if b.bootSt = btTWIN then b.wrBytes (sramBase + ofs) (p.drop 20) else b

/-- The flash image that firmware sends to a twin that boots (R482, log entry 25). -/
def Block.sendImage (b : Block) : Block :=
  let a := imageBase (b.rfld Reg.PWR_BOOT 7 1)
  let img := b.flashBytes a (imageLen (b.flashBytes a 256))
  let busy := (below 2).any (fun l => (b.gwLane l).unacked.any (fun f => f.type == 5))
  if !b.sys.firmware || busy || img.take 4 != [0x4C, 0x46, 0x57, 0x49] then b else (b.sendData 0 img).sendDecide 0 true

/-- The code with which a proposal is answered (R410, R411). -/
def Block.proposeCode (b : Block) (serial n : Nat) : Nat :=
  if b.stg.st ≠ .valid ∨ b.stg.eff.all (fun d => d.serial != serial) then 0x90
  else if b.srcRefused .pair ≠ 0 ∨ b.severed ∨ b.commitCode n ≠ 0 then 0x91 else 0

def Block.onPropose (f : Bytes) (b : Block) : Block :=
  let p := gwPay f
  let s := u64 p 4
  let n := u64 p 16
  if s = 0 then b.sendImage
  else if b.proposeCode s n ≠ 0 then b.twinRefused.sendAnswer s (b.proposeCode s n)
  else ((b.arm n).setPar (fun q => { q with agreed := true, proposed := none })).sendAnswer s 0

/-- ANSWER (R410). DESIGN CHOICE (log entry 22): a draft that is no longer VALID when the twin agrees, since a STORE has begun,
is not armed (R69): the twin is told at once and the COMMIT fails with 0x92. -/
def Block.onAnswer (f : Bytes) (b : Block) : Block :=
  let p := gwPay f
  let s := u64 p 4
  let code := u8 p 16
  match b.par.proposed with
  | none => if code = 0 ∧ !b.par.agreed then b.sendDecide s false else b
  | some n =>
    if b.stg.eff.all (fun d => d.serial != s) then b
    else
      let b1 := b.setPar (fun q => { q with proposed := none })
      if code ≠ 0 then (b1.commitRefused code).2
      else if b.stg.st ≠ .valid then (b1.commitRefused 0x92).2.sendDecide s false
      else (b1.arm n).setPar (fun q => { q with agreed := true })

/-- DECIDE of a commit; that of a boot image ends the wait (R411, R482). -/
def Block.onDecide (f : Bytes) (b : Block) : Block :=
  let p := gwPay f
  let s := u64 p 4
  let go := u8 p 16 == 1
  if s = 0 then (if go ∧ b.bootSt = btTWIN then b.bootCheck none else b)
  else if b.par.agreed ∧ b.stg.st = .armed ∧ b.stg.eff.any (fun d => d.serial == s) ∧ b.blk < b.stg.armedAt then
    (if go then b.setPar (fun q => { q with twinGo := some true }) else b.abandon (some 0x91))
  else b

/-! ## Lanes (R390, R391, R396) -/

def Block.laneUp (l : Nat) (b : Block) : Block :=
  if 2 ≤ l ∨ !b.domOn 16 ∨ (b.gwLane l).up then b else b.setGwLane l { up := true }

/-- A lane goes DOWN: its unacknowledged frames go to the other lane; with no lane left the link is DOWN (R431). -/
def Block.laneDown (l : Nat) (b : Block) : Block :=
  let x := b.gwLane l
  if !x.up then b
  else
    let b1 := b.setGwLane l {}
    if b1.gwUp then x.unacked.foldl (fun y f => y.gwQueue (1 - l) f.type f.payload) b1
    else
      let t := b.now
      (((b1.parFault 1 0).mbxLinkDown).setPar (fun p => { p with downAt := t, twin := { p.twin with seen := false } })).selectIfLost

/-- RETRANSMIT: 10 us after it left, the oldest unacknowledged frame of a lane leaves again with those after it; after 16
resends in a row the lane is DOWN (R396). -/
def Block.retransmit (l : Nat) (b : Block) : Block :=
  let x := b.gwLane l
  if !x.up then b
  else match x.unacked with
    | [] => b
    | f :: _ =>
      let b1 := b.toPclk (f.sentAt + 10000)
      if 16 ≤ x.resends then b1.laneDown l
      else
        let b2 := b1.gwBurst l 1 0
        (b2.setGwLane l { b2.gwLane l with resends := x.resends + 1 }).count (Reg.PAR_LANE_CNT l) 16 16 (min 32 x.unacked.length)

def Block.idleSend (l : Nat) (b : Block) : Block := if (b.gwLane l).up then b.gwOut l 7 0 0 [] else b

/-! ## Digests and verdicts (R406 to R408) -/

/-- DIGEST_SEND: once the passes of block `n` have ended its digests leave, once (R406 to R408). -/
def Block.digestSend (n : Nat) (b : Block) : Block :=
  let ready := ([0, 1] : List Nat).all (fun dom => !b.served dom || decide ((n + 1) * b.spb dom ≤ tget 0 b.loom.ended dom))
  if b.par.st = 0 ∨ !ready ∨ b.par.sent.any (fun x => x.blk == n) then b
  else
    let run := tget [] b.par.running n
    let shown := run.filter (fun e => !(bit (b.reg (Reg.PAR_DIG_MASK (e.1 / 32))) (e.1 % 32)))
    let digs := (shown.map (fun e => (e.1, e.2 ^^^ 0xFFFFFFFF))).filter (fun e => e.2 != 0)
    let fault := b.dFault.any (fun t => decide (tickInstant b.fBlk n ≤ t))
    let d : Digests := { blk := n, fault := fault, digs := digs }
    let words := (below 512).flatMap (fun i => leBytes 4 (tget 0 digs i))
    let b1 := b.setPar (fun p => { p with sent := d :: p.sent.take 7, running := p.running.filter (fun e => decide (n < e.1)) })
    b1.gwSend 2 (leBytes 8 n ++ leBytes 4 (b2n fault) ++ leBytes 4 0 ++ words)

def digestOf (l : List Digests) (n : Nat) : Option Digests := l.find? (fun d => d.blk == n)

/-- FAULT in the DIGEST of block n or n - 1. -/
def faultIn (l : List Digests) (n : Nat) : Bool := l.any (fun d => (d.blk == n || d.blk + 1 == n) && d.fault)

/-- The verdict on block `n` (R407, R408). -/
def Block.digestVerdict (n : Nat) (b : Block) : Block :=
  match digestOf b.par.sent n, digestOf b.par.twin.digests n with
  | none, _ => b
  | some _, none => b.count Reg.PAR_DIG_CNT 0 16 1
  | some m, some w =>
    match (below 512).find? (fun p => tget 0 m.digs p != tget 0 w.digs p) with
    | none => b
    | some p =>
      let b1 := ((b.count Reg.PAR_DIG_CNT 16 16 1).setReg Reg.PAR_DIG_LAST p).setReg Reg.PAR_DIG_LAST_BLK n
      let mine := faultIn b.par.sent n
      let twins := faultIn b.par.twin.digests n
      let pol := b.rfld Reg.PAR_CFG 22 2
      if mine != twins then (if mine then b1.resign false else b1).parFault 9 0
      else if pol = 0 then b1.parFault 3 1
      else if pol = 1 then (b1.resign false).parFault 3 1
      else b1.parFault 9 0

/-! ## The state machine (R397, R398, R400, R401) -/

/-- The twin's STATE shows that it drives. -/
def Block.twinDrives (b : Block) : Bool := b.par.twin.seen && (b.par.twin.role == 2 || b.par.twin.role == 3)

/-- The lease that the unit has granted is none (log entry 26). -/
def Block.noGrant (b : Block) : Block := b.setPar (fun p => { p with g := 0 })

/-- R398: a standby takes the shuttle. -/
def Block.mayTake (t : Nat) (b : Block) : Bool :=
  b.par.twinResign.isNone && b.par.g != 0 && decide (b.par.g + 1 ≤ t) && b.parReady &&
    (!b.rbit Reg.PAR_CFG 2 || (!b.par.peer && decide (b.par.peerLow + 1 ≤ b.par.g)))

def Block.waitStep (b : Block) : Block :=
  let twin := b.par.twin
  if b.twinDrives then b.noGrant.setRole 4 true
  else if b.gwUp && twin.seen && twin.role == 1 then
    if twin.side = b.sys.side then
      (if b.par.sideSeen then b else (b.setPar (fun p => { p with sideSeen := true })).parFault 7 1)
    else if b.preferred && b.par.gotGrant then b.setRole 2 true
    else if !b.preferred && b.par.sentGrant then b.setRole 4 true
    else b
  else if !b.gwUp && decide (b.par.downAt + 2 * secFrac ≤ b.now) && b.preferred && b.rbit Reg.PAR_CFG 3 && !b.par.peer then
    b.setRole 3 true
  else b

def Block.holderStep (t : Nat) (b : Block) : Block :=
  match b.par.resign with
  | some f =>
    if f ≤ t then (b.setPar (fun p => { p with g := max p.g (f + b.lease) })).setRole 4 true
    else if b.par.e ≤ t + 1 then (b.setRole 5 true).parFault 4 1 else b
  | none => if b.par.e ≤ t + 1 then (b.setRole 5 true).parFault 4 1 else b

def Block.soloStep (b : Block) : Block :=
  if b.gwUp && b.par.twin.seen && b.par.twin.role == 3 then
    let b1 := if b.preferred then b else b.noGrant.setRole 4 true
    b1.parFault 8 1
  else if b.par.gotGrant then b.setRole 2 true else b

def Block.standbyStep (t : Nat) (b : Block) : Block :=
  match b.par.twinResign with
  | some f =>
    if f ≤ t ∧ !b.severed ∧ b.mode = 2 then
      (b.setRole 2 false).setPar (fun p => { p with e := f + b.lease })
    else b
  | none => if b.mayTake t then (b.setRole 3 true).parFault 5 0 else b

def Block.fencedStep (t : Nat) (b : Block) : Block :=
  if b.twinDrives then b.noGrant.setRole 4 true
  else if b.rbit Reg.PAR_CFG 2 && !b.gwUp && decide (b.par.e + 3 ≤ t) && !b.par.peer then (b.setRole 3 true).parFault 5 0
  else b

/-- The transitions of R401 at block tick t. -/
def Block.roleStep (t : Nat) (b : Block) : Block :=
  if !b.paired then b.setRole 0 true
  else if b.par.takeReq then b.setRole 3 true
  else match b.par.st with
    | 0 => b.setRole 1 true
    | 1 => b.waitStep
    | 2 => b.holderStep t
    | 3 => b.soloStep
    | 4 => b.standbyStep t
    | _ => b.fencedStep t

/-! ## What a unit sends at each block tick (R393, R394, R397, R400, R409) -/

def Block.leaseTick (t : Nat) (b : Block) : Block :=
  match b.par.st, b.par.resign with
  | 2, some f => b.sendLease 2 f (f + b.lease)
  | 2, none => b.sendLease 0 t 0
  | 3, _ => b.sendLease 0 t 0
  | 1, _ => if b.bothWait && b.preferred && b.parReady then b.sendLease 0 t 0 else b
  | _, _ => b

/-- The mirror records of a driving unit, keyed 256 KIND + INDEX (R409). -/
def Block.mirrorNow (b : Block) : List (Nat × Bytes) :=
  match b.stg.force with
  | none => []
  | some d =>
    let tx := (d.skins.filter (fun k => 128 ≤ k.inst)).map (·.inst)
    let rx := (d.skins.filter (fun k => k.inst < 128)).map (·.inst)
    let mac := fun (m : Option Bytes) => m.getD (List.replicate 6 0) ++ [0, 0]
    let hops := tx.filterMap (fun j =>
      let x := b.txs j
      if x.hopA.isSome || x.hopB.isSome then some (256 + j, mac x.hopA ++ mac x.hopB) else none)
    let ofs := rx.map (fun i => (512 + i, leBytes 4 (b.reg (Reg.FLW_RX_OFS i))))
    let lock := rx.filterMap (fun i => (b.rxs i).ssrc.map (fun s => (768 + i, leBytes 4 s)))
    let joins := fun (p : Nat) => ((d.skins.filter (fun k => k.inst < 128)).flatMap rxPaths).countP (fun q => q.1 == p)
    hops ++ ofs ++ lock ++ [(1024, (below 8).map (fun p => BitVec.ofNat 8 (min 255 (joins p))))]

/-- The records of this STATE frame: those that changed, then those not sent for 240 blocks, up to 1,024 bytes. -/
def fitRecs : Nat → List (Nat × Bytes) → List (Nat × Bytes)
  | _, [] => []
  | room, r :: rs => if r.2.length + 8 ≤ room then r :: fitRecs (room - (r.2.length + 8)) rs else []

def Block.mirrorPick (b : Block) (t : Nat) : List (Nat × Bytes) :=
  let all := b.mirrorNow
  let old := fun (r : Nat × Bytes) => tget (0, []) b.par.mirror r.1
  let changed := all.filter (fun r => (old r).2 != r.2)
  let due := all.filter (fun r => (old r).2 == r.2 && decide ((old r).1 + 240 ≤ t))
  fitRecs 1024 (changed ++ due)

def Block.stateTick (t : Nat) (b : Block) : Block :=
  let rs := if b.par.st = 2 ∨ b.par.st = 3 then b.mirrorPick t else []
  let lvl := b.wlh.sel.elim 15 b.candLevel
  let lease := if b.par.st = 2 ∨ b.par.st = 3 then b.par.e else b.par.g
  let fmap := (b.crl.fmap.map (fun s => 2 ^ s)).sum
  let head := leBytes 8 (b.stg.force.elim 0 (·.serial)) ++ leBytes 1 b.par.st ++ leBytes 1 (b2n b.parReady) ++
    leBytes 1 (b2n b.sys.side) ++ leBytes 1 lvl ++ leBytes 1 (b.wlh.st + 16 * b.wlh.family) ++ leBytes 3 0 ++
    leBytes 8 fmap ++ leBytes 8 lease ++ leBytes 32 0
  let body := rs.flatMap (fun r => leBytes 1 (r.1 / 256) ++ leBytes 1 (r.1 % 256) ++ leBytes 2 0 ++ leBytes 4 r.2.length ++ r.2)
  let b1 := b.setPar (fun p => { p with mirror := rs.foldl (fun m r => tput (0, []) r.1 (t, r.2) m) p.mirror })
  b1.gwSend 3 (head ++ body)

def Block.syncTick (tap : Nat) (b : Block) : Block :=
  b.gwSend 6 (stampBytes (b.stamp tap) ++ stampBytes b.par.twin.syncTx ++ stampBytes b.par.twin.syncRx)

/-- A proposal without an answer before block tick N - 24 is refused (R410). -/
def Block.proposeLate (t : Nat) (b : Block) : Block :=
  match b.par.proposed with
  | some n => if n ≤ t + 24 then ((b.setPar (fun p => { p with proposed := none })).commitRefused 0x92).2 else b
  | none => b

/-- The level of GW_PEER at a block tick. -/
def Block.seePeer (t : Nat) (peer : Bool) (b : Block) : Block :=
  b.setPar (fun p => { p with peer := peer, peerLow := if peer then p.peerLow else if p.peer || p.tickAt.isNone then t else p.peerLow })

/-- SHUTTLE_TICK: block tick `t`, with the level of GW_PEER and the stamp tap of the SYNC frame. -/
def Block.shuttleTick (t : Nat) (peer : Bool) (tap : Nat) (b : Block) : Block :=
  let b0 := b.toBlk t
  if b0.blk ≠ t ∨ b0.par.tickAt.any (fun k => decide (t ≤ k)) then b0
  else
    let b1 := (b0.seePeer t peer).setPar (fun p => { p with tickAt := some t })
    let b2 := b1.roleStep t
    let clash := b2.par.st == 1 && b2.gwUp && b2.par.twin.seen && b2.par.twin.role == 1 && b2.par.twin.side == b2.sys.side
    let b3 := b2.setPar (fun p => { p with sideSeen := p.sideSeen && clash })
    if b3.par.st = 0 then b3.proposeLate t
    else
      let b4 := (if t < 2 then b3 else b3.digestVerdict (t - 2)).proposeLate t
      ((b4.leaseTick t).stateTick t).syncTick tap

/-! ## PAR_CMD (R400, R404) -/

def Block.handover (b : Block) : Block := b.resign false

/-- TAKE in WAIT, STANDBY or FENCED with the link DOWN; whether it was accepted (R404). -/
def Block.take (b : Block) : Bool × Block :=
  if (b.par.st = 1 ∨ b.par.st = 4 ∨ b.par.st = 5) ∧ !b.gwUp then (true, b.setPar (fun p => { p with takeReq := true })) else (false, b)

/-- A write of PAR_CMD. -/
def Block.parCmd (v : Nat) (b : Block) : Block :=
  let b1 := if bit v 0 then b.handover else b
  if bit v 1 then b1.take.2 else b1

/-! ## Commands -/

/-- LANE_UP (R390). -/
def execLaneUp (l : Nat) : State → Answer := onBlk (Block.laneUp l)
/-- LANE_DOWN (R390). -/
def execLaneDown (l : Nat) : State → Answer := onBlk (Block.laneDown l)
/-- LEASE_REQUEST (R397). -/
def execLeaseRequest (l : Nat) (f : Bytes) : State → Answer := onBlk (Block.gwRx 1 (some 0) Block.onRequest l f)
/-- LEASE_GRANT (R397). -/
def execLeaseGrant (l : Nat) (f : Bytes) : State → Answer := onBlk (Block.gwRx 1 (some 1) Block.onGrant l f)
/-- LEASE_RESIGN (R400). -/
def execLeaseResign (l : Nat) (f : Bytes) : State → Answer := onBlk (Block.gwRx 1 (some 2) Block.onResign l f)
/-- DIGEST (R407). -/
def execDigest (l : Nat) (f : Bytes) : State → Answer := onBlk (Block.gwRx 2 none Block.onDigest l f)
/-- DIGEST_SEND (R407). -/
def execDigestSend (n : Nat) : State → Answer := onBlk (Block.digestSend n)
/-- STATE (R409). -/
def execState (l : Nat) (f : Bytes) : State → Answer := onBlk (Block.gwRx 3 none Block.onState l f)
/-- MBX_FRAME (R431). -/
def execMbxFrame (l : Nat) (f : Bytes) : State → Answer := onBlk (Block.gwRx 4 none Block.onMbx l f)
/-- DRAFT_FRAME_DATA (R410). -/
def execDraftFrameData (l : Nat) (f : Bytes) : State → Answer := onBlk (Block.gwRx 5 (some 0) Block.onData l f)
/-- PROPOSE (R410). -/
def execPropose (l : Nat) (f : Bytes) : State → Answer := onBlk (Block.gwRx 5 (some 1) Block.onPropose l f)
/-- SYNC (R394). -/
def execSync (l : Nat) (f : Bytes) (tap : Nat) : State → Answer := onBlk (Block.gwRx 6 none (Block.onSync tap) l f)
/-- IDLE (R390). -/
def execIdle (l : Nat) (f : Bytes) : State → Answer := onBlk (Block.gwRx 7 none (fun _ b => b) l f)
/-- RETRANSMIT (R396). -/
def execRetransmit (l : Nat) : State → Answer := onBlk (Block.retransmit l)
/-- HANDOVER (R400). -/
def execHandover : State → Answer := onReg Reg.PAR_CMD true Block.handover
/-- TAKE (R404). -/
def execTake : State → Answer := onReg Reg.PAR_CMD true (fun b => b.take.2)
/-- GWEAST_IDLE_SEND (R390). -/
def execGweastIdleSend (l : Nat) : State → Answer := onBlk (Block.idleSend l)

end Sys2Proof.Machine
end

