-- ==== Sys2Proof/Machine/Reset.lean ====
section
/-! DEFINITION. What resets and switch-offs do to a block (spec/18_power_boot.md, R459, R477), to its master (spec/17_matrix_basins.md,
R447), and what a sever does (spec/19_faults.md, R494). -/

namespace Sys2Proof.Machine

def State.mapBlk (f : Block → Block) (s : State) : State := { s with blk := f s.blk }

/-! ## Blocks, sources and domains (R14, R423, R458) -/

/-- The block of source k of R423. -/
def srcBlk (k : Nat) : Blk × Nat :=
  if 4 ≤ k ∧ k < 12 then (.spn, k - 4)
  else if 16 ≤ k ∧ k < 20 then (.net, k - 16)
  else match k with
    | 0 => (.sys, 0)
    | 1 => (.pwr, 0)
    | 2 => (.mtx, 0)
    | 3 => (.bsn, 0)
    | 12 => (.lom, 0)
    | 13 => (.crl, 0)
    | 14 => (.slu, 0)
    | 15 => (.cst, 0)
    | 20 => (.fwd, 0)
    | 21 => (.flw, 0)
    | 22 => (.tsu, 0)
    | 23 => (.wlh, 0)
    | 24 => (.ril, 0)
    | 25 => (.jet, 0)
    | 26 => (.sns, 0)
    | 27 => (.ctl, 0)
    | 28 => (.fbs, 0)
    | 29 => (.hst, 0)
    | 30 => (.mbx, 0)
    | _ => (.par, 0)

/-- The source number of a block. -/
def blkSrc (k : Blk) (i : Nat) : Nat := ((below 32).find? (fun n => srcBlk n == (k, i))).getD 0

/-- The sources whose blocks a domain holds. -/
def domSrcs (d : Nat) : List Nat := (below 32).filter (fun k => blkDom (srcBlk k).1 (srcBlk k).2 == d)

/-- The master that a block holds (R29, R447). -/
def blkMaster (k : Blk) (i : Nat) : Option Nat :=
  match k with
  | .lom => some 0
  | .flw => some 1
  | .spn => some (3 + i)
  | .par => some 11
  | .crl => some 12
  | _ => none

/-! ## Registers and memory -/

/-- The registers from `lo` to below `hi` return to their reset values; RWS fields stay if `keep` (R7). -/
def Block.pageReset (lo hi : Nat) (keep : Bool) (b : Block) : Block :=
  { b with regs := b.regs.filterMap (fun e =>
      if lo ≤ e.1 ∧ e.1 < hi then
        let m : BitVec 32 := if keep then BitVec.ofNat 32 ((regRow e.1).elim 0 (·.rws)) else 0
        let v := (e.2 &&& m) ||| (regReset e.1 &&& ~~~m)
        if v = regReset e.1 then none else some (e.1, v)
      else some e) }

/-- The registers of a block. -/
def Block.blkRegs (k : Blk) (i : Nat) (keep : Bool) (b : Block) : Block :=
  let a := blkBase k i
  b.pageReset a (a + 0x10000) keep

/-- Memory from `lo` to below `hi` loses its contents. -/
def Block.memDrop (lo hi : Nat) (b : Block) : Block :=
  { b with mem := b.mem.filter (fun c => !(decide (lo ≤ c.1) && decide (c.1 < hi))),
           sys := { b.sys with memErr := b.sys.memErr.filter (fun e => !(decide (lo ≤ 8 * e.1) && decide (8 * e.1 < hi))) } }

/-! ## Switch-off (R459) -/

def netPort (k : Blk) (i : Nat) : Nat := match k with | .net => i | .ctl => 4 | _ => 5

/-- A block's state after its domain has been off. -/
def Block.wipe (k : Blk) (i : Nat) (b : Block) : Block :=
  match k with
  | .sys | .pwr => b
  | .mtx => b.setSys (fun s => { s with ports := [] })
  | .bsn => b.memDrop 0x20000000 0x20800000
  | .spn => { b.memDrop (spnWindow (8 * i)) (spnWindow (8 * i + 8)) with spns := b.spns.filter (fun e => e.1 / 8 != i) }
  | .lom => { b with loom := { stopped := b.loom.stopped, xTick := b.loom.xTick } }
  | .crl => { b with crl := {} }
  | .slu => { b with sluices := [] }
  | .cst => { b.memDrop cisternBase (2 * cisternBase) with cst := { second := b.cst.second, fwCfg := b.cst.fwCfg } }
  | .net | .ctl => b.modPort (netPort k i) (fun _ => {})
  | .fbs => b.seedNow.modPort 5 (fun _ => {})
  | .fwd => { b with net := { b.net with fwd := [], tbl := none } }
  | .flw => { b with net := { b.net with rxs := [], txs := [] } }
  | .tsu =>
    let b1 := (below 8).foldl (fun x n => if (tget {} x.tsu.spouts n).level then x.emit (.pin (pinSpout n) false) else x) b
    { b1 with tsu := {}, sys := { b.sys with tickBase := b.sys.tickBase + b.tsu.ticks } }
  | .wlh =>
    let b1 := (below 4).foldl (fun x n => if x.rbit (Reg.WLH_WCKO_CTRL n) 31 then x.emit (.pin (pinWcko n) false) else x) b
    { b1 with wlh := {} }
  | .ril =>
    let b1 := ((below 48).filter (fun n => (b.rill n).role != 2)).foldl (fun x n => ((x.emit (.pin (pinRill n 0) false)).emit
      (.hiz (pinRill n 1))).emit (.hiz (pinRill n 2))) b
    { b1 with ril := {} }
  | .jet =>
    let b1 := (below 32).foldl (fun x n => [pinJetEn n, pinJetLeg n 0, pinJetLeg n 1].foldl (fun y p => y.emit (.hiz p)) x) b
    b1.setJets (fun j => { live := j.live, meas := j.meas })
  | .sns => b.setJets (fun j => { j with live := [], meas := [] })
  | .hst => b.setSys (fun s => { s with disarmed := [], pba := [], msix := [] })
  | .mbx => (b.memDrop sramBase (sramBase + 0x200000)).setSys (fun s =>
      { s with waiting := [], owed := [], stored := [], relays := [], msgs := [], distaff0 := false, distaff1 := false,
               firmware := false, testing := [] })
  | .par => { b with par := {} }

/-- A domain is off: its blocks' registers, records, states and memories are at their reset values. -/
def Block.domWipe (d : Nat) (b : Block) : Block :=
  (domSrcs d).foldl (fun x k =>
    let q := srcBlk k
    let y := (x.wipe q.1 q.2).blkRegs q.1 q.2 false
    { y with flt := tdel k y.flt }) b

/-! ## Block reset (R477, log entry 27) -/

/-- What a block reset does to the state behind a block's registers; stores and memories keep their contents. -/
def Block.soft (k : Blk) (i : Nat) (b : Block) : Block :=
  match k with
  | .spn => (upFrom (8 * i) 8).foldl (fun x s => x.setSpn s { isol := (x.spn s).isol }) b
  | .lom => b.setLoom (fun l => { l with edits := [], passes := [], overruns := [], meters := [] })
  | .crl =>
    let b1 := b.setCrl (fun c => { c with run := c.run.filter (fun p => !p.dest), migs := [], want := [], retry := [], eccAt := [] })
    b1.crl.fmap.foldl (fun x s => x.setRfld (if s < 32 then Reg.CRL_FMAP_LO else Reg.CRL_FMAP_HI) (s % 32) 1 1) b1
  | .slu => (below 256).foldl (fun x n => match b.stg.force.bind (fun d => d.sluc? n) with
      | some c => x.sluConfig n c
      | none => x) b
  | .cst =>
    Block.cstInit b.cst.second { b with cst := { second := b.cst.second, fwCfg := b.cst.fwCfg } }
  | .net | .ctl | .fbs =>
    let p := netPort k i
    (if b.portUp p then b.linkFall p 0 else b).modPort p (fun _ => {})
  | .fwd => { b with net := { b.net with fwd := [], tbl := none } }
  | .flw => { b with net := { b.net with rxs := b.net.rxs.map (fun e => (e.1, if e.2.st = 0 then e.2 else { st := 1, spill := e.2.spill })) } }
  | .tsu => b.wipe .tsu 0
  | .wlh =>
    let w := b.wlh
    { b with wlh := { pllLock := w.pllLock, unlockMute := w.unlockMute, famSwitch := w.famSwitch, family := w.family, cands := [] } }
  | .ril => b.stg.force.elim b (fun d => (below 6).foldl (Block.hankConfig d) b)
  | .jet =>
    let b1 := (below 32).foldl Block.hardStop b
    (below 4).foldl Block.bankLoad (b1.setJets (fun j => { j with banks := [], hardAt := none }))
  | .sns => b.setJets (fun j => { j with live := [], meas := [] })
  | .hst => b.setSys (fun s => { s with disarmed := [], pba := [], msix := [] })
  | .par =>
    let b1 := if b.paired then b.setRole 1 true else b
    let b2 := { b1 with par := { st := b1.par.st, downAt := b1.par.downAt, peer := b1.par.peer, peerLow := b1.par.peerLow, tickAt := b1.par.tickAt } }
    b.stg.force.elim b2.mbxLinkDown (fun d => b2.mbxLinkDown.pairTake d)
  | _ => b

/-- A block reset: registers except RWS fields, the record unless it stays (R491), and the state behind them. -/
def Block.blkReset (k : Blk) (i : Nat) (keepRec : Bool) (b : Block) : Block :=
  let n := blkSrc k i
  let b1 := (b.blkRegs k i true).soft k i
  if keepRec then b1 else { b1 with flt := tdel n b1.flt }

/-- The control page of spindle s, and its state, are reset. -/
def Block.spnReset (s : Nat) (b : Block) : Block :=
  let a := blkBase .spn (s / 8) + 0x8000 + 0x1000 * (s % 8)
  (b.pageReset a (a + 0x1000) true).setSpn s { isol := (b.spn s).isol }

/-! ## Reset of a master (R238, R447) -/

/-- The bursts of a master: those granted run on with their strobes off, those that wait are withdrawn. -/
def Block.cutBursts (m : Nat) (b : Block) : Block :=
  let hit := fun (p : MPort) => p.cur.any (fun u => u.master == m) && !p.cut
  let cut := b.sys.ports.filter (fun e => hit e.2)
  let one := fun (p : MPort) => { p with cut := p.cut || hit p, queue := p.queue.filter (fun u => u.master != m) }
  let b1 := b.setSys (fun s => { s with ports := (s.ports.map (fun e => (e.1, one e.2))).filter (fun e => e.2 != {}) })
  let b2 := b1.setCst (fun c => { c with rdWait := c.rdWait.filter (fun r => r.master != m), wrWait := c.wrWait.filter (fun r => r.master != m) })
  cut.foldl (fun x e => e.2.cur.elim x (fun u => x.mtxFault mtxCUT m u.addr u.write)) b2

/-- A master is reset: its bursts are cut and its semaphores free. -/
def State.cutMaster (m : Nat) (s : State) : State :=
  { s with sems := s.sems.filter (fun e => e.2 != m + 1), blk := s.blk.cutBursts m }

/-- A block reset of source k, with its master (R447, R477). -/
def State.srcReset (k : Nat) (keepRec : Bool) (s : State) : State :=
  let q := srcBlk k
  let s1 := s.mapBlk (fun b => b.blkReset q.1 q.2 keepRec)
  (blkMaster q.1 q.2).elim s1 (fun m => s1.cutMaster m)

/-- A distaff reset (R429, R447, R477): what its firmware held is lost. -/
def State.distaffReset (e : Nat) (s : State) : State :=
  let s1 := (s.cutMaster (13 + e)).mapBlk (fun b => b.mbxReset e)
  if e = 0 then s1.mapBlk (fun b => b.setSys (fun y => { y with waiting := [], owed := [], relays := [], msgs := [] })) else s1

/-- A host reset (R422): `why` is 0 fundamental, 1 hot reset, 2 FLR, 3 loss of the data link. -/
def State.hostReset (why : Nat) (s : State) : State :=
  let link := s.blk.rbit Reg.HST_STAT 0
  let kept := s.blk.reg Reg.HST_STAT % 256
  let s1 := s.srcReset srcHST false
  let s2 := (s1.cutMaster 15).mapBlk (fun b =>
    let b1 := (if why = 2 then b.setReg Reg.HST_STAT kept else b).mbxReset 2
    let b2 := if why ≠ 2 ∧ link then (b1.setInt Reg.HST_INT 1).raise srcHST 1 0 0 0 else b1
    (b2.setInt Reg.HST_INT 2).raise srcHST 2 0 0 0)
  s2

/-! ## Sever (R473, R494) -/

/-- The domains of a severed device. -/
def severedDoms : List Nat := [0, 1, 2, 14, 15, 16]

/-- A class S fault severs the device; a later one changes neither SRC nor CODE. `pmic` says that R473 isolates every domain
but PD_AON instead of steps 3 and 4. -/
def Block.sever (src code : Nat) (pmic : Bool) (b : Block) : Block :=
  let jets := (below 32).filter (fun n => (b.jetOf n).cfg.en)
  let rills := (below 48).filter (fun n => (b.rill n).role != 2)
  let b1 := jets.foldl (fun x n => [pinJetEn n, pinJetLeg n 0, pinJetLeg n 1].foldl (fun y p => y.emit (.pin p false)) x) b
  let b2 := rills.foldl (fun x n =>
    let y := x.emit (.pin (pinRill n 0) false)
    if (b.rill n).role = 0 then (y.emit (.hiz (pinRill n 1))).emit (.hiz (pinRill n 2)) else y) b1
  let b3 := if b.severed then b else b2.setReg Reg.SYS_SEVER (2 ^ 31 + src * 256 + code)
  if pmic then
    let b4 := (upFrom 1 19).foldl (fun x d => (x.domWipe d).setRfld Reg.PWR_DOM_ON d 1 0) b3
    (b4.setReg Reg.PWR_DOM_PEND 0).setSys (fun s => { s with pmicLost := true, waking := [], offing := [], later := [] })
  else if b.severed then b3
  else
    let b4 := b3.resign true
    ((upFrom 1 19).filter (fun d => !severedDoms.contains d)).foldl Block.domStop b4

end Sys2Proof.Machine
end

