-- ==== Sys2Proof/Machine/Power.lean ====
section
/-! DEFINITION. Power, modes, wake, the resets and boot (spec/18_power_boot.md). -/

namespace Sys2Proof.Machine

def pinPcieWake : Nat := 35

/-- A fault of R484 whose INT bit is `i`. -/
def Block.pwrFault (b : Block) (code cls i : Nat) : Block := (b.setInt Reg.PWR_INT i).raise srcPWR code cls 0 0

def Block.setMode (b : Block) (m : Nat) : Block := b.setRfld Reg.PWR_MODE 0 3 m
def Block.setTarget (b : Block) (m : Nat) : Block := b.setRfld Reg.PWR_MODE 4 3 m

/-- A mode is reached. -/
def Block.reach (b : Block) (m : Nat) : Block := ((b.setMode m).setTarget m).setInt Reg.PWR_INT 0

/-! ## The wake governor (R458, R460, R461) -/

/-- Wake charge in nC and wake time in ns of each domain (R458). -/
def wakeCharge (d : Nat) : Nat :=
  [0, 300, 400, 250, 250, 250, 250, 250, 250, 250, 250, 150, 120, 200, 40, 60, 80, 50, 60, 80].getD d 0
def wakeNs (d : Nat) : Nat :=
  1000 * [0, 20, 20, 14, 14, 14, 14, 14, 14, 14, 14, 12, 12, 15, 10, 10, 10, 10, 10, 12].getD d 0

/-- The wakes granted in a window: in order, until the next one would pass the budget. -/
def grants (budget : Nat) : Nat → List Nat → List Nat
  | _, [] => []
  | used, d :: ds => if used + wakeCharge d ≤ budget then d :: grants budget (used + wakeCharge d) ds else []

/-- WAKE_WINDOW: the next window starts. `ns` is its length while PD_WLH is down, 9.52 to 10.53 us; otherwise windows are
counted on the time clock. -/
def Block.wakeWindow (ns : Nat) (b : Block) : Block :=
  let t := b.sys.tickBase + b.tsu.ticks
  let n := if b.domOn 19 then 5000 - t % 5000 else (min 10530 (max 9520 ns)) / 2
  let b1 := b.runTicks n
  let pend := (below 20).filter (fun d => b1.rbit Reg.PWR_DOM_PEND d)
  let go := grants (b1.rfld Reg.PWR_WAKE_BUDGET 0 16) 0 pend
  let wait := pend.drop go.length
  let new := wait.filter (fun d => !b1.sys.deferred.contains d)
  let at' := b1.pclk
  let b2 := go.foldl (fun x d => (x.clrBit Reg.PWR_DOM_PEND d).setSys (fun s =>
    { s with waking := tput 0 d (at' + wakeNs d) s.waking })) b1
  let b3 := (b2.setSys (fun s => { s with deferred := wait })).count Reg.PWR_WAKE_DEFER 0 16 new.length
  if new.isEmpty then b3 else b3.setInt Reg.PWR_INT 2

/-! ## The coarse time (R474) -/

/-- The coarse time after `d` more periods of XT32; its seconds are 48 bits. -/
def Block.coarseRun (d : Nat) (b : Block) : Block := b.setSys (fun s => { s with coarse := (s.coarse + d) % 2 ^ 63 })

/-- COARSE_TIME_WRITE: SEC_HI is written, and the next XT32 tick, `d` periods after the last one counted, takes the three
registers (R474). -/
def Block.coarseWrite (v d : Nat) (b : Block) : Block :=
  (b.coarseRun d).setSys (fun s => { s with coarse := ((v % 65536) * 2 ^ 32 + s.coarseLo) * 32768 + s.coarseSub % 32768 })

/-- A read of SUB latches the seconds (R474): XT32 has ticked `d` times since the last command that told it. -/
def Block.coarseLatch (d : Nat) (b : Block) : Block :=
  let b1 := b.coarseRun d
  let sec := b1.sys.coarse / 32768
  ((b1.setReg Reg.PWR_AON_SEC_LO sec).setReg Reg.PWR_AON_SEC_HI (sec / 2 ^ 32)).setReg Reg.PWR_AON_SUB (b1.sys.coarse % 32768)

/-! ## Boot (R478 to R483) -/

/-- PWR_BOOT.SRC and IMAGE, and the state that goes with them. -/
def Block.bootFrom (b : Block) (st src img : Nat) : Block :=
  ((b.setRfld Reg.PWR_BOOT 0 4 st).setRfld Reg.PWR_BOOT 5 2 src).setRfld Reg.PWR_BOOT 7 1 img

/-- The host or the twin is asked for the image (R481, R482). -/
def Block.bootHost (b : Block) : Block := (b.bootFrom btHOST 1 0).wakeReq 15
def Block.bootTwin (b : Block) : Block := (b.bootFrom btTWIN 2 0).wakeReq 16

/-- The boot ROM runs once PD_DST and PD_MTX are up. -/
def Block.bootBegin (b : Block) : Block :=
  let s := b.sys.bootSrc.toNat
  if s = 1 then b.bootHost else if s = 2 then b.bootTwin else b.bootFrom btREADING 0 0

/-- IMAGE_READ_DONE: the flash image has been read, or the flash did not deliver it; it is checked, and a failure goes on to
the next source (R480). -/
def Block.imageRead (ok : Bool) (b : Block) : Block :=
  if b.bootSt ≠ btREADING then b
  else
    let i := b.rfld Reg.PWR_BOOT 7 1
    let img := b.flashBytes (imageBase i) (imageLen (b.flashBytes (imageBase i) 256))
    let b1 := b.toPclk (b.pclk + 20 * img.length)
    let e := if ok then imageErr img else 5
    let b2 := if ok then b1.wrBytes sramBase img else b1
    if e = 0 then b2.bootDone
    else
      let b3 := b2.setRfld Reg.PWR_BOOT 8 3 e
      if i = 0 then b3.bootFrom btREADING 0 1
      else if b.sys.bootSrc.toNat = 3 then b3.bootHost
      else b3.setRfld Reg.PWR_BOOT 0 4 btFAILED

/-- A write of PWR_BOOT_GO by master m (R481). -/
def Block.bootGo (m v : Nat) (b : Block) : Block :=
  if m = 15 ∧ b.bootSt ≠ btHOST then b.mtxFault mtxDENIED m (regBase + Reg.PWR_BOOT_GO) true
  else if m < 13 then b.mtxFault mtxDENIED m (regBase + Reg.PWR_BOOT_GO) true
  else if bit v 0 ∧ b.bootSt = btHOST then b.bootCheck (some (min 0x1F0000 (b.reg Reg.PWR_BOOT_LEN)))
  else b

/-- TWIN_BOOT_PROPOSE: every 1 ms in WAIT_TWIN with the link UP (R482). -/
def Block.bootPropose (b : Block) : Block := if b.bootSt = btTWIN ∧ b.gwUp then b.sendPropose 0 0 else b

/-- The domains of STANDBY (R465). -/
def standbyDoms : List Nat := [1, 2, 12, 13, 14, 15, 16, 19]

/-- The end of BOOT (R466, R483): `standby` is entered with the draft not started. -/
def Block.bootEnd (b : Block) : Block :=
  if b.sys.wakeBoot && !b.rbit Reg.PWR_WAKE_MODE 0 then
    let b1 := (b.setLoom (fun l => { l with stopped := true })).enterRetention
    ([11, 17, 18].foldl Block.domStop b1).reach 1
  else (b.setLoom (fun l => { l with stopped := false })).reach 2

/-- Firmware writes CST_CFG and INIT once PD_CST is up (R241, R483). -/
def Block.fwInit (b : Block) : Block :=
  if b.sys.firmware ∧ b.cst.st = 0 ∧ b.domOn 12 then
    (b.cst.fwCfg.elim b (fun v => b.setReg Reg.CST_CFG v)).cstInit b.cst.second
  else b

/-- BSN_TEST is written: every basin that fails now raises TEST_FAIL, and its bobbin's spindles enter the fault map (R456). -/
def Block.bsnTest (v : Nat) (b : Block) : Block :=
  let new := (below 8).filter (fun n => bit v n && !b.rbit Reg.BSN_TEST n)
  new.foldl (fun x n => (upFrom (8 * n) 8).foldl (fun y s => y.enterFmap s false)
    ((x.setInt Reg.BSN_INT 2).raise srcBSN 3 2 n n)) (b.setReg Reg.BSN_TEST (v % 512))

/-- After a wake reset firmware sets TSU time from the coarse time, by a forced step (R474). When it reads SUB is left open
(log entry 31). -/
def Block.fwTime (b : Block) : Block :=
  if b.sys.firmware ∧ b.sys.wakeBoot then
    let r := b.draw
    let b1 := r.2.coarseLatch r.1
    let c := b1.sys.coarse
    let d : Int := (c / 32768 * 1000000000 + c % 32768 * 1000000000 / 32768 : Nat) - (b1.tsu.sec * 1000000000 + b1.tsu.ns : Nat)
    ((b1.setReg Reg.TSU_STEP_SEC (ofS 32 (d.tdiv 1000000000))).setReg Reg.TSU_STEP_NS (ofS 32 (d.tmod 1000000000))).stepWrite 3
  else b

/-- FIRMWARE_START: the tests' results are `bad`, one bit a basin, and `spns`, the spindles that failed; `fit` is what
firmware knows of its node; every bobbin is woken for its test (R214, R241, R456, R462, R483). -/
def Block.firmwareStart (bad : Nat) (spns : List Nat) (fit : NodeFit) (b : Block) : Block :=
  if b.bootSt ≠ btDONE ∨ !b.sys.distaff0 ∨ b.sys.firmware ∨ b.mode ≠ 5 then b
  else
    let b1 := b.setSys (fun s => { s with firmware := true, wdogAt := b.pclk, testing := below 8 })
    let b2 := (standbyDoms ++ upFrom 3 8).foldl Block.wakeReq b1
    let b3 := b2.bsnTest (256 + bad % 256)
    let b4 := (spns.filter (· < 64)).foldl (fun x s => x.enterFmap s false) b3
    let b5 := if 400 ≤ fit.budget then b4.setRfld Reg.PWR_WAKE_BUDGET 0 16 fit.budget else b4
    (b5.setCst (fun c => { c with fwCfg := some (if fit.cfg % 4 = 3 then 0 else fit.cfg % 16), second := fit.second % 3 })).fwInit

/-- The creel's plan for a draft that starts afresh. -/
def Block.freshPlan (b : Block) (d : Draft) : List CPlace × List CPlace :=
  ((phase7 { b with crl := { b.crl with run := [], migs := [] }, stg := { b.stg with force := none } } d).toOption).getD ([], [])

/-- BOOT_COMMIT: firmware commits the first flash draft that passes, at block `n`, once everything it needs is up (R82). -/
def Block.bootCommit (n : Nat) (b : Block) : Block :=
  if b.mode ≠ 5 ∨ !b.sys.firmware ∨ b.cst.st ≠ 2 ∨ b.stg.st ≠ .empty then b
  else match b.bootDraft with
    | none => b.bootEnd
    | some p =>
      let b1 := { b with stg := { b.stg with eff := some p.eff }, crl := { b.crl with staged := p.start, stagedComputed := p.computed } }
      let need := b1.domNeeds p.eff
      if need.all b1.domOn then (((b1.toBlk n).loadStaged p.eff).commitAt n p.eff false).bootEnd
      else need.foldl Block.wakeReq b

/-- BOBBIN_POWER_GATE: at block tick `n`, bobbins without a kernel in the running occupancy switch off (R217), and PD_LOM, PD_AUD
and PD_JET when the draft in force does not use them (R465). -/
def Block.powerGate (n : Nat) (b : Block) : Block :=
  let b1 := b.toBlk n
  let held := fun (k : Nat) => b1.occ.any (fun o => o.s / 8 == k) ||
    ((b1.stg.st == .armed) && b1.crl.staged.any (fun p => p.s / 8 == k))
  let idle := ((below 8).filter (fun k => !held k)).map (· + 3)
  let staged := if b1.stg.st = .armed then b1.stg.eff.toList else []
  let used := fun (t : Draft → Bool) => (b1.stg.force.toList ++ staged).any t
  let lom := if used (fun d => decide (0 < d.cardTotal) || !(d.ofTag tagSLUC).isEmpty) then [] else [11]
  let aud := if used (fun d => !(d.ofTag tagRILL).isEmpty) then [] else [17]
  let jets := (below 32).any (fun j => (b1.jetOf j).modulating)
  let jet := if used (fun d => !(d.ofTag tagJETS).isEmpty) || jets then [] else [18]
  if b1.mode ≠ 2 then b1 else (idle ++ lom ++ aud ++ jet).foldl Block.domStop b1

/-! ## Domains come up and go down -/

/-- DOMAIN_WAKE_DONE (R458): a bobbin that firmware has woken to test it goes off again (R483). -/
def Block.wakeDone (d : Nat) (b : Block) : Block :=
  let at' := tget 0 b.sys.waking d
  if at' = 0 ∨ 20 ≤ d then b
  else
    let b1 := b.toPclk at'
    let b2 := if d = 19 then b1.domWipe 19 else b1
    let b3 := ((b2.setRfld Reg.PWR_DOM_ON d 1 1).setSys (fun s => { s with waking := tput 0 d 0 s.waking })).setCrl
      (fun c => { c with late := c.late.filter (fun n => 3 + n != d) })
    let b4 := if b3.mode = 5 ∧ (d = 1 ∨ d = 2) ∧ b3.domOn 1 ∧ b3.domOn 2 ∧ b3.bootSt = 0 then b3.bootBegin else b3
    if d = 12 then b4.fwInit else if d = 18 then (below 32).foldl Block.jetLow b4 else if d = 19 then b4.fwTime
    else if b4.sys.testing.contains (d - 3) ∧ 3 ≤ d then
      (b4.setSys (fun s => { s with testing := s.testing.filter (· != d - 3) })).domStop d
    else b4

/-- DOMAIN_SWITCH_OFF: the 2 us are over; a wake that came meanwhile joins the queue (R460). -/
def Block.switchOff (d : Nat) (b : Block) : Block :=
  let at' := tget 0 b.sys.offing d
  if at' = 0 ∨ 20 ≤ d then b
  else
    let b1 := (b.toPclk at').domWipe d
    let again := b1.sys.later.contains d
    let b2 := b1.setSys (fun s => { s with offing := tput 0 d 0 s.offing, later := s.later.filter (· != d) })
    if again then b2.setRfld Reg.PWR_DOM_PEND d 1 1 else b2

/-! ## Modes (R466 to R470) -/

/-- A mode request that the table does not accept (R466). -/
def Block.modeRefused (b : Block) : Bool × Block := (false, b.pwrFault 5 0 1)

/-- A request to leave ACTIVE (R466, R467). -/
def Block.leaveReq (b : Block) (m : Nat) : Bool × Block :=
  if b.stg.st = .settling then b.modeRefused
  else
    let go := fun (x : Block) (t : Nat) => (true, ((x.setMode 4).setTarget m).setSys (fun s => { s with leaving := .asked, leaveAt := t }))
    if b.par.st = 2 ∨ b.par.st = 3 then
      let b1 := if b.par.st = 2 then b.resign false else b.setInt Reg.PAR_INT 9
      match b1.par.resign with
      | some f => go b1 f
      | none => b1.modeRefused
    else go b (b.blk + 1)

/-- Entry to DORMANT (R470): the coarse time takes TSU time, every domain but PD_AON goes off, PMIC_REQ falls. -/
def Block.enterDormant (b : Block) : Block :=
  let c := b.tsu.sec * 32768 + b.tsu.ns * 32768 / 1000000000
  let flash := b.stg.flash
  let b1 := (upFrom 1 19).foldl (fun x d => (x.domWipe d).setRfld Reg.PWR_DOM_ON d 1 0)
    ((b.setSys (fun s => { s with coarse := c, leaving := .none })).enterRetention)
  let b2 := { b1 with stg := { flash := flash }, muted := [], muteFrom := [] }
  let b3 := ((b2.pageReset Reg.SYS_DFT_CMD (Reg.SYS_DFT_INT_EN + 4) false).setReg Reg.PWR_DOM_PEND 0).setReg Reg.PWR_BOOT 0
  let b4 := (b3.setSys (fun s => { s with waking := [], offing := [], later := [], deferred := [] })).setRfld Reg.PWR_AON_STAT 1 1 0
  let at' := b4.pclk
  ((b4.setSys (fun s => { s with dormAt := at', ackAt := none })).emit (.pin pinPmicReq false)).reach 0

/-- REQUEST_DORMANT, REQUEST_STANDBY and REQUEST_ACTIVE: 0, 1 and 2 as PWR_CMD.MODE. Whether it was accepted. -/
def Block.modeReq (m : Nat) (b : Block) : Bool × Block :=
  if b.severed ∨ 2 < m then b.modeRefused
  else match b.mode, m with
    | 2, 0 => b.leaveReq 0
    | 2, 1 => b.leaveReq 1
    | 1, 0 => (true, b.enterDormant)
    | 1, 2 =>
      let b1 := ((b.leaveRetention).setMode 3).setTarget 2
      let b2 := b1.stg.force.elim b1 (fun d =>
        let p := b1.freshPlan d
        { b1 with crl := { b1.crl with run := [], migs := [], want := [], retry := [], restarts := [], staged := p.1, stagedComputed := p.2 } })
      (true, b2.stg.force.elim b2 (fun d => (b2.domNeeds d).foldl Block.wakeReq b2))
    | _, _ => b.modeRefused

/-- LEAVING_BLOCK_TICK (R467, step 1). -/
def Block.leavingTick (b : Block) : Block :=
  if b.sys.leaving ≠ .asked then b
  else
    let b1 := b.toBlk b.sys.leaveAt
    let ps := b1.stg.force.elim [] (fun d => d.plies.map (·.ply))
    let b2 := (b1.muteAll muLeave ps).abandon (some 0x82)
    let b3 := (below 4).foldl (fun x k =>
      if (x.bank k).st = 1 ∨ (x.bank k).st = 2 then (x.setBank k { x.bank k with stopAt := some x.blk }).bankDue k else x) b2
    let b4 := (below 8).foldl (fun x n => if (x.rsv n).acc then x.rsvEnd n 0x08000000 else x) b3
    b4.setSys (fun s => { s with leaving := .muted })

/-- LEAVE_QUIESCE at block tick `n`: the first at which no jet modulates (R467, steps 2 and 3). -/
def Block.quiesce (n : Nat) (b : Block) : Block :=
  let b0 := if b.sys.leaving = .muted then (below 4).foldl Block.bankDue (b.toBlk n) else b
  if b0.sys.leaving ≠ .muted ∨ (below 32).any (fun j => (b0.jetOf j).modulating) then b0
  else
    let b1 := b0.setLoom (fun l => { l with stopped := true, passes := [] })
    let b2 := (below 64).foldl (fun x s =>
      (x.clrBit (Reg.SPN_SCTRL (s / 8) (s % 8)) 0).setSpn s { x.spn s with run := false, todo := [], loops := [] }) b1
    let b3 := (b2.enterRetention).setSys (fun s => { s with leaving := .none })
    let b4 : Block := (upFrom 3 8 ++ [11, 17, 18]).foldl Block.domStop b3
    if b4.rfld Reg.PWR_MODE 4 3 = 0 then b4.enterDormant else b4.reach 1

/-- RESUME_START at block tick `n`: the draft in force restarts as at a boot commit (R468). -/
def Block.resume (n : Nat) (b : Block) : Block :=
  match b.stg.force with
  | none => if b.mode = 3 then (b.setLoom (fun l => { l with stopped := false })).reach 2 else b
  | some d =>
    if b.mode ≠ 3 ∨ b.cst.st ≠ 2 ∨ !(b.domNeeds d).all b.domOn then b
    else
      let b1 := b.toBlk n
      let staged := b1.crl.staged
      let comp := b1.crl.stagedComputed
      let b2 := (b1.linesTake none d).storesTake none d
      let b3 := { b2 with crl := { b2.crl with run := [], migs := [], staged := staged, stagedComputed := comp } }
      let b4 := (((b3.loadStaged d).kernelsTake n (fun _ => false) d).hardwareTake n none d (fun _ => [])).unmute muLeave
      (b4.setLoom (fun l => { l with stopped := false, ended := [], sent := [] })).reach 2

/-! ## Wake and the PMIC (R470 to R473) -/

/-- Leaving DORMANT begins: PMIC_REQ rises (R472). -/
def Block.wakeStart (b : Block) : Block :=
  if b.mode ≠ 0 ∨ b.rbit Reg.PWR_AON_STAT 1 ∨ b.sys.pmicLost then b
  else
    let at' := b.pclk
    let hw := b.rbit Reg.PWR_CTRL 0
    let b1 := ((b.setRfld Reg.PWR_AON_STAT 1 1 1).setSys (fun s => { s with reqAt := at', ackAt := none, latched := false, hostWake := hw })).emit
      (.pin pinPmicReq true)
    if hw then b1.emit (.pin pinPcieWake false) else b1

/-- WAKE_EVENT of source `i` of R471, which has held for 2 XT32 periods. -/
def Block.wakeEvent (i : Nat) (b : Block) : Block :=
  if !(i < 4 || (8 ≤ i && i < 16)) then b
  else
    let b1 := b.setInt Reg.PWR_WAKE_SRC i
    let b2 := if i = 3 ∧ b.sys.hostWake then (b1.setSys (fun s => { s with hostWake := false })).emit (.hiz pinPcieWake) else b1
    let entering := b2.mode == 4 && b2.rfld Reg.PWR_MODE 4 3 == 0
    if !b2.rbit Reg.PWR_WAKE_EN i then b2
    else if b2.mode = 0 ∧ b2.sys.dormAt + 1000000 ≤ b2.pclk then b2.wakeStart
    else if b2.mode = 0 ∨ entering then b2.setSys (fun s => { s with latched := true })
    else b2

/-- LATCHED_WAKE: PMIC_REQ has been low for 1 ms (R470). -/
def Block.latchedWake (b : Block) : Block :=
  if b.mode = 0 ∧ b.sys.latched then (b.toPclk (b.sys.dormAt + 1000000)).wakeStart else b

/-- PMIC_ACK rises (R472). -/
def Block.pmicAck (b : Block) : Block :=
  let at' := b.pclk
  let b1 := b.setRfld Reg.PWR_AON_STAT 2 1 1
  if b.rbit Reg.PWR_AON_STAT 1 ∧ b.sys.ackAt.isNone ∧ !b.sys.pmicLost then b1.setSys (fun s => { s with ackAt := some at' }) else b1

/-- Boot begins: PD_DST and PD_MTX wake (R480). -/
def Block.bootStart (b : Block) : Block := (((b.setMode 5).setTarget 2).wakeReq 1).wakeReq 2

/-- WAKE_RESET, 100 us after PMIC_ACK: from DORMANT a wake reset, and boot (R472, R477). -/
def Block.wakeReset (b : Block) : Block :=
  match b.sys.ackAt with
  | none => b
  | some a =>
    let b1 := (b.toPclk (a + 100000)).setSys (fun s => { s with ackAt := none })
    if b.mode = 0 then
      ((b1.setInt Reg.PWR_RST_CAUSE 3).setSys (fun s => { s with wakeBoot := true, side := Config.strapSide, bootSrc := Config.strapBootSrc })).bootStart
    else if b.mode = 5 ∧ b.bootSt = 0 then b1.bootStart else b1

/-- ACK_TIMEOUT (R472). -/
def Block.ackTimeout (b : Block) : Block :=
  if b.mode ≠ 0 ∨ !b.rbit Reg.PWR_AON_STAT 1 ∨ b.sys.ackAt.isSome then b
  else
    let timeout := b.rfld Reg.PWR_CTRL 16 16
    let b1 := b.toPclk (b.sys.reqAt + 1000000 * (if timeout = 0 then 20 else timeout))
    let at' := b1.pclk
    (((b1.setRfld Reg.PWR_AON_STAT 1 1 0).setSys (fun s => { s with dormAt := at' })).emit (.pin pinPmicReq false)).pwrFault 2 0 5

/-- PMIC_LOST: PMIC_ACK has been low for 10 us while PMIC_REQ is high (R473). -/
def Block.losePmic (b : Block) : Block :=
  if !b.rbit Reg.PWR_AON_STAT 1 then b
  else
    let b1 := b.setRfld Reg.PWR_AON_STAT 2 1 0
    (b1.raise srcPWR 3 3 0 0).sever srcPWR 3 true

/-! ## Always-on supervision (R474 to R476) -/

/-- XT_LOST and XT_RETURN (R475). -/
def Block.xtLost (b : Block) : Block :=
  if b.rbit Reg.PWR_AON_STAT 0 then b else (b.setRfld Reg.PWR_AON_STAT 0 1 1).pwrFault 1 0 3
def Block.xtReturn (b : Block) : Block := b.setRfld Reg.PWR_AON_STAT 0 1 0

/-- COARSE_TIME_READ. -/
def Block.coarseRead (d : Nat) (b : Block) : Block :=
  let b1 := b.coarseLatch d
  b1.emit (.read (regBase + Reg.PWR_AON_SUB) 4 (b1.reg Reg.PWR_AON_SUB))

/-- WDOG_KICK, and the expiry (R476). -/
def Block.wdogKick (b : Block) : Block := let at' := b.pclk; b.setSys (fun s => { s with wdogAt := at' })

def State.wdog (s : State) : State :=
  if !s.blk.rbit Reg.PWR_WDOG 31 then s
  else
    let s1 := s.mapBlk (fun b => b.toPclk (b.sys.wdogAt + 1000000 * b.rfld Reg.PWR_WDOG 0 16))
    ((s1.distaffReset 0).distaffReset 1).mapBlk (fun b => ((b.pwrFault 4 1 4).setInt Reg.PWR_RST_CAUSE 4).wdogKick)

/-- A write of PWR_WDOG: TIMEOUT 0 leaves the register unchanged. Setting EN starts the interval. -/
def Block.wdogWrite (v : Nat) (b : Block) : Block :=
  if v % 65536 = 0 then b
  else
    let b1 := b.setReg Reg.PWR_WDOG (fld v 31 1 * 2 ^ 31 + v % 65536)
    if bit v 31 && !b.rbit Reg.PWR_WDOG 31 then b1.wdogKick else b1

/-- A write of PWR_WAKE_BUDGET below 400 nC leaves the register unchanged (R462). -/
def Block.budgetWrite (v : Nat) (b : Block) : Block :=
  if v % 65536 < 400 then b else b.setReg Reg.PWR_WAKE_BUDGET (v % 65536)

/-! ## Resets (R477) -/

/-- The block after a reset of everything: what lies outside the device, and what the model counts, stays. -/
def Block.fresh (b : Block) : Block := { out := b.out, free := b.free, stg := { flash := b.stg.flash } }

/-- POWER_ON_RESET: released, and PMIC_REQ rises (R477, R483). -/
def State.powerOn (s : State) : State :=
  { pending := s.pending, blk := (s.blk.fresh.setReg Reg.PWR_AON_STAT 3).emit (.pin pinPmicReq true) }

/-- DEV_RESET; cause 1 is SYS_RST_N, 2 PWR_CMD. A severed device ignores it (R494). -/
def State.devReset (cause : Nat) (s : State) : State :=
  if s.blk.severed then s
  else
    let b := s.blk
    let sys : Sys := { coarse := b.sys.coarse, tickBase := b.sys.tickBase + b.tsu.ticks, pmicLost := b.sys.pmicLost,
                       errLow := b.sys.errLow, shutHigh := b.sys.shutHigh }
    let b1 := { b.fresh with sys := sys }.seedNow
    let b2 := (b1.setReg Reg.PWR_AON_STAT (b.reg Reg.PWR_AON_STAT)).setReg Reg.PWR_RST_CAUSE (2 ^ cause)
    let b3 := if b2.rbit Reg.PWR_AON_STAT 1 then b2.bootStart
      else (b2.setRfld Reg.PWR_AON_STAT 1 1 1).emit (.pin pinPmicReq true)
    { pending := s.pending, blk := b3 }

/-- BLOCK_RESET: a write of PWR_BLK_RST. -/
def State.blkRst (v : Nat) (s : State) : State :=
  let k := v % 64
  if 2 ≤ k ∧ k < 32 then (if k = srcHST then (s.srcReset k false).cutMaster 15 else s.srcReset k false)
  else if k = 32 then s.distaffReset 0
  else if k = 33 then s.distaffReset 1
  else s

/-! ## Commands -/

/-- BOOT_COMMIT (R82). -/
def execBootCommit (n : Nat) : State → Answer := onBlk (Block.bootCommit n)
/-- BOBBIN_POWER_GATE (R217). -/
def execBobbinPowerGate (n : Nat) : State → Answer := onBlk (Block.powerGate n)
/-- REQUEST_DORMANT (R466). -/
def execRequestDormant : State → Answer := onBlk (fun b => (b.modeReq 0).2)
/-- REQUEST_STANDBY (R466). -/
def execRequestStandby : State → Answer := onBlk (fun b => (b.modeReq 1).2)
/-- REQUEST_ACTIVE (R468). -/
def execRequestActive : State → Answer := onBlk (fun b => (b.modeReq 2).2)
/-- LEAVE_QUIESCE (R467). -/
def execLeaveQuiesce (n : Nat) : State → Answer := onBlk (Block.quiesce n)
/-- RESUME_START (R468). -/
def execResumeStart (n : Nat) : State → Answer := onBlk (Block.resume n)
/-- WAKE_EVENT (R471). -/
def execWakeEvent (i : Nat) : State → Answer := onBlk (Block.wakeEvent i)
/-- PMIC_ACK (R472). -/
def execPmicAck : State → Answer := onBlk Block.pmicAck
/-- WAKE_RESET (R472). -/
def execWakeReset : State → Answer := onBlk Block.wakeReset
/-- ACK_TIMEOUT (R472). -/
def execAckTimeout : State → Answer := onBlk Block.ackTimeout
/-- PMIC_LOST (R473). -/
def execPmicLost : State → Answer := onBlk Block.losePmic
/-- WAKE_WINDOW (R461). -/
def execWakeWindow (ns : Nat) : State → Answer := onBlk (Block.wakeWindow ns)
/-- DOMAIN_WAKE_DONE (R458). -/
def execDomainWakeDone (d : Nat) : State → Answer := onBlk (Block.wakeDone d)
/-- DOMAIN_SWITCH_OFF (R460). -/
def execDomainSwitchOff (d : Nat) : State → Answer := onBlk (Block.switchOff d)
/-- WDOG (R476). -/
def execWdog : State → Answer := onAll State.wdog
/-- XT_LOST (R475). -/
def execXtLost : State → Answer := onBlk Block.xtLost
/-- XT_RETURN (R475). -/
def execXtReturn : State → Answer := onBlk Block.xtReturn
/-- COARSE_TIME_READ (R474). -/
def execCoarseTimeRead (d : Nat) : State → Answer := onBlk (Block.coarseRead d)
/-- POWER_ON_RESET (R477). -/
def execPowerOnReset : State → Answer := onAll State.powerOn
/-- DEV_RESET (R477): by SYS_RST_N, or by PWR_CMD. -/
def execDevReset (pin : Bool) : State → Answer := onAll (State.devReset (if pin then 1 else 2))
/-- IMAGE_READ_DONE (R480). -/
def execImageReadDone (ok : Bool) : State → Answer := onBlk (Block.imageRead ok)
/-- TWIN_BOOT_PROPOSE (R482). -/
def execTwinBootPropose : State → Answer := onBlk Block.bootPropose
/-- FIRMWARE_START (R483). -/
def execFirmwareStart (bad : Nat) (spns : List Nat) (fit : NodeFit) : State → Answer :=
  onBlk (Block.firmwareStart bad spns fit)
/-- LEAVING_BLOCK_TICK (R467). -/
def execLeavingBlockTick : State → Answer := onBlk Block.leavingTick
/-- LATCHED_WAKE (R470). -/
def execLatchedWake : State → Answer := onBlk Block.latchedWake

end Sys2Proof.Machine
end

