-- ==== Sys2Proof/Machine/FaultCmd.lean ====
section
/-! DEFINITION. ACK, grace expiry and its escalations, the sever key, and the release of ERR_N
(spec/19_faults.md, R487 to R500). -/

namespace Sys2Proof.Machine

/-- Whether the draft in force has an output ply among `ps`: a ply of transmit, rill output or jet lanes that enters digests
(R406). -/
def Block.outPly (b : Block) (r : PlyRec) : Bool :=
  isOut r.first && !b.rbit (Reg.PAR_DIG_MASK (r.ply / 32)) (r.ply % 32)

/-- Whether the work of source k reaches an output ply (R492). -/
def Block.reaches (b : Block) (k : Nat) : Bool :=
  match b.stg.force with
  | none => false
  | some d =>
    if 4 ≤ k ∧ k < 12 then
      let here := b.crl.run.filter (fun p => p.s / 8 == k - 4 && !p.dest)
      let kouts := ((below 2).flatMap (fun m => (b.deckCards m).map cardFields)).filter (fun c => c.op == opKOUT)
      here.any (fun p => kouts.any (fun c => c.kernel == p.k))
    else if k = srcLOM then d.plies.any b.outPly
    else if k = srcCST then !d.dlays.isEmpty || b.crl.run.any (fun p => p.tier == 4)
    else k == srcWLH

/-- The plies of a domain that the loom writes (R21, R500). -/
def Block.loomPlies (b : Block) (dom : Nat) : List Nat :=
  b.stg.force.elim [] (fun d => (d.plies.filter (fun r =>
    d.laneDom? r.first == some dom && (isOut r.first || isBus r.first || loomWrites r.first (laneDir d r.first)))).map (·.ply))

/-- The escalation Mute of source k (R491). -/
def Block.escMute (k : Nat) (ps : List Nat) (b : Block) : Block :=
  { b.muteAll (muEsc k) ps with escAcked := b.escAcked.filter (fun e => !(e.1 == k && ps.contains e.2)) }

/-- The instant at which the grace timer of a record expires: exact on the time clock, within 5 % while PD_WLH is down (R490). -/
def Block.graceEnd (b : Block) (r : FltRec) : Nat × Block :=
  if b.domOn 19 then (r.at' + 1000 * r.grace, b)
  else
    let f := b.draw
    (r.at' + r.grace * (950 + f.1 % 101), f.2)

/-- The escalation of one error of source k, if it has one (R491, R498). -/
def State.escalate (k : Nat) (e : HeldErr) (s : State) : Option State :=
  if 4 ≤ k ∧ k < 12 ∧ e.code = 2 then some (s.mapBlk (fun b => b.spnReset e.unit))
  else if 4 ≤ k ∧ k < 12 ∧ (e.code = 4 ∨ e.code = 6) then some (s.mapBlk (fun b => b.isolate e.unit))
  else if k = srcLOM ∧ e.code = 6 then some (s.mapBlk (fun b => b.escMute k (b.loomPlies e.unit)))
  else if k = srcCST ∧ e.code = 4 then some (s.srcReset k true)
  else if k = srcWLH ∧ e.code = 7 then some (s.srcReset k true)
  else none

/-- GRACE_EXPIRY of source k: the timer runs out, and each held error's escalation in order, then the resignation that they call for (R490 to R492). -/
def State.graceExpiry (k : Nat) (s : State) : State :=
  let r := s.blk.frec k
  if !r.timer ∨ 32 ≤ k then s
  else
    let e := s.blk.graceEnd r
    let s1 : State := { s with blk := e.2.toPclk e.1 }
    let reach := s1.blk.reaches k
    let s0 := s1.mapBlk (fun b => b.setRec k { b.frec k with timer := false })
    let t := r.held.foldl (fun (a : Bool × State) e => (a.2.escalate k e).elim a (fun x => (true, x))) (false, s0)
    if t.1 && reach && s0.blk.rbit Reg.SYS_FCTL 8 then t.2.mapBlk (fun b => b.resign false) else t.2

/-- A write of SYS_SEVER_CMD by master m (R495). -/
def Block.severKey (m v : Nat) (b : Block) : Block :=
  if v = 0x53455645 ∧ (m = 13 ∨ m = 14 ∨ (m = 15 ∧ b.level 0 = 3)) then
    ((b.setInt Reg.SYS_INT 1).raise srcSYS 2 3 0 0).sever srcSYS 2 false
  else b

/-- ESCALATION_MUTE_RELEASE: the first block tick after ACK (R491). -/
def Block.escRelease (b : Block) : Block :=
  if b.escAcked.isEmpty then b
  else
    let b1 := b.escAcked.foldl (fun x e => x.setMute (muEsc e.1) false e.2) (b.toBlk (b.blk + 1))
    { b1 with escAcked := [] }

/-! ## Commands -/

/-- ACK (R487): a write of ACK = 1 to the record of source k. -/
def execAck (k : Nat) : State → Answer := onReg (fltReg k) true (fun b => if k < 32 ∧ k ≠ 20 then b.ack k else b)
/-- GRACE_EXPIRY (R490). -/
def execGraceExpiry (k : Nat) : State → Answer := onAll (State.graceExpiry k)
/-- SEVER_KEY (R495). -/
def execSeverKey (m v : Nat) : State → Answer := onBlk (Block.severKey m v)
/-- ERRN_RELEASE (R496): the 20 us are over. -/
def execErrnRelease : State → Answer := onBlk (fun b => b.errPulse.elim b (fun t => { b.toPclk (t + 20000) with errPulse := none }))
/-- ESCALATION_MUTE_RELEASE (R491). -/
def execEscalationMuteRelease : State → Answer := onBlk Block.escRelease

end Sys2Proof.Machine
end

