-- ==== Sys2Proof/Machine/Ring.lean ====
section
/-! DEFINITION. The host port (spec/16_control_ports.md, R420 to R426): its link, MSI-X, and the rings of media DMA
descriptors. -/

namespace Sys2Proof.Machine

/-! ## The link and MSI-X (R422 to R424) -/

/-- HOST_LINK_UP: the data link becomes active at a speed (1 Gen1 to 4 Gen4) and a width. -/
def Block.hostLink (speed width : Nat) (b : Block) : Block :=
  if b.domOn 15 then
    (((b.setRfld Reg.HST_STAT 0 1 1).setRfld Reg.HST_STAT 2 3 speed).setRfld Reg.HST_STAT 5 3 width).setInt Reg.HST_INT 0
  else b

/-- The messages of pending vectors that are open now leave (R424). -/
def Block.vecFlush (b : Block) : Block :=
  let go := (below 64).filter (fun v => b.sys.pba.contains v && b.vecOpen v)
  (go.foldl (fun x v => x.emit (.msix v)) b).setSys (fun s => { s with pba := s.pba.filter (fun v => !go.contains v) })

/-- A write of word i of the MSI-X table; the table holds the unmasked bit of each vector in its fourth word. -/
def Block.msixWrite (i v : Nat) (b : Block) : Block :=
  let w : BitVec 32 := BitVec.ofNat 32 (if i % 4 = 3 then 1 - v % 2 else v)
  (b.setSys (fun s => { s with msix := tput 0 i w s.msix })).vecFlush

/-- VECTOR_UNMASK: the host unmasks a vector, or, with none named, enables MSI-X. -/
def Block.vecUnmask (v : Option Nat) (b : Block) : Block :=
  if !b.domOn 15 then b
  else match v with
    | some k => if k < 64 then b.msixWrite (4 * k + 3) 0 else b
    | none => (b.setRfld Reg.HST_STAT 8 1 1).vecFlush

/-- A write of HST_IACK: the vectors named are armed; one that is still driven fires again at once. -/
def Block.rearm (vs : List Nat) (b : Block) : Block :=
  b.setSys (fun s => { s with disarmed := s.disarmed.filter (fun v => !vs.contains v) })

/-! ## Ring registers (R426) -/

/-- A register of ring p: offset 0 BASE_LO, 4 BASE_HI, 8 SIZE, 0xC HEAD, 0x10 TAIL, 0x14 CTRL. -/
def ringReg (tx : Bool) (p o : Nat) : Nat := 0x720100 + (if tx then 0x100 else 0) + 0x20 * p + o

def Block.ringEn (b : Block) (tx : Bool) (p : Nat) : Bool := b.rbit (ringReg tx p 0x14) 0

def Block.ringRefused (b : Block) : Block := b.setInt Reg.HST_INT 3

/-- A write of BASE or SIZE, while the ring is disabled; BASE is checked when its high word is written (log entry 30). -/
def Block.ringConfig (tx : Bool) (p o v : Nat) (b : Block) : Block :=
  if b.ringEn tx p then b
  else if o = 0 then b.setReg (ringReg tx p 0) (v / 64 * 64)
  else if o = 4 then
    let x := b.reg (ringReg tx p 0) + 2 ^ 32 * (v % 256)
    if b.freeBase ≤ x ∧ x < b.stagingBase then b.setReg (ringReg tx p 4) (v % 256) else b.ringRefused
  else
    let n := v % 8192
    if (upFrom 4 9).any (fun k => n == 2 ^ k) then b.setReg (ringReg tx p 8) n else b.ringRefused

/-- Frames of a transmit ring that is disabled leave without an entry to complete. -/
def Block.ringDrop (p : Nat) (b : Block) : Block :=
  let drop := fun (t : TxFrame) => if t.host.any (fun h => h.1 == p) then { t with host := none } else t
  b.modPort p (fun x => { x with tx := x.tx.map (fun e => (e.1, e.2.map drop)), cur := x.cur.map (fun c => (drop c.1, c.2)) })

/-- A write of CTRL: EN = 0 takes the ring out of service and zeroes HEAD and TAIL. -/
def Block.ringCtrl (tx : Bool) (p v : Nat) (b : Block) : Block :=
  if bit v 0 then b.setReg (ringReg tx p 0x14) 1
  else
    let b1 := ((b.setReg (ringReg tx p 0x14) 0).setReg (ringReg tx p 0xC) 0).setReg (ringReg tx p 0x10) 0
    if tx then b1.ringDrop p else b1

def Block.ringTail (tx : Bool) (p v : Nat) (b : Block) : Block := b.setReg (ringReg tx p 0x10) (v % 4096)

/-- A write of a ring register. -/
def Block.ringWrite (tx : Bool) (p o v : Nat) (b : Block) : Block :=
  if o = 0x14 then b.ringCtrl tx p v else if o = 0x10 then b.ringTail tx p v else if o = 0xC then b else b.ringConfig tx p o v

/-! ## Entries (R425, R426) -/

/-- The address of entry i of a ring. -/
def Block.ringDesc (b : Block) (tx : Bool) (p i : Nat) : Nat :=
  b.reg (ringReg tx p 0) + 2 ^ 32 * (b.reg (ringReg tx p 4) % 256) + 32 * i

/-- The entry a ring completes next, if the device owns one: from HEAD to TAIL - 1. -/
def Block.ringHead (b : Block) (tx : Bool) (p : Nat) : Option Nat :=
  let h := b.reg (ringReg tx p 0xC)
  if b.ringEn tx p && h != b.reg (ringReg tx p 0x10) then some h else none

/-- Whether an address lies in the cistern as it is installed (R25). -/
def Block.inCistern (b : Block) (a : Nat) : Bool := decide (cisternBase ≤ a) && decide (a < cisternBase + b.cstSize)

/-- Master 2 reads and writes the cistern only (R232, R445). -/
def Block.dmaRead (a n : Nat) (b : Block) : Bytes × Block :=
  if b.inCistern a then (b.rdBytes a n, b.eccNote false 2 a n)
  else (List.replicate n 0, b.mtxFault (if a < cisternBase then mtxREACH else mtxUNMAPPED) 2 a false)

def Block.dmaWrite (a : Nat) (bs : Bytes) (b : Block) : Block :=
  if !b.inCistern a then b.mtxFault (if a < cisternBase then mtxREACH else mtxUNMAPPED) 2 a true
  else b.cstStore 2 a bs

/-- RX_DESCRIPTOR: the frame at the head of queue q of port p, a queue of DEST 2, goes into entry HEAD. -/
def Block.rxDescriptor (p q : Nat) (b : Block) : Block :=
  match b.rxq p q, b.ringHead false p with
  | f :: rest, some h =>
    if 4 < p ∨ b.rxDest p q ≠ 2 then b
    else
      let a := b.ringDesc false p h
      let d := b.dmaRead a 32
      let n := f.bytes.length
      let len := u16 d.1 8
      let flags := setFld (u16 d.1 10 ||| 1) 4 1 (b2n (decide (len < n)))
      let b1 := (d.2.setRxq p q rest).dmaWrite (u64 d.1 0) (f.bytes.take len)
      let b2 := b1.dmaWrite (a + 10) (leBytes 2 flags ++ leBytes 2 n ++ leBytes 2 (ethHdr f.bytes).tci ++ leBytes 4 (stampNs f.stamp) ++
        leBytes 1 (stampSub f.stamp) ++ leBytes 1 q ++ leBytes 2 0 ++ leBytes 8 (stampSec f.stamp % 2 ^ 48))
      (b2.setReg (ringReg false p 0xC) ((h + 1) % max 1 (b2.reg (ringReg false p 8)))).orReg Reg.HST_RING_EVT (2 ^ p)
  | _, _ => b

/-- Whether a frame of transmit ring p is in a queue of its port, or leaving. -/
def Block.txInFlight (b : Block) (p : Nat) : Bool :=
  let mine := fun (t : TxFrame) => t.host.any (fun h => h.1 == p)
  (b.port p).tx.any (fun e => e.2.any mine) || (b.port p).cur.any (fun c => mine c.1)

/-- More bytes of a frame of ring p have been fetched. -/
def Block.txFetched (p n : Nat) (b : Block) : Block :=
  let more := fun (t : TxFrame) =>
    if t.host.any (fun h => h.1 == p) && !t.whole then
      { t with present := min t.bytes.length (max t.present n), whole := decide (t.bytes.length ≤ n) }
    else t
  b.modPort p (fun x => { x with tx := x.tx.map (fun e => (e.1, e.2.map more)) })

/-- A descriptor that is refused: BAD_FIELD on H0, DONE and LEN 0xFFFF. -/
def Block.txRefused (p h a : Nat) (b : Block) : Block :=
  ((b.violate 0 0x23 3 0 a 0).dmaWrite (a + 12) (leBytes 2 0xFFFF)).txEntryDone p h none

/-- TX_DESCRIPTOR: `n` bytes of the frame of entry HEAD of transmit ring p have been fetched; a new frame enters its queue.
A frame that finds no room waits in its entry; one that finds LINK down is discarded, and its entry completed (R252). -/
def Block.txDescriptor (p n : Nat) (b : Block) : Block :=
  if 4 < p then b
  else if b.txInFlight p then b.txFetched p n
  else match b.ringHead true p with
    | none => b
    | some h =>
      let a := b.ringDesc true p h
      let d := b.dmaRead a 32
      let len := u16 d.1 8
      let flags := u16 d.1 10
      let q := fld flags 2 2
      if q = 3 ∨ (p = 4 ∧ q = 2) ∨ len < 60 ∨ b.rfld (portBase p) 16 14 < len + 4 then d.2.txRefused p h a
      else
        let f := d.2.dmaRead (u64 d.1 0) len
        let t : TxFrame := { bytes := f.1, present := min len n, whole := decide (len ≤ n), host := some (p, h), stampReq := bit flags 1 }
        if b.portUp p then (f.2.txPut p (hostQueue p + q) t).2 else f.2.hostDone t none

end Sys2Proof.Machine
end

