-- ==== Sys2Proof/Machine/Views.lean ====
section
/-! DEFINITION. What the read-only registers show that are not kept in the register file: fault records, the staging
state, spindles, loom, creel, sluices, cistern, ports, flows, time, wellhead, rills, jets and pairing (the register
tables of spec/). -/

namespace Sys2Proof.Machine

/-- A word with bit `i` set for each number `i` below `n` that satisfies a test. -/
def bitsOf (n : Nat) (f : Nat → Bool) : Nat := ((below n).map (fun i => b2n (f i) * 2 ^ i)).sum

/-- A quotient rounded up, limited to 16 bits. -/
def up16 (x d : Nat) : Nat := min 0xFFFF (ceilDiv x d)

/-! ## Fault records (R487) -/

/-- xxx_FLT: MERGE, the block-specific field, CODE, CLASS and PEND. -/
def fltWord (r : FltRec) : Nat :=
  r.merge * 2 ^ 24 + r.spec % 256 * 2 ^ 16 + r.code % 256 * 2 ^ 8 + r.cls * 2 ^ 6 + b2n r.pend

/-- The source whose xxx_FLT, xxx_FLT_BLK or xxx_GRACE lies at an offset, and which of them. -/
def fltSrc (a : Nat) : Option (Nat × Nat) :=
  ((below 32).filter (· != 20)).findSome? (fun k =>
    if a = fltReg k then some (k, 0) else if a = fltReg k + 4 then some (k, 1) else none)

/-! ## SYS (R67, R68, R448, R496, R500) -/

/-- The staging buffer's address, valid while the state is not EMPTY. -/
def Block.dftBufView (b : Block) : Nat := if b.stg.st = .empty then 0 else b.stagingBase

/-! ## Spindles (R151, R159, R170) -/

/-- SPN_SSTAT.STATE: 0 OFF, 1 GATED, 2 RUN, 3 ISOLATED. -/
def Block.spnState (b : Block) (s : Nat) : Nat :=
  if (b.spn s).isol then 3 else if !b.rbit (Reg.SPN_SCTRL (s / 8) (s % 8)) 0 then 0 else if (b.spn s).run then 2 else 1

/-- SPN_BSTAT: a spindle that is not enabled has no run list (log entry 38). -/
def Block.bstatView (b : Block) (n : Nat) : Nat :=
  bitsOf 8 (fun k => (b.spn (8 * n + k)).isol) * 2 ^ 16 +
  bitsOf 8 (fun k => b.domOn (3 + n) && b.rbit (Reg.SPN_SCTRL n k) 0 && !(b.curList (8 * n + k)).isEmpty) * 2 ^ 8 + bitsOf 8 (fun k => b.spnState (8 * n + k) == 1)

def Block.sstatView (b : Block) (s : Nat) : Nat :=
  let x := b.spn s
  b2n x.sovLast * 2 ^ 17 + b2n x.aovLast * 2 ^ 16 + x.entry % 32 * 2 ^ 8 + b.spnState s

/-! ## Loom (R125, R127, R131, R145) -/

def Block.lomStatView (b : Block) : Nat :=
  let l := b.loom
  b2n l.coefBank.wide * 32 + b2n (!l.coefBank.wide && l.coefBank.bank == 1) * 16 + b2n l.cardBank.wide * 8 +
  b2n (!l.cardBank.wide && l.cardBank.bank == 1) * 4 + b2n (b.stg.force.elim false (fun d => !(d.ofTag tagDECK).isEmpty))

def Block.deckView (b : Block) (dom : Nat) : Nat :=
  let d := tget (0, 0) b.loom.decks dom
  if d.2 = 0 then 0 else d.2 % 32768 * 2 ^ 16 + d.1 % 16384

def Block.slotsView (b : Block) (dom : Nat) : Nat :=
  b.stg.force.elim 0 (fun d => deckSlots ((d.deckCut dom).map cardFields))

def Block.lomLoadView (b : Block) : Nat :=
  b.stg.force.elim 0 (fun d => up16 ((below 3).map (Sys2Proof.Machine.deckLoad d b.fB)).sum 100000000)

def Block.editStatView (b : Block) : Nat :=
  b2n (decide (0 < b.loom.resv)) * 2 ^ 16 + min 256 (b.loom.edits.length + b.loom.resv)

def Meter.pkView (m : Meter) : Nat := ofS 32 (dbQ88 20 m.pk (if m.bus then 48 else 31))
def Meter.rmsView (m : Meter) : Nat := ofS 32 (dbQ88 10 (2 * m.ms) (if m.bus then 96 else 62))

/-- A read restarts the peak. -/
def Block.peakRestart (m : Nat) (b : Block) : Block :=
  b.setLoom (fun l => { l with meters := tmod {} m (fun x => { x with pk := 0 }) l.meters })

/-! ## Creel (R203, R213, R216) -/

def Block.crlStatView (b : Block) : Nat := min 8 b.crl.migs.length * 256 + b2n b.crl.stuck * 4 + b2n b.crl.converged * 2

def Block.crlBobView (b : Block) : Nat :=
  bitsOf 8 (fun n => b.crl.computed.any (fun c => c.s / 8 == n)) * 256 + bitsOf 8 (fun n => b.occ.any (fun o => o.s / 8 == n))

def Block.crlLoadView (b : Block) (s : Nat) : Nat :=
  let os := occOn b.occ s
  b2n (b.crl.fmap.contains s) * 2 ^ 26 + (os.head?).elim 3 (·.dom) * 2 ^ 24 + min 32 os.length * 2 ^ 17 + usedCyc os s % 2 ^ 17

def Block.crlMemView (b : Block) (s : Nat) : Nat := ceilDiv (usedY b.occ s) 8 * 2 ^ 16 + ceilDiv (usedX b.occ s) 8
def Block.crlFreeView (b : Block) (n : Nat) : Nat := 0x100000 - b.share.getD n 0 - usedBasin b.occ n

/-- CRL_KMAP of a kernel. -/
def Block.kmapView (b : Block) (k : Nat) : Nat :=
  let c := b.crl.computed.find? (fun c => c.k == k)
  let p := b.runPlace k
  c.elim 0 (·.s) * 2 ^ 17 + b2n (b.crl.migs.any (fun m => m.k == k)) * 2 ^ 16 +
  p.elim 0 (fun q => b2n (c.elim false (fun x => !(atPlace q x))) * 2 ^ 15 + q.tier * 2 ^ 12 + q.entry * 2 ^ 7 + q.s * 2 + 1)

/-! ## Sluices (R101, R106) -/

def SluiceState.num : SluiceState → Nat
  | .off => 0
  | .acquire => 1
  | .locked => 2
  | .hold => 3
  | .range => 4

def Sluice.cfgView (x : Sluice) : Nat := if x.st = .off then 0 else x.bw * 32 + x.filt * 16 + x.dst * 4 + x.src
def Sluice.statView (x : Sluice) : Nat := ofS 16 (max (-32768) (min 32767 x.phase)) * 2 ^ 16 + x.st.num

/-! ## Cistern (R236 to R250) -/

def Block.cstStatView (b : Block) : Nat :=
  let c := b.cst
  b2n c.drain.isSome * 2 ^ 24 + min 64 c.wrq.length * 2 ^ 16 + min 64 c.rdq.length * 2 ^ 8 + b2n c.ecc * 2 ^ 7 + c.set * 2 ^ 6 +
  c.rate * 16 + c.st

def Block.cstBudgetView (b : Block) : Nat := if b.cst.st = 2 then cstBudget b.cst.ecc b.cst.rate / 1000000 else 0
def Block.cstDemandView (b : Block) : Nat := up16 b.rsvSum 100000000 * 2 ^ 16 + up16 b.forceDemand 100000000

/-! ## Ports and flows (R258, R268, R290, R300) -/

/-- A receive-queue register with FILL. -/
def Block.rxqView (b : Block) (p q : Nat) : Nat :=
  setFld (b.reg (portBase p + 0x40 + 4 * q)) 16 9 (ceilDiv (rxUsed (b.rxq p q)) 1024)

/-- The items of the flow engine alone: what delay staging takes comes off the share (R210, R300). -/
def Block.flwMemView (b : Block) : Nat :=
  match b.stg.force with
  | none => 0
  | some d =>
    match sysShare d b.fB with
    | .error _ => 0
    | .ok (sh, spilled) =>
      let delay := ((below 2).flatMap (fun m => delayItems (draftSpb d (b.fB / 4) m) (d.deck m))).map (·.1)
      let spill := ((d.skins.filter (fun k => spilled.contains k.inst)).map (rxBufBytes d b.fB)).sum
      up16 spill 65536 * 2 ^ 16 + up16 (sh.used.sum - delay.sum) 1024

def Block.rxStatView (b : Block) (i : Nat) : Nat :=
  let x := b.rxs i
  b2n x.bUp * 32 + b2n x.aUp * 16 + b2n x.spill * 8 + x.st

/-- FLW_TX_STAT of transmit skein 128 + j. -/
def Block.txStatView (b : Block) (j : Nat) : Nat :=
  let x := b.txs j
  match b.skein? j with
  | none => 0
  | some (k, _, _) =>
    if !x.run then 0
    else
      x.seq % 65536 * 2 ^ 16 + b2n (k.portB != 0xFF && (pathMac k.af k.dstB x.hopB).isSome) * 32 +
      b2n (pathMac k.af k.dstA x.hopA).isSome * 16 + b2n (b.drives && !b.loom.stopped) * 8 + b2n (b.laneMuted k.firstLane) * 4 + 1

/-! ## Time (R306, R310, R311, R316, R322) -/

def Block.tsuStatView (b : Block) : Nat :=
  b2n (b.tsu.rem != 0 && !b.tsu.realign) * 8 + b2n b.tsu.realign * 4 + b2n (decide (0 < b.tsu.slewCnt)) * 2 + b2n b.tsu.step.isSome

def Block.txsInfoView (b : Block) : Nat :=
  (b.tsu.txs.head?).elim 0 (fun e => 2 ^ 31 + e.port * 2 ^ 24 + stampSub e.stamp * 2 ^ 20 + e.type % 16 * 2 ^ 16 + e.seq % 65536)

def Block.txsSecView (b : Block) : Nat := (b.tsu.txs.head?).elim 0 (fun e => stampSec e.stamp % 2 ^ 32)
def Block.cap (b : Block) (n : Nat) : Cap := tget {} b.tsu.caps n
def Cap.infoView (c : Cap) : Nat := (c.fifo.head?).elim 0 (fun e => 2 ^ 31 + b2n e.2 * 2 ^ 30 + stampSub e.1)
def Cap.secView (c : Cap) : Nat := (c.fifo.head?).elim 0 (fun e => stampSec e.1 % 2 ^ 32)

/-! ## Wellhead (R332 to R353) -/

def Block.wlhStatView (b : Block) : Nat :=
  let w := b.wlh
  b2n w.holdExpired * 2 ^ 13 + b2n w.disagree * 2 ^ 12 + b2n w.xoLost * 2 ^ 11 + b2n w.pllLock * 2 ^ 10 + w.family * 2 ^ 8 +
  w.sel.getD 15 * 16 + w.st

def Block.candStatView (b : Block) (c : Nat) : Nat :=
  b.candLevel c * 2 ^ 16 + (b.candFam c).getD 0 * 2 ^ 12 + b2n (b.candStale c) * 2 ^ 11 + b2n (b.cand c).disagree * 2 ^ 10 +
  b2n (b.wlh.sel == some c) * 2 ^ 9 + b2n (b.eligible c) * 2 ^ 8 + (b.cand c).st

def Block.qlStatView (b : Block) (n : Nat) : Nat :=
  let q := b.ql n
  q.badCode * 2 ^ 24 + q.seq % 256 * 2 ^ 16 + q.flags % 256 * 2 ^ 8 + b2n (q.stale || decide (q.good < 2)) * 2 ^ 7 + q.level

def sat32 (x : Int) : Nat := ofS 32 (satS 32 x)

def Block.holdErrView (b : Block) : Nat :=
  min 0xFFFFFFFF (roundView Reg.WLH_HOLD_ERR ((b.wlh.holdE : Rat) / (2 ^ 16 * 864000))).toNat

/-! ## Pairing (R390, R397, R402) -/

def Block.parStatView (b : Block) : Nat :=
  b2n b.twinReady * 2 ^ 15 + b2n b.parReady * 2 ^ 14 + b2n b.par.peer * 2 ^ 13 + b2n b.sys.side * 2 ^ 12 + b2n b.shut * 2 ^ 11 +
  b2n b.gwUp * 2 ^ 8 + bitsOf 2 (fun l => (b.gwLane l).up) * 2 ^ 6 + b.par.st

def Block.parLeaseView (b : Block) : Nat := if b.par.st = 2 ∨ b.par.st = 3 then b.par.e else b.par.g

/-! ## The views by offset -/

/-- Views at evenly spaced offsets: base, stride, count, and the value of each. -/
structure View where
  base : Nat
  stride : Nat := 4
  count : Nat := 1
  val : Block → Nat → Nat

def sysViews : List View := [
  ⟨Reg.SYS_DFT_STAT, 4, 1, fun b _ => b.dftStatView⟩, ⟨Reg.SYS_DFT_ERR_TAG, 4, 1, fun b _ => b.stg.errTag⟩,
  ⟨Reg.SYS_DFT_ERR_OFS, 4, 1, fun b _ => b.stg.errOfs⟩, ⟨Reg.SYS_DFT_BUF_LO, 4, 1, fun b _ => b.dftBufView % 2 ^ 32⟩,
  ⟨Reg.SYS_DFT_BUF_HI, 4, 1, fun b _ => b.dftBufView / 2 ^ 32⟩, ⟨Reg.SYS_DFT_PREP, 4, 1, fun b _ => b.stg.prep % 65536⟩,
  ⟨Reg.SYS_BLK_LO, 4, 1, fun b _ => b.blk % 2 ^ 32⟩, ⟨Reg.SYS_BLK_HI, 4, 1, fun b _ => b.stg.blkHi⟩,
  ⟨Reg.SYS_FCTL, 4, 1, fun b _ => setFld (b.reg Reg.SYS_FCTL) 1 1 (b2n b.errnLow)⟩ ]

def lomViews : List View := [
  ⟨Reg.LOM_STAT, 4, 1, fun b _ => b.lomStatView⟩, ⟨Reg.LOM_DECK_F, 4, 3, fun b i => b.deckView i⟩,
  ⟨Reg.LOM_SLOTS_F, 4, 3, fun b i => b.slotsView i⟩, ⟨Reg.LOM_LOAD, 4, 1, fun b _ => b.lomLoadView⟩,
  ⟨Reg.LOM_EDIT_STAT, 4, 1, fun b _ => b.editStatView⟩,
  ⟨Reg.LOM_MTR_PK 0, 8, 512, fun b m => (tget {} b.loom.meters m).pkView⟩,
  ⟨Reg.LOM_MTR_RMS 0, 8, 512, fun b m => (tget {} b.loom.meters m).rmsView⟩ ]

def crlViews : List View := [
  ⟨Reg.CRL_STAT, 4, 1, fun b _ => b.crlStatView⟩, ⟨Reg.CRL_BOB, 4, 1, fun b _ => b.crlBobView⟩,
  ⟨Reg.CRL_LOAD 0, 4, 64, Block.crlLoadView⟩, ⟨Reg.CRL_MEM 0, 4, 64, Block.crlMemView⟩,
  ⟨Reg.CRL_PROG 0, 4, 64, fun b s => usedProg b.occ s⟩, ⟨Reg.CRL_BSN_FREE 0, 4, 8, Block.crlFreeView⟩,
  ⟨Reg.CRL_KMAP 0, 4, 2048, Block.kmapView⟩ ]

def sluViews : List View := [
  ⟨Reg.SLU_ACT 0, 4, 8, fun b i => bitsOf 32 (fun k => (b.slu (32 * i + k)).st != .off)⟩,
  ⟨Reg.SLU_LOCKED 0, 4, 8, fun b i => bitsOf 32 (fun k => (b.slu (32 * i + k)).st == .locked)⟩,
  ⟨Reg.SLU_CFG 0, 16, 256, fun b n => (b.slu n).cfgView⟩, ⟨Reg.SLU_STAT 0, 16, 256, fun b n => (b.slu n).statView⟩,
  ⟨Reg.SLU_RATIO 0, 16, 256, fun b n => (b.slu n).ratio % 2 ^ 32⟩ ]

def cstViews : List View := [
  ⟨Reg.CST_RSV_WPTR 0, 32, 8, fun b n => b.rsvShown n⟩, ⟨Reg.CST_STAT, 4, 1, fun b _ => b.cstStatView⟩, ⟨Reg.CST_BUDGET, 4, 1, fun b _ => b.cstBudgetView⟩,
  ⟨Reg.CST_DEMAND, 4, 1, fun b _ => b.cstDemandView⟩ ]

def flwViews : List View := [
  ⟨Reg.FLW_MEM, 4, 1, fun b _ => b.flwMemView⟩, ⟨Reg.FLW_RX_STAT 0, 64, 128, Block.rxStatView⟩,
  ⟨Reg.FLW_RX_SSRC 0, 64, 128, fun b i => (b.rxs i).ssrc.getD 0⟩,
  ⟨Reg.FLW_TX_STAT 0, 32, 128, fun b j => b.txStatView (128 + j)⟩,
  ⟨Reg.FLW_TX_RTP 0, 32, 128, fun b j => (b.txs (128 + j)).rtp⟩ ]

def tsuViews : List View := [
  ⟨Reg.TSU_NOW_NS, 4, 1, fun b _ => b.tsu.ns⟩, ⟨Reg.TSU_STAT, 4, 1, fun b _ => b.tsuStatView⟩,
  ⟨Reg.TSU_ADJ_CNT, 4, 1, fun b _ => b.tsu.slewCnt⟩,
  ⟨Reg.TSU_TXS_INFO, 4, 1, fun b _ => b.txsInfoView⟩, ⟨Reg.TSU_TXS_SEC, 4, 1, fun b _ => b.txsSecView⟩,
  ⟨Reg.TSU_TXS_NS, 4, 1, fun b _ => b.txsNs⟩,
  ⟨Reg.TSU_CAP_CTRL 0, 16, 8, fun b n => setFld (b.reg (Reg.TSU_CAP_CTRL n)) 8 5 (b.cap n).fifo.length⟩,
  ⟨Reg.TSU_CAP_INFO 0, 16, 8, fun b n => (b.cap n).infoView⟩, ⟨Reg.TSU_CAP_SEC 0, 16, 8, fun b n => (b.cap n).secView⟩,
  ⟨Reg.TSU_CAP_NS 0, 16, 8, Block.capNs⟩ ]

def wlhViews : List View := [
  ⟨Reg.WLH_CAND_CFG 11, 4, 1, fun _ _ => 0xFF⟩, ⟨Reg.WLH_STAT, 4, 1, fun b _ => b.wlhStatView⟩, ⟨Reg.WLH_XO_EST, 4, 1, fun b _ => sat32 b.wlh.eXo⟩,
  ⟨Reg.WLH_HOLD_ERR, 4, 1, fun b _ => b.holdErrView⟩, ⟨Reg.WLH_HOLD_TIME, 4, 1, fun b _ => b.wlh.holdK % 2 ^ 32⟩,
  ⟨Reg.WLH_CAND_STAT 0, 32, 12, Block.candStatView⟩, ⟨Reg.WLH_CAND_OFS1 0, 32, 12, fun b c => sat32 (b.cand c).y1⟩,
  ⟨Reg.WLH_CAND_OFS16 0, 32, 12, fun b c => sat32 (b.cand c).y16⟩, ⟨Reg.WLH_CAND_OFS256 0, 32, 12, fun b c => sat32 (b.cand c).y256⟩,
  ⟨Reg.WLH_QL_STAT 0, 16, 4, Block.qlStatView⟩,
  ⟨Reg.WLH_WCKO_CTRL 0, 16, 4, fun b n => setFld (b.reg (Reg.WLH_WCKO_CTRL n)) 25 1 (b2n (b.wcko n).idle)⟩ ]

def audViews : List View := [
  ⟨Reg.RIL_HANK_STAT 0, 16, 6, Block.hankStatView⟩, ⟨Reg.RIL_STAT 0, 32, 48, Block.rilStatView⟩,
  ⟨Reg.JET_BANK_STAT 0, 16, 4, Block.bankStatView⟩, ⟨Reg.JET_STAT 0, 64, 32, Block.jetStatView⟩,
  ⟨Reg.JET_GAIN 0, 64, 32, Block.jetGainView⟩, ⟨Reg.JET_GAINS 0, 64, 32, Block.jetGainsView⟩,
  ⟨Reg.JET_TEMP 0, 64, 32, Block.jetTempView⟩, ⟨Reg.JET_RE 0, 64, 32, Block.jetReView⟩,
  ⟨Reg.SNS_LIVE_LO, 4, 1, fun b _ => b.liveView 0 32⟩, ⟨Reg.SNS_LIVE_HI, 4, 1, fun b _ => b.liveView 32 32⟩,
  ⟨Reg.SNS_BUS_LIVE, 4, 1, fun b _ => b.liveView 64 8⟩ ]

def hstViews : List View := [
  ⟨Reg.HST_ISTAT, 4, 1, fun b _ => bitsOf 32 b.asserted⟩,
  ⟨0x728000, 4, 256, fun b i => let w := (tget 0 b.sys.msix i).toNat; if i % 4 = 3 then 1 - w % 2 else w⟩,
  ⟨0x729000, 4, 2, fun b i => bitsOf 32 (fun v => b.sys.pba.contains (32 * i + v))⟩,
  ⟨Reg.MBX_STRAP, 4, 1, fun b _ => b2n b.sys.draftEn⟩,
  ⟨Reg.PAR_STAT, 4, 1, fun b _ => b.parStatView⟩, ⟨Reg.PAR_LEASE_LO, 4, 1, fun b _ => b.parLeaseView % 2 ^ 32⟩,
  ⟨Reg.PAR_LEASE_HI, 4, 1, fun b _ => b.parLeaseView / 2 ^ 32⟩,
  ⟨Reg.FWD_TBL_CMD, 4, 1, fun b _ => setFld (b.reg Reg.FWD_TBL_CMD) 31 1 (b2n b.net.tbl.isSome)⟩,
  ⟨Reg.FWD_STAT, 4, 1, fun b _ => setFld (b.reg Reg.FWD_STAT) 16 13 (b.net.fwd.filter (fun e => e.2.valid)).length⟩ ]

/-- The views of a page of register space. -/
def pageViews (k : Blk) (i : Nat) : List View :=
  match k with
  | .sys => sysViews
  | .spn => ⟨Reg.SPN_BSTAT i, 4, 1, fun b _ => b.bstatView i⟩ ::
      (below 8).flatMap (fun s => [⟨Reg.SPN_SSTAT i s, 4, 1, fun b _ => b.sstatView (8 * i + s)⟩,
        ⟨Reg.SPN_PC i s, 4, 1, fun b _ => (b.spn (8 * i + s)).pc % 4096⟩])
  | .lom => lomViews
  | .crl => crlViews
  | .slu => sluViews
  | .cst => cstViews
  | .net => [⟨blkBase .net i + 0x40, 4, 8, fun b q => b.rxqView i q⟩]
  | .ctl => [⟨blkBase .ctl 0 + 0x40, 4, 4, fun b q => b.rxqView 4 q⟩]
  | .flw => flwViews
  | .tsu => tsuViews
  | .wlh => wlhViews
  | .ril | .jet | .sns => audViews
  | .hst | .mbx | .par | .fwd => hstViews
  | .fbs => [⟨Reg.FBS_SEED, 4, 1, fun b _ => b.lfsr⟩]
  | .pwr | .mtx | .bsn => []

/-- The view at an offset, if that register has one. -/
def viewAt (a : Nat) : Option (Block → Nat) :=
  (pageBlk (a / 65536)).bind (fun p => (pageViews p.1 p.2).findSome? (fun v =>
    if v.base ≤ a ∧ (a - v.base) % v.stride = 0 ∧ (a - v.base) / v.stride < v.count then
      some (fun b => v.val b ((a - v.base) / v.stride))
    else none))

/-- What a read of the register at an offset returns, its write-only bits 0; the semaphores lie outside the block
(R7, R448). -/
def Block.view (b : Block) (a : Nat) : Nat :=
  match fltSrc a with
  | some (k, 0) => fltWord (b.frec k)
  | some (k, _) => (b.frec k).blk
  | none =>
    match viewAt a with
    | some f => f b
    | none => b.reg a

end Sys2Proof.Machine
end

