-- ==== Sys2Proof/Machine/RegWrite.lean ====
section
/-! DEFINITION. What a write of each register does (R7, R9, R10, and the register tables of spec/). A register with no rule
here takes a write under its access types alone. -/

namespace Sys2Proof.Machine

/-- A write of a register: the master, the register's offset in register space, its index in its array, the value. -/
structure Wr where
  m : Nat
  a : Nat
  i : Nat
  v : Nat

/-- What a write does to the registers at evenly spaced offsets. -/
structure WriteRule where
  base : Nat
  stride : Nat := 4
  count : Nat := 1
  act : Wr → Block → Block

/-! ## Shapes of rules -/

/-- A write under the access types of R7: RW bits take the value, W1C bits written 1 clear, W1S bits written 1 set; write-only,
reserved and read-only bits stay as they are. -/
def accessWord (r : RegRow) (old v : Nat) : Nat :=
  let x := (old ^^^ (old &&& r.rw)) ||| (v &&& r.rw)
  (x ^^^ (x &&& (v &&& r.w1c))) ||| (v &&& r.w1s)

def Block.plainWrite (a v : Nat) (b : Block) : Block :=
  match regRow a with
  | none => b
  | some r => b.setReg a (accessWord r (b.reg a) v)

/-- A plain write. -/
def plain : Wr → Block → Block := fun x b => b.plainWrite x.a x.v

/-- A write whose value is first limited to some bits. -/
def plainBits (mask : Nat) : Wr → Block → Block := fun x b => b.plainWrite x.a (x.v &&& mask)

/-- A write with an effect of its own. -/
def act (f : Nat → Nat → Block → Block) : Wr → Block → Block := fun x b => f x.i x.v b

/-- A write accepted from some masters only; MTX records any other (R457). -/
def onlyFrom (ok : Nat → Bool) (f : Wr → Block → Block) : Wr → Block → Block :=
  fun x b => if ok x.m then f x b else b.mtxFault mtxDENIED x.m (regBase + x.a) true

/-- A plain write but for a field that a reserved value leaves as it was (R10). -/
def keepField (lo n : Nat) (ok : Nat → Bool) (x : Wr) (b : Block) : Wr :=
  if ok (fld x.v lo n) then x else { x with v := setFld x.v lo n (b.rfld x.a lo n) }

def isFw (m : Nat) : Bool := m == 13 || m == 14

/-- An offset that the manual does not assign ignores writes, and records no fault (R9). -/
def assigned (f : Wr → Block → Block) : Wr → Block → Block := fun x b => if (regRow x.a).isSome then f x b else b

/-- A register that is written only while its register of control has EN = 0, `back` below it. -/
def whileOff (ctrl : Nat → Nat) (mask : Nat) : Wr → Block → Block :=
  fun x b => if b.rbit (ctrl x.i) 0 then b else b.plainWrite x.a (x.v &&& mask)

/-! ## SYS, PWR, BSN, SPN -/

/-- SYS_REMAP (R446). -/
def Block.remapWrite (m v : Nat) (b : Block) : Block :=
  if isFw m then (if bit v 0 then b.setReg Reg.SYS_REMAP 1 else b) else b.mtxFault mtxDENIED m (regBase + Reg.SYS_REMAP) true

/-- The source that a master's draft commands have (R65): the host, and firmware from flash. -/
def masterSource (m : Nat) : Source := if m = 15 then .host else if isFw m then .flash else .none

def sysRules : List WriteRule := [
  ⟨Reg.SYS_REMAP, 4, 1, fun x => Block.remapWrite x.m x.v⟩, ⟨Reg.SYS_SEVER_CMD, 4, 1, fun x => Block.severKey x.m x.v⟩,
  ⟨Reg.SYS_DFT_CMD, 4, 1, fun x b => (b.dftCmd (masterSource x.m) x.v).2.payOwed false⟩ ]

/-- A write of PWR_AON_SEC_HI by register access: when the next XT32 tick comes is left open (log entry 31). -/
def Block.coarseSet (v : Nat) (b : Block) : Block := let r := b.draw; r.2.coarseWrite v r.1

/-- PWR (R462, R466, R474 to R477, R481): masters 13 and 14 only, but for PWR_BOOT_LEN and PWR_BOOT_GO in WAIT_HOST. -/
def pwrRules : List WriteRule := [
  ⟨Reg.PWR_CMD, 4, 1, onlyFrom isFw (act (fun _ v b => if bit v 2 then (b.modeReq (v % 4)).2 else b))⟩,
  ⟨Reg.PWR_WAKE_BUDGET, 4, 1, onlyFrom isFw (act (fun _ => Block.budgetWrite))⟩,
  ⟨Reg.PWR_AON_SEC_LO, 4, 1, onlyFrom isFw (act (fun _ v b => b.setSys (fun s => { s with coarseLo := v })))⟩,
  ⟨Reg.PWR_AON_SEC_HI, 4, 1, onlyFrom isFw (act (fun _ => Block.coarseSet))⟩,
  ⟨Reg.PWR_AON_SUB, 4, 1, onlyFrom isFw (act (fun _ v b => b.setSys (fun s => { s with coarseSub := v })))⟩,
  ⟨Reg.PWR_WDOG, 4, 1, onlyFrom isFw (act (fun _ => Block.wdogWrite))⟩,
  ⟨Reg.PWR_WDOG_KICK, 4, 1, onlyFrom isFw (act (fun _ _ => Block.wdogKick))⟩,
  ⟨Reg.PWR_BOOT_LEN, 4, 1, fun x b => onlyFrom (fun m => isFw m || (m == 15 && b.bootSt == btHOST)) plain x b⟩,
  ⟨Reg.PWR_BOOT_GO, 4, 1, fun x => Block.bootGo x.m x.v⟩, ⟨0x10000, 4, 0x4000, assigned (onlyFrom isFw plain)⟩ ]

def bsnRules : List WriteRule := [⟨Reg.BSN_TEST, 4, 1, onlyFrom isFw (act (fun _ => Block.bsnTest))⟩]

/-- The run-list registers of a spindle: masters 12 to 14 only (R151). -/
def spnRules (n : Nat) : List WriteRule :=
  let own := onlyFrom (fun m => m == 12 || isFw m)
  [⟨Reg.SPN_SCTRL n 0, 0x1000, 8, own plain⟩, ⟨Reg.SPN_RL_PTR n 0, 0x1000, 8, own (plainBits 0xFFFC0)⟩,
   ⟨Reg.SPN_RL_NXT n 0, 0x1000, 8, own (plainBits 0xFFFC0)⟩, ⟨Reg.SPN_RL_AT_LO n 0, 0x1000, 8, own plain⟩,
   ⟨Reg.SPN_RL_AT_HI n 0, 0x1000, 8, own plain⟩]

/-! ## LOM, CRL, SLU, CST -/

def lomRules : List WriteRule := [
  ⟨Reg.LOM_EDIT_CTRL, 4, 1, act (fun _ => Block.editCtrlWrite)⟩, ⟨Reg.LOM_EDIT_CVAL, 4, 1, act (fun _ => Block.cvalWrite)⟩,
  ⟨Reg.LOM_EDIT_CARD3, 4, 1, act (fun _ => Block.card3Write)⟩ ]

/-- CRL_CTRL: MAXMIG 9 to 15 is reserved; REPACK is a request (R219). -/
def Block.crlCtrlWrite (x : Wr) (b : Block) : Block :=
  let y := keepField 4 4 (fun n => decide (n ≤ 8)) x b
  let b1 := b.plainWrite x.a (y.v &&& 0xF1)
  if bit x.v 1 then b1.repack else b1

def Block.migCfgWrite (x : Wr) (b : Block) : Block :=
  let y := keepField 16 8 (fun n => decide (n ≠ 0)) (keepField 8 4 (fun n => decide (2 ≤ n)) (keepField 0 8 (fun n => decide (n ≠ 0)) x b) b) b
  b.plainWrite x.a y.v

def crlRules : List WriteRule := [
  ⟨Reg.CRL_CTRL, 4, 1, Block.crlCtrlWrite⟩, ⟨Reg.CRL_MIG_CFG, 4, 1, Block.migCfgWrite⟩,
  ⟨Reg.CRL_FORCE_LO, 4, 2, act Block.forceWrite⟩, ⟨Reg.CRL_RETURN_LO, 4, 2, act Block.returnWrite⟩ ]

def sluRules : List WriteRule := [⟨Reg.SLU_RESYNC 0, 4, 8, act Block.resyncWrite⟩]

/-- CST_CFG: only in OFF; CAP 3 is reserved. -/
def Block.cstCfgWrite (x : Wr) (b : Block) : Block :=
  if b.cst.st = 0 then b.plainWrite x.a (keepField 0 2 (fun n => n != 3) x b).v else b

/-- CST_WM: a pair that breaks its limits leaves the register. -/
def Block.wmWrite (x : Wr) (b : Block) : Block :=
  if fld x.v 16 7 ≤ fld x.v 0 7 ∨ 64 < fld x.v 16 7 then b else b.plainWrite x.a (keepField 16 7 (fun n => decide (2 ≤ n)) x b).v

/-- The training sets: masters 13 and 14; any other write raises REGION (R242). -/
def Block.tsetWrite (x : Wr) (b : Block) : Block :=
  if isFw x.m then (b.plainWrite x.a x.v).tsetLoad (if x.a < Reg.CST_TSET1 0 then 0 else 1) else b.cstFault 3 0 7

def Block.rsvWrite (n v : Nat) (b : Block) : Block := if bit v 16 then b.rsvStart n v else b.rsvStop n v

def cstRules : List WriteRule := [
  ⟨Reg.CST_CFG, 4, 1, Block.cstCfgWrite⟩, ⟨Reg.CST_CMD, 4, 1, act (fun _ => Block.cstCmd)⟩,
  ⟨Reg.CST_FREQ, 4, 1, fun x b => b.plainWrite x.a (keepField 0 2 (fun n => n != 3) x b).v⟩,
  ⟨Reg.CST_WM, 4, 1, Block.wmWrite⟩, ⟨Reg.CST_BANKHASH 0, 4, 5, act Block.bankhashWrite⟩,
  ⟨Reg.CST_TSET0 0, 4, 64, Block.tsetWrite⟩, ⟨Reg.CST_RSV_CTRL 0, 32, 8, act Block.rsvWrite⟩,
  ⟨Reg.CST_RSV_BASE_LO 0, 32, 8, plainBits 0xFFFFFFC0⟩, ⟨Reg.CST_RSV_BASE_HI 0, 32, 8, plainBits 0xFF⟩ ]

/-! ## The ports -/

/-- CTL_CFG and FBS_CFG: MAXLEN within its range, O, and on C0 U. -/
def Block.portCfgWrite (x : Wr) (b : Block) : Block :=
  b.plainWrite x.a (keepField 16 14 (fun n => decide (64 ≤ n) && decide (n ≤ 9600)) x b).v

def Block.matchWrite (x : Wr) (b : Block) : Block := b.plainWrite x.a (keepField 25 2 (fun n => n != 3) x b).v

def netRules (p : Nat) : List WriteRule :=
  let a := portBase p
  [⟨a, 4, 1, if p < 4 then act (fun _ => Block.netCfgWrite p) else Block.portCfgWrite⟩,
   ⟨a + 0x10, 4, 1, act (fun _ => Block.txThrWrite p)⟩, ⟨a + 0x1C, 4, 1, plainBits 0xFFFF⟩,
   ⟨a + 0x40, 4, rxQueues p, act (Block.rxqWrite p)⟩, ⟨a + 0x100, 8, 64, Block.matchWrite⟩]

def fwdRules : List WriteRule := [⟨Reg.FWD_TBL_CMD, 4, 1, act (fun _ => Block.tblCmd)⟩]

def fbsRules : List WriteRule := [
  ⟨Reg.FBS_CFG, 4, 1, Block.portCfgWrite⟩, ⟨Reg.FBS_MAC_HI, 4, 1, plainBits 0xFFFF⟩,
  ⟨Reg.FBS_SEED, 4, 1, fun x => Block.seedWrite x.v⟩, ⟨Reg.FBS_MDIO, 4, 1, act (fun _ => Block.mdioWrite)⟩ ]

/-! ## TSU, WLH -/

/-- The registers of R307, and those of spouts and windows that hold still while EN = 1 (R320, R323). -/
def tsuRules : List WriteRule := [
  ⟨Reg.TSU_INCR_HI, 4, 1, fun x b => b.timeMaster x.m x.a (Block.incrWrite x.v)⟩,
  ⟨Reg.TSU_ADJ_CNT, 4, 1, fun x b => b.timeMaster x.m x.a (Block.slewWrite x.v)⟩,
  ⟨Reg.TSU_STEP_CMD, 4, 1, fun x b => b.timeMaster x.m x.a (Block.stepWrite x.v)⟩,
  ⟨Reg.TSU_INCR_LO, 4, 1, onlyFrom isFw plain⟩, ⟨Reg.TSU_ADJ_FRAC, 4, 1, onlyFrom isFw plain⟩,
  ⟨Reg.TSU_STEP_SEC, 4, 2, onlyFrom isFw plain⟩, ⟨Reg.TSU_JUMP_LIM, 4, 1, onlyFrom isFw plain⟩,
  ⟨Reg.TSU_SPT_CTRL 0, 32, 8, act Block.spoutWrite⟩, ⟨Reg.TSU_SPT_SEC 0, 32, 8, whileOff Reg.TSU_SPT_CTRL 0xFFFFFFFF⟩,
  ⟨Reg.TSU_SPT_NS 0, 32, 8, whileOff Reg.TSU_SPT_CTRL 0x3FFFFFFF⟩, ⟨Reg.TSU_SPT_PER_NS 0, 32, 8, whileOff Reg.TSU_SPT_CTRL 0x3FFFFFFF⟩,
  ⟨Reg.TSU_SPT_PER_FRAC 0, 32, 8, whileOff Reg.TSU_SPT_CTRL 0xFFFFFFFF⟩, ⟨Reg.TSU_WIN_CTRL 0, 32, 16, act Block.winWrite⟩,
  ⟨Reg.TSU_WIN_OPEN_SEC 0, 32, 16, whileOff Reg.TSU_WIN_CTRL 0xFFFFFFFF⟩, ⟨Reg.TSU_WIN_OPEN_NS 0, 32, 16, whileOff Reg.TSU_WIN_CTRL 0x3FFFFFFF⟩,
  ⟨Reg.TSU_WIN_CLOSE_SEC 0, 32, 16, whileOff Reg.TSU_WIN_CTRL 0xFFFFFFFF⟩, ⟨Reg.TSU_WIN_CLOSE_NS 0, 32, 16, whileOff Reg.TSU_WIN_CTRL 0x3FFFFFFF⟩ ]

def wlhRules : List WriteRule := [
  ⟨Reg.WLH_CTRL, 4, 1, act (fun _ => Block.wlhCtrlWrite)⟩, ⟨Reg.WLH_TOL, 4, 5, fun x => Block.wlhRangeWrite x.a x.v⟩,
  ⟨Reg.WLH_CAND_CFG 0, 32, 12, act Block.candCfgWrite⟩, ⟨Reg.WLH_WCKO_CTRL 0, 16, 4, act Block.wckoWrite⟩,
  ⟨Reg.WLH_WCKO_OFS 0, 16, 4, act Block.wckoOfsWrite⟩ ]

/-! ## RIL, JET, SNS -/

def rilRules : List WriteRule := [
  ⟨Reg.RIL_HANK_MASK 0, 16, 6, act Block.maskWrite⟩, ⟨Reg.RIL_CMD 0, 32, 48, act Block.rillRearm⟩ ]

def jetRules : List WriteRule := [
  ⟨Reg.JET_BANK_CMD 0, 16, 4, act Block.bankCmd⟩, ⟨Reg.JET_CMD 0, 64, 32, act Block.jetRestart⟩,
  ⟨Reg.JET_STAGE_T 0, 64, 32, fun x => Block.stageTempWrite x.m x.i x.v⟩ ]

def snsRules : List WriteRule := [
  ⟨Reg.SNS_BUS_FS 0, 8, 8, fun x b => if x.v % 65536 = 0 then b else b.plainWrite x.a x.v⟩ ]

/-! ## HST, MBX, PAR (R415, R424, R426, R428 to R430) -/

/-- The vectors that a write of HST_IACK_LO (`i` = 0) or HST_IACK_HI names. -/
def ackVectors (i v : Nat) : List Nat := ((below 32).filter (bit v)).map (· + 32 * i)

def hstRules : List WriteRule :=
  [⟨Reg.HST_IACK_LO, 4, 2, act (fun i v => Block.rearm (ackVectors i v))⟩, ⟨0x728000, 4, 256, act Block.msixWrite⟩] ++
  [false, true].flatMap (fun tx => (below 6).map (fun j =>
    ⟨ringReg tx 0 (4 * j), 0x20, 5, act (fun p => Block.ringWrite tx p (4 * j))⟩))

/-- MBX_PRIV (R415): a field above its port's ceiling stays as it was. -/
def Block.privWrite (m v : Nat) (b : Block) : Block :=
  if isFw m || (m == 15 && b.level 0 == 3) then
    b.setReg Reg.MBX_PRIV ((below 8).map (fun p =>
      (if fld v (2 * p) 2 ≤ levelCeil p then fld v (2 * p) 2 else b.level p) * 4 ^ p)).sum
  else b.violate (if m = 11 then 1 else 0) 0x10 4 0 Reg.MBX_PRIV 0

/-- The master that sends through a mailbox, and the one that receives; 16 for the twin (R427, R428). -/
def sendMaster (n : Nat) : Nat := (mbxSender n).elim 11 mbxMaster
def recvMaster (n : Nat) : Nat := (mbxReceiver n).elim 16 mbxMaster

/-- A receiver takes a mailbox's message; firmware reads it as a request or an answer (R429, R432). -/
def Block.takeMail (n : Nat) (b : Block) : Block :=
  let fw := b.sys.firmware && (decide (n < 8) || n == 16 || n == 17) && b.mbxState n == 1
  let b1 := b.mbxTake n
  (if fw then b1.mbxRequest n else b1).mbxFlush

/-- MBX_DATA: the sender, and not while BUSY. -/
def Block.mbxDataWrite (n : Nat) (x : Wr) (b : Block) : Block :=
  if x.m ≠ sendMaster n then b.mtxFault mtxDENIED x.m (regBase + x.a) true
  else if b.mbxState n = 1 then b else b.setReg x.a x.v

/-- MBX_CTRL: the sender's LEN, BELL and GO; the receiver's TAKE. -/
def Block.mbxCtrlWrite (n : Nat) (x : Wr) (b : Block) : Block :=
  if x.m = sendMaster n ∧ !bit x.v 20 then
    let c := if bit x.v 24 then setFld (b.reg x.a) 24 1 0 else b.reg x.a
    let bell := if 16 ≤ n ∧ n < 20 then n else fld x.v 8 5
    let w := if b.mbxState n = 1 then c else setFld (setFld c 0 5 (fld x.v 0 5)) 8 5 bell
    let b1 := b.setReg x.a w
    if bit x.v 31 then b1.mbxGo n else b1
  else if x.m = recvMaster n ∧ bit x.v 20 then b.takeMail n
  else b.mtxFault mtxDENIED x.m (regBase + x.a) true

/-- A write of a mailbox: 0x80 bytes each from 0x731000. -/
def Block.mbxWrite (x : Wr) (b : Block) : Block :=
  let n := x.i / 32
  if x.i % 32 < 16 then b.mbxDataWrite n x else if x.i % 32 = 16 then b.mbxCtrlWrite n x else b

def mbxRules : List WriteRule := [
  ⟨Reg.MBX_PRIV, 4, 1, fun x => Block.privWrite x.m x.v⟩,
  ⟨Reg.MBX_DB_SET 0, 32, 3, onlyFrom (fun m => isFw m || m == 15) (act Block.doorbell)⟩,
  ⟨Reg.MBX_DATA 0 0, 4, 1024, Block.mbxWrite⟩ ]

/-- A change of HIZ shows at once on the balls of a unit that does not drive (R405). -/
def Block.parCfgWrite (v : Nat) (b : Block) : Block :=
  let b1 := b.plainWrite Reg.PAR_CFG v
  if b1.rbit Reg.PAR_CFG 1 = b.rbit Reg.PAR_CFG 1 then b1 else b1.fenceCheck

def parRules : List WriteRule := [⟨Reg.PAR_CMD, 4, 1, act (fun _ => Block.parCmd)⟩, ⟨Reg.PAR_CFG, 4, 1, act (fun _ => Block.parCfgWrite)⟩]

/-! ## The whole of it -/

/-- The write rules of a page of register space. -/
def pageRules (k : Blk) (i : Nat) : List WriteRule :=
  match k with
  | .sys => sysRules
  | .pwr => pwrRules
  | .bsn => bsnRules
  | .spn => spnRules i
  | .lom => lomRules
  | .crl => crlRules
  | .slu => sluRules
  | .cst => cstRules
  | .net => netRules i
  | .ctl => netRules 4
  | .fwd => fwdRules
  | .fbs => fbsRules
  | .tsu => tsuRules
  | .wlh => wlhRules
  | .ril => rilRules
  | .jet => jetRules
  | .sns => snsRules
  | .hst => hstRules
  | .mbx => mbxRules
  | .par => parRules
  | .mtx | .flw => []

/-- The effect of a write of the register at an offset, on an island that is up. -/
def Block.regWrite (m a v : Nat) (b : Block) : Block :=
  match fltSrc a with
  | some (k, 0) => if (m = 13 ∨ m = 14 ∨ k ≠ srcPWR) then (if bit v 1 then b.ack k else b) else b.mtxFault mtxDENIED m (regBase + a) true
  | some _ => b
  | none =>
    let rules := (pageBlk (a / 65536)).elim [] (fun p => pageRules p.1 p.2)
    match rules.find? (fun r => decide (r.base ≤ a) && (a - r.base) % r.stride == 0 && decide ((a - r.base) / r.stride < r.count)) with
    | some r => r.act ⟨m, a, (a - r.base) / r.stride, v % 2 ^ 32⟩ b
    | none => b.plainWrite a (v % 2 ^ 32)

end Sys2Proof.Machine
end

