-- ==== Sys2Proof/Machine/RegIo.lean ====
section
/-! DEFINITION. Register accesses by a master (R7, R11, R15, R25, R421, R428, R445 to R448): the order of the checks, what a
read changes, and the semaphores. -/

namespace Sys2Proof.Machine

/-! ## Semaphores (R448) -/

/-- The semaphore at an offset. -/
def semAt (a : Nat) : Option Nat := if 0x200 ≤ a ∧ a < 0x300 then some ((a - 0x200) / 4) else none

/-- A read: a free semaphore is acquired and reads 0; a held one names its holder. -/
def State.semRead (m i : Nat) (s : State) : Nat × State :=
  if tget 0 s.sems i = 0 then (0, { s with sems := tput 0 i (m + 1) s.sems })
  else (0x80000000 + (tget 0 s.sems i - 1), s)

/-- A write: 0 by the holder releases; MTX records any other. -/
def State.semWrite (m i v : Nat) (s : State) : State :=
  if v = 0 ∧ tget 0 s.sems i = m + 1 then { s with sems := tput 0 i 0 s.sems }
  else s.mapBlk (fun b => b.mtxFault mtxSEM m (regBase + 0x200 + 4 * i) true)

/-! ## Reads -/

/-- Every RC field of a register returns to its reset value (R7, R11). -/
def Block.rcClear (a : Nat) (b : Block) : Block :=
  match regRow a with
  | none => b
  | some r =>
    if r.rc = 0 then b
    else
      let old := b.reg a
      b.setReg a ((old ^^^ (old &&& r.rc)) ||| ((regReset a).toNat &&& r.rc))

/-- A register of a mailbox, and whether a master may read it: its sender and its receiver (R428). -/
def mailAt (a : Nat) : Option Nat := if 0x731000 ≤ a ∧ a < 0x732000 then some ((a - 0x731000) / 0x80) else none
def mayReadMail (m a : Nat) : Bool := (mailAt a).elim true (fun n => m == sendMaster n || m == recvMaster n)

/-- The index of an offset among evenly spaced ones. -/
def arrAt (base stride count a : Nat) : Option Nat :=
  if base ≤ a ∧ (a - base) % stride = 0 ∧ (a - base) / stride < count then some ((a - base) / stride) else none

/-- What a read changes (R68, R145, R308, R316, R322, R474). -/
def Block.readEffect (a : Nat) (b : Block) : Block :=
  if a = Reg.SYS_BLK_LO then b.setStg (fun g => { g with blkHi := b.blk / 2 ^ 32 % 2 ^ 32 })
  else if a = Reg.TSU_NOW_NS then b.nowLatch
  else if a = Reg.TSU_TXS_NS then b.txsPop
  else match arrAt (Reg.TSU_CAP_NS 0) 16 8 a with
    | some n => b.capPop n
    | none => (arrAt (Reg.LOM_MTR_PK 0) 8 512 a).elim (b.rcClear a) (fun n => b.peakRestart n)

/-- The value of a read and what it leaves; the phase of XT32 is left open (R474, log entry 31). -/
def Block.regRead (a : Nat) (b : Block) : Nat × Block :=
  if a = Reg.PWR_AON_SUB then
    let r := b.draw
    let b1 := r.2.coarseLatch r.1
    (b1.reg a, b1)
  else (b.view a, b.readEffect a)

/-- SYS_SEM_HELD_LO (`i` = 0) and HI. -/
def State.semHeld (s : State) (i : Nat) : Nat := bitsOf 32 (fun k => tget 0 s.sems (32 * i + k) != 0)

/-- A read by master m of the register at an offset, a multiple of 4. -/
def State.readReg (m a : Nat) (s : State) : Nat × State :=
  match pageBlk (a / 65536) with
  | none => (0, s.mapBlk (fun b => b.mtxFault mtxUNMAPPED m (regBase + a) false))
  | some _ =>
    if s.blk.islandOff a then (0, s.mapBlk (fun b => b.mtxFault mtxOFF m (regBase + a) false))
    else if a = Reg.SYS_SEM_HELD_LO then (s.semHeld 0, s)
    else if a = Reg.SYS_SEM_HELD_HI then (s.semHeld 1, s)
    else if !mayReadMail m a then (0, s)
    else match semAt a with
      | some i => s.semRead m i
      | none => ((s.blk.regRead a).1, { s with blk := (s.blk.regRead a).2 })

/-! ## Writes -/

/-- A write by master m of the register at an offset, a multiple of 4. -/
def State.writeReg (m a v : Nat) (s : State) : State :=
  match pageBlk (a / 65536) with
  | none => s.mapBlk (fun b => b.mtxFault mtxUNMAPPED m (regBase + a) true)
  | some _ =>
    if s.blk.islandOff a then s.mapBlk (fun b => b.mtxFault mtxOFF m (regBase + a) true)
    else match semAt a with
      | some i => s.semWrite m i (v % 2 ^ 32)
      | none =>
        if a = Reg.PWR_BLK_RST ∧ isFw m then s.blkRst (v % 64)
        else if a = Reg.PWR_CMD ∧ isFw m ∧ bit v 3 then s.devReset 2
        else s.mapBlk (fun b => b.regWrite m a v)

/-! ## The host's levels (R421) and the reach of the masters (R445) -/

/-- Whether a mailbox or doorbell register is one that master 15 may write. -/
def hostMail (a : Nat) : Bool :=
  (mailAt a).any (fun n => sendMaster n == 15 || recvMaster n == 15) ||
  (arrAt (Reg.MBX_DB_SET 0) 32 3 a).isSome ||
  [Reg.MBX_DB 2, Reg.MBX_DB_EN 2, Reg.MBX_EVT 2, Reg.MBX_EVT_EN 2].contains a

/-- Whether a write through BAR0 is permitted. MBX_PRIV refuses a write under R415 itself. -/
def hostMayWrite (level a : Nat) : Bool :=
  level == 3 || a / 65536 == 0x72 || a == Reg.MBX_PRIV || (decide (1 ≤ level) && hostMail a) ||
  (level == 2 && decide (0x200040 ≤ a) && decide (a ≤ 0x20006C))

/-- Whether a read through BAR0 is permitted. -/
def hostMayRead (level a : Nat) : Bool := decide (2 ≤ level) || a / 65536 == 0x72 || (level == 1 && !regRC a)

/-- Whether a master reaches a register (R445). -/
def reachesReg (m a : Nat) : Bool :=
  match m with
  | 11 => a / 65536 == 0x73
  | 12 => decide (0x10 ≤ a / 65536) && decide (a / 65536 < 0x18)
  | 13 | 14 | 15 => true
  | _ => false

/-- A register read at the matrix. -/
def State.busRead (m a : Nat) (s : State) : Nat × State :=
  if !reachesReg m a then (0, s.mapBlk (fun b => b.mtxFault mtxREACH m (regBase + a) false))
  else if m = 15 ∧ !hostMayRead (s.blk.level 0) a then (0, s.mapBlk (fun b => b.violate 0 0x10 2 0 a 0))
  else s.readReg m a

/-- A register write at the matrix. -/
def State.busWrite (m a v : Nat) (s : State) : State :=
  if !reachesReg m a then s.mapBlk (fun b => b.mtxFault mtxREACH m (regBase + a) true)
  else if m = 15 ∧ !hostMayWrite (s.blk.level 0) a then s.mapBlk (fun b => b.violate 0 0x10 3 0 a 0)
  else s.writeReg m a v

/-- The data of a read, as it leaves. -/
def State.emitRead (a n : Nat) (r : Nat × State) : State := r.2.mapBlk (fun b => b.emit (.read (regBase + a) n r.1))

end Sys2Proof.Machine
end

