-- ==== Sys2Proof/Machine/Control.lean ====
section
/-! DEFINITION. The commands of the control ports (spec/16_control_ports.md) and the draft commands (spec/02_draft.md): register
writes that start them, the services of R439, mailboxes, the host's rings and interrupts. A service command begins the oldest
request that waits on a control port. -/

namespace Sys2Proof.Machine

/-! ## Draft commands (R67 to R82) -/

/-- A master's register write at the matrix, as a command. -/
def writeCmd (m a v : Nat) : State → Answer := onAll (State.busWrite m a v)

/-- OPEN (R69). -/
def execOpen (m : Nat) : State → Answer := writeCmd m Reg.SYS_DFT_CMD 1
/-- VALIDATE (R67). -/
def execValidate (m : Nat) : State → Answer := writeCmd m Reg.SYS_DFT_CMD 2
/-- COMMIT (R72). -/
def execCommit (m : Nat) : State → Answer := writeCmd m Reg.SYS_DFT_CMD 3
/-- ABORT (R69). -/
def execAbort (m : Nat) : State → Answer := writeCmd m Reg.SYS_DFT_CMD 4
/-- STORE (R81). -/
def execStore (m : Nat) : State → Answer := writeCmd m Reg.SYS_DFT_CMD 5
/-- VALIDATION_DONE (R70). -/
def execValidationDone : State → Answer := onBlk (fun b => b.dftValidated.payOwed false)
/-- STORE_DONE (R81): whether the write and its read-back succeeded, and how many bytes a failed one wrote. -/
def execStoreDone (ok : Bool) (n : Nat) : State → Answer := onBlk (fun b => (b.dftStored ok n).payOwed ok)
/-- COMMIT_DECISION (R73): whether what the preparation loads outside this model is ready. -/
def execCommitDecision (ready : Bool) : State → Answer := onBlk (Block.commitDecide ready)
/-- COMMIT_BLOCK (R74). -/
def execCommitBlock : State → Answer := onBlk Block.commitBlock
/-- COLD_RELEASE (R78). -/
def execColdRelease (n : Nat) (ps : List Nat) : State → Answer := onBlk (Block.coldRelease n ps)
/-- SETTLE_TIMEOUT (R79). -/
def execSettleTimeout : State → Answer := onBlk Block.settleTimeout
/-- BLOCK_NUMBER_READ (R68). -/
def execBlockNumberRead (m : Nat) : State → Answer := onAll (fun s => State.emitRead Reg.SYS_BLK_LO 4 (s.busRead m Reg.SYS_BLK_LO))
/-- ANSWER (R410). -/
def execAnswer (l : Nat) (f : Bytes) : State → Answer := onBlk (fun b => (b.gwRx 5 (some 2) Block.onAnswer l f).payOwed false)
/-- DECIDE (R411). -/
def execDecide (l : Nat) (f : Bytes) : State → Answer := onBlk (fun b => (b.gwRx 5 (some 3) Block.onDecide l f).payOwed false)
/-- SHUTTLE_TICK (R398). -/
def execShuttleTick (t : Nat) (peer : Bool) (tap : Nat) : State → Answer :=
  onBlk (fun b => (b.shuttleTick t peer tap).payOwed false)

/-! ## Requests (R436 to R439) -/

/-- ECP_REQUEST (R436). -/
def execEcpRequest (p : Nat) (v6 : Bool) (peer sport : Nat) (uni : Bool) (d : Bytes) : State → Answer :=
  onBlk (Block.ecpRequest p v6 peer sport uni d)
/-- TWIN_TIMEOUT (R438). -/
def execTwinTimeout : State → Answer := onBlk Block.twinTimeout

/-- What a service does: its status and answer, or none when the answer is owed until an event; and what it leaves. -/
abbrev SvcRun := Req → State → Option (Nat × Bytes) × State

/-- A service whose effect lies in the block and that answers a status only. -/
def svcBlk (f : Req → Block → Nat × Block) : SvcRun := fun r s =>
  let x := f r s.blk
  (some (x.1, []), { s with blk := x.2 })

/-- Begin the oldest waiting request of port p, which is one for service `op`: its level and fields are
checked (R416, R436), a request for the twin is carried there (R438), and any other runs. -/
def State.svc (op p : Nat) (ready : State → Bool) (run : SvcRun) (s : State) : State :=
  match s.blk.sys.waiting.find? (fun r => r.port == p) with
  | none => s
  | some r =>
    if r.op ≠ op ∨ !ready s then s
    else
      let s1 := s.mapBlk (fun b => b.setSys (fun y => { y with waiting := y.waiting.erase r }))
      let st := s.blk.beginRefused r
      if st ≠ 0 then s1.mapBlk (Block.reqRefuse r st)
      else if r.twin then s1.mapBlk (Block.relay r)
      else
        let x := run r s1
        match x.1 with
        | some a => x.2.mapBlk (Block.answer r a.1 a.2)
        | none => x.2.mapBlk (fun b => b.setSys (fun y => { y with owed := y.owed ++ [r] }))

def svcCmd (op p : Nat) (run : SvcRun) : State → Answer := onAll (State.svc op p (fun _ => true) run)

/-! ### Identity, status and registers -/

/-- IDENT (R439). -/
def Block.identBytes (b : Block) : Bytes :=
  let name := (b.stg.force.bind (fun d => d.chunk? tagNAME 1)).elim [] (·.pay)
  leBytes 4 (b.view Reg.SYS_ID) ++ leBytes 4 (b.view Reg.SYS_REV) ++ b.rdBytes (sramBase + 8) 4 ++
    leBytes 8 (b.stg.force.elim 0 (·.serial)) ++ leBytes 1 b.par.st ++ leBytes 3 0 ++ (name ++ List.replicate 256 0).take 256
/-- IDENT (R439). -/
def execIdent (p : Nat) : State → Answer := svcCmd 0x01 p (fun _ s => (some (0, s.blk.identBytes), s))

/-- STATUS (R439); source 20 keeps no record. -/
def Block.statusBytes (b : Block) : Bytes :=
  leBytes 1 b.mode ++ leBytes 1 b.wlh.st ++ leBytes 1 (b.wlh.sel.getD 15) ++ leBytes 1 b.par.st ++
    (below 32).flatMap (fun k => leBytes 4 (if k = 20 then 0 else fltWord (b.frec k)))
/-- STATUS (R439). -/
def execStatus (p : Nat) : State → Answer := svcCmd 0x02 p (fun _ s => (some (0, s.blk.statusBytes), s))

/-- Registers read in order as firmware, each as `n` bytes. -/
def State.readAll (as : List (Nat × Nat)) (s : State) : Bytes × State :=
  as.foldl (fun t x => let r := t.2.readReg 13 x.1; (t.1 ++ leBytes x.2 r.1, r.2)) ([], s)

/-- REG_READ (R439). -/
def execRegRead (p : Nat) : State → Answer := svcCmd 0x03 p (fun r s =>
  let x := s.readAll ((below (u32 r.pay 0)).map (fun i => (u32 r.pay (4 + 4 * i), 4)))
  (some (0, x.1), x.2))

/-- REG_WRITE (R439): in order, as by master 13. -/
def execRegWrite (p : Nat) : State → Answer := svcCmd 0x04 p (fun r s =>
  (some (0, []), (below (u32 r.pay 0)).foldl (fun t i => t.writeReg 13 (u32 r.pay (4 + 8 * i)) (u32 r.pay (8 + 8 * i))) s))

/-- METER_READ (R439): peak and RMS of each meter; the read restarts the peak. -/
def execMeterRead (p : Nat) : State → Answer := svcCmd 0x05 p (fun r s =>
  let x := s.readAll ((upFrom (u16 r.pay 0) (u16 r.pay 2)).flatMap (fun m => [(Reg.LOM_MTR_PK m, 2), (Reg.LOM_MTR_RMS m, 2)]))
  (some (0, x.1), x.2))

/-- FAULT_ACK (R439). -/
def execFaultAck (p : Nat) : State → Answer := svcCmd 0x06 p (fun r s =>
  (some (0, []), if u8 r.pay 0 = 20 then s else s.writeReg 13 (fltReg (u8 r.pay 0)) 2))

/-! ### Drafts (R66, R69, R437) -/

/-- DRAFT_OPEN. -/
def execDraftOpen (p : Nat) : State → Answer := svcCmd 0x10 p (svcBlk (fun r b => b.dftOpen (portSource r.port)))
/-- DRAFT_DATA. -/
def execDraftData (p : Nat) : State → Answer :=
  svcCmd 0x11 p (svcBlk (fun r b => b.dftData (portSource r.port) (u32 r.pay 0) (r.pay.drop 4)))

/-- DRAFT_VALIDATE: SYS_DFT_LEN and the command, if it is accepted. -/
def execDraftValidate (p : Nat) : State → Answer := svcCmd 0x12 p (fun r s =>
  let x := (s.blk.setReg Reg.SYS_DFT_LEN (u32 r.pay 0)).dftValidate (portSource r.port)
  if x.1 = 0 then (none, { s with blk := x.2 }) else (some (x.1, []), s))

/-- DRAFT_COMMIT: a proposal to the twin is answered when the twin has answered it. -/
def execDraftCommit (p : Nat) : State → Answer := svcCmd 0x13 p (fun r s =>
  let x := s.blk.dftCommit (portSource r.port) (u64 r.pay 0)
  let t := { s with blk := x.2 }
  if x.1 ≠ 0 then (some (x.1, []), t)
  else if x.2.par.proposed.isSome then (none, t)
  else (some (0, leBytes 8 x.2.stg.armedAt), t))

/-- DRAFT_ABORT. -/
def execDraftAbort (p : Nat) : State → Answer := svcCmd 0x14 p (fun r s =>
  let x := s.blk.dftAbort (portSource r.port)
  (some (x.1, []), { s with blk := x.2.payOwed false }))

/-- DRAFT_STORE. -/
def execDraftStore (p : Nat) : State → Answer := svcCmd 0x15 p (fun r s =>
  let x := s.blk.dftStore (portSource r.port)
  if x.1 = 0 then (none, { s with blk := x.2 }) else (some (x.1, []), s))

/-! ### Edits (R131 to R134, R433) -/

/-- Firmware may use the edit registers: SYS_SEM0 is free, or distaff 0 holds it. -/
def semFor (s : State) : Bool := tget 0 s.sems 0 == 0 || tget 0 s.sems 0 == 14

/-- An edit service: with the loom's island up; `f` answers the first refusal's code, 0 for none. -/
def editSvc (op p : Nat) (f : Bytes → Block → Nat × Block) : State → Answer :=
  onAll (State.svc op p semFor (svcBlk (fun r b =>
    if !b.domOn 11 then (stSTATE, b)
    else
      let x := f r.pay b
      (if x.1 = 0 then 0 else stREFUSED x.1, x.2))))

/-- AT and HOLD of a request go into the edit registers. -/
def Block.editSetup (at' hold : Nat) (b : Block) : Block :=
  (b.setReg64 Reg.LOM_EDIT_AT_LO Reg.LOM_EDIT_AT_HI at').editCtrlWrite (hold % 2 + 2 * b2n (at' != 0))

/-- One coefficient edit through the registers, after others: the first refusal's code. -/
def Block.editCoef (x : Nat × Block) (i v : Nat) : Nat × Block :=
  let b := x.2
  let bad := b.stg.force.isNone || (!b.loom.coefBank.wide && decide (8192 ≤ i))
  let code := if bad then 4 else if 256 ≤ b.editsQueued then 5 else 0
  (if x.1 = 0 then code else x.1, (b.setReg Reg.LOM_EDIT_CIDX (i % 16384)).cvalWrite v)

/-- EDIT_COEF. -/
def execEditCoef (p : Nat) : State → Answer := editSvc 0x20 p (fun d b =>
  (below (u32 d 12)).foldl (fun x i => Block.editCoef x (u32 d (16 + 8 * i)) (u32 d (20 + 8 * i))) (0, b.editSetup (u64 d 0) (u8 d 8)))

/-- EDIT_CARD. -/
def execEditCard (p : Nat) : State → Answer := editSvc 0x21 p (fun d b =>
  let img := leNat (slice 12 16 d)
  let b1 := b.editSetup (u64 d 0) (u8 d 8)
  let code := if b1.cardEditBad (u8 d 9) (u16 d 10) img then 4 else if 256 ≤ b1.editsQueued then 5 else 0
  let b2 := b1.setReg Reg.LOM_EDIT_CPOS (u8 d 9 * 65536 + u16 d 10)
  let b3 := ((b2.setReg Reg.LOM_EDIT_CARD0 (u32 d 12)).setReg Reg.LOM_EDIT_CARD1 (u32 d 16)).setReg Reg.LOM_EDIT_CARD2 (u32 d 20)
  (code, (b3.setReg Reg.LOM_EDIT_CARD3 (u32 d 24)).card3Write (u32 d 24)))

/-- EDIT_RELEASE: HOLD = 0. -/
def execEditRelease (p : Nat) : State → Answer :=
  editSvc 0x22 p (fun _ b => (0, b.editCtrlWrite (b.reg Reg.LOM_EDIT_CTRL &&& 6)))

/-! ### Time (R306, R310) -/

/-- TIME_READ. -/
def execTimeRead (p : Nat) : State → Answer := svcCmd 0x30 p (fun _ s =>
  let b := s.blk
  (some (0, leBytes 8 b.tsu.sec ++ leBytes 4 b.tsu.ns ++ leBytes 4 b.wlhStatView ++ leBytes 4 (b.view Reg.PAR_TWIN_OFS)), s))

/-- TIME_STEP. -/
def execTimeStep (p : Nat) : State → Answer := svcCmd 0x31 p (svcBlk (fun r b =>
  let b1 := (b.setReg Reg.TSU_STEP_SEC (u32 r.pay 0)).setReg Reg.TSU_STEP_NS (u32 r.pay 8)
  let b2 := b1.stepWrite (1 + 2 * u8 r.pay 12)
  (if b1.tsu.step.isNone ∧ b2.tsu.step.isSome then 0 else stREFUSED 1, b2)))

/-- TIME_SLEW. -/
def execTimeSlew (p : Nat) : State → Answer := svcCmd 0x32 p (svcBlk (fun r b =>
  (0, (b.setReg Reg.TSU_ADJ_FRAC (u32 r.pay 0)).slewWrite (u32 r.pay 4))))

/-! ### Plies, jets, rills, the pair and power -/

/-- The status of a command that was accepted or not. -/
def stOf (x : Bool × Block) : Nat × Block := (if x.1 then 0 else stSTATE, x.2)

/-- PLY_RELEASE (R79). -/
def execPlyRelease (p : Nat) : State → Answer := svcCmd 0x40 p (svcBlk (fun r b => stOf (b.plyRelease (u16 r.pay 0))))

/-- JET_CMD (R383, R385): a write of JET_CMD or JET_BANK_CMD. -/
def execJetCmd (p : Nat) : State → Answer := svcCmd 0x41 p (fun r s =>
  let i := u8 r.pay 1
  (some (0, []), match u8 r.pay 0 with
    | 0 => s.writeReg 13 (Reg.JET_CMD i) 1
    | a => s.writeReg 13 (Reg.JET_BANK_CMD i) a))

/-- RILL_REARM (R364). -/
def execRillRearm (p : Nat) : State → Answer :=
  svcCmd 0x42 p (fun r s => (some (0, []), s.writeReg 13 (Reg.RIL_CMD (u8 r.pay 0)) 1))

/-- PAIR_CMD (R400, R404): HANDOVER or TAKE. -/
def execPairCmd (p : Nat) : State → Answer := svcCmd 0x50 p (svcBlk (fun r b =>
  if u8 r.pay 0 = 0 then stOf (b.handover.par.resign.isSome, b.handover) else stOf b.take))

/-- REPACK (R219). -/
def execRepack (p : Nat) : State → Answer := svcCmd 0x51 p (svcBlk (fun _ b => (0, b.repack)))

/-- MODE (R466). -/
def execMode (p : Nat) : State → Answer := svcCmd 0x60 p (svcBlk (fun r b => stOf (b.modeReq (u8 r.pay 0))))

/-! ## Mailboxes, doorbells and levels (R415, R429, R430) -/

/-- MAILBOX_GO (R429): a write of MBX_CTRL with GO; `v` holds LEN and BELL. -/
def execMailboxGo (m n v : Nat) : State → Answer := writeCmd m (Reg.MBX_CTRL (n % 32)) (v % 2 ^ 13 + 2 ^ 31)
/-- MAILBOX_TAKE (R429). -/
def execMailboxTake (m n : Nat) : State → Answer := writeCmd m (Reg.MBX_CTRL (n % 32)) (2 ^ 20)
/-- DOORBELL_SET (R430). -/
def execDoorbellSet (m e v : Nat) : State → Answer := writeCmd m (Reg.MBX_DB_SET (e % 3)) v
/-- PRIV_WRITE (R415). -/
def execPrivWrite (m v : Nat) : State → Answer := writeCmd m Reg.MBX_PRIV v
/-- MGMT_DRAFT_EN_CHANGE (R504). -/
def execMgmtDraftEnChange (lvl : Bool) : State → Answer := onBlk (fun b => b.setSys (fun y => { y with draftEn := lvl }))

/-! ## The host (R422 to R426) -/

/-- HOST_RESET (R422). -/
def execHostReset (why : Nat) : State → Answer := onAll (State.hostReset why)
/-- HOST_LINK_UP (R422). -/
def execHostLinkUp (speed width : Nat) : State → Answer := onBlk (Block.hostLink speed width)
/-- VECTOR_REARM (R424): a write of HST_IACK_LO (`i` = 0) or HST_IACK_HI. -/
def execVectorRearm (m i v : Nat) : State → Answer := writeCmd m (Reg.HST_IACK_LO + 4 * (i % 2)) v
/-- VECTOR_UNMASK (R424). -/
def execVectorUnmask (v : Option Nat) : State → Answer := onBlk (Block.vecUnmask v)
/-- RING_TAIL_WRITE (R426). -/
def execRingTailWrite (m : Nat) (tx : Bool) (p v : Nat) : State → Answer := writeCmd m (ringReg tx (p % 5) 0x10) v
/-- RING_DISABLE (R426). -/
def execRingDisable (m : Nat) (tx : Bool) (p : Nat) : State → Answer := writeCmd m (ringReg tx (p % 5) 0x14) 0
/-- RING_CONFIG_WRITE (R426): BASE_LO, BASE_HI and SIZE are registers 0 to 2. -/
def execRingConfigWrite (m : Nat) (tx : Bool) (p i v : Nat) : State → Answer := writeCmd m (ringReg tx (p % 5) (4 * (i % 3))) v
/-- RX_DESCRIPTOR (R426). -/
def execRxDescriptor (p q : Nat) : State → Answer := onBlk (Block.rxDescriptor p q)
/-- TX_DESCRIPTOR (R426): `n` more bytes of the entry's frame have been fetched. -/
def execTxDescriptor (p n : Nat) : State → Answer := onBlk (Block.txDescriptor p n)

end Sys2Proof.Machine
end

