-- ==== Sys2Proof/Machine/Matrix.lean ====
section
/-! DEFINITION. The matrix: its targets, bursts and their order (R24 to R29, R441 to R447), the basins' aliases and ECC (R450 to
R455), and the register accesses that are commands of their own. -/

namespace Sys2Proof.Machine

/-! ## Targets (R24, R441) -/

/-- Where an address of the alias lies now (R24, R446). -/
def physOf (remap : Bool) (a : Nat) : Nat :=
  if a < 0x200000 then (if remap then 0x11000000 + a else 0x10000000 + a % 0x20000) else a

def inRange (a lo hi : Nat) : Bool := decide (lo ≤ a) && decide (a < hi)

/-- The target of a physical address: 0 boot ROM, 1 distaff SRAM, 2 to 9 basins with their aliases, 10 to 17 local memories of
bobbins, 18 loom stores, 19 register space, 20 cistern; 21 an address that is unmapped (R24). -/
def targetOf (a : Nat) : Nat :=
  if inRange a 0x10000000 0x10020000 then 0
  else if inRange a 0x11000000 0x11200000 then 1
  else if inRange a 0x20000000 0x20800000 || inRange a 0x21000000 0x21800000 || inRange a 0x22000000 0x22800000 then
    2 + a / 0x100000 % 16
  else if inRange a 0x30000000 0x31000000 then 10 + (a - 0x30000000) / 0x200000
  else if inRange a 0x40000000 0x40050000 || inRange a 0x40080000 0x40090000 then 18
  else if inRange a 0x60000000 0x61000000 then 19
  else if inRange a 0x400000000 0x800000000 then 20
  else 21

/-- Whether a master reaches a target that is not register space (R445). -/
def reachesTarget (m t : Nat) : Bool :=
  match m with
  | 0 | 1 => inRange t 2 10 || t == 20
  | 2 => t == 20
  | 11 => t == 20 || t == 1
  | 12 => inRange t 2 18 || t == 20
  | 13 | 14 | 15 => true
  | _ => t == m - 1 || t == 20

/-- The code with which MTX records an access to a target other than register space and lets it have no effect, 0 for none
(R25, R130, R154, R445, R481). -/
def Block.busFault (b : Block) (m a : Nat) (write : Bool) : Nat :=
  let t := targetOf a
  if !reachesTarget m t then mtxREACH
  else if t = 0 then (if write then mtxUNMAPPED else 0)
  else if t = 1 then
    let low := decide (a < 0x111F0000)
    if m = 13 ∨ m = 14 then 0
    else if write then (if low ∧ ((m = 15 ∧ b.bootSt = btHOST) ∨ (m = 11 ∧ b.bootSt = btTWIN)) then 0 else mtxDENIED)
    else if m = 11 ∧ !(low && b.bootSt == btTWIN) then mtxREACH else 0
  else if t < 10 then 0
  else if t < 18 then
    if 0x28000 ≤ a % 0x40000 then mtxUNMAPPED
    else if !b.domOn (t - 7) then mtxOFF
    else if write ∧ !(m == 12 || isFw m) then mtxDENIED else 0
  else if t = 18 then
    if !b.domOn 11 then mtxOFF else if write ∧ a < 0x40080000 then mtxDENIED else 0
  else if t = 20 then
    if !b.domOn 12 then mtxOFF else if b.cstSize ≤ a - cisternBase then mtxUNMAPPED else 0
  else mtxUNMAPPED

/-! ## The loom's windows (R26, R130) -/

/-- A byte of the card store: entries that no deck in force uses read 0. -/
def Block.cardByte (b : Block) (o : Nat) : BitVec 8 :=
  let i := o / 16
  if (below 3).any (fun d => let k := tget (0, 0) b.loom.decks d; inRange i k.1 (k.1 + k.2)) && b.stg.force.isSome then
    BitVec.ofNat 8 ((tget 0 b.loom.cards i).toNat / 256 ^ (o % 16))
  else 0

/-- A byte of the coefficient store, as domain F sees it: entries outside the layout in force read 0. -/
def Block.coefByte (b : Block) (o : Nat) : BitVec 8 :=
  let i := o / 4
  if b.stg.force.isSome && (b.loom.coefBank.wide || i / 8192 == b.loom.coefBank.bank) then
    BitVec.ofNat 8 ((tget 0 b.loom.coefs i).toNat / 256 ^ (o % 4))
  else 0

/-- A byte of the lane store window: the word of the last sample of the lane's domain whose pass has ended. -/
def Block.laneByte (b : Block) (o : Nat) : BitVec 8 :=
  let l := o / 8
  match (b.stg.force.bind (fun d => d.laneDom? l)).map (fun d => tget 0 b.loom.ended d) with
  | some (s + 1) => BitVec.ofNat 8 ((b.lane l s).toNat / 256 ^ (o % 8))
  | _ => 0

/-! ## One beat at a memory target -/

/-- The address in the basin of an address in it or in an alias of it. -/
def basinAddr (a : Nat) : Nat := 0x20000000 + a % 0x1000000

/-- The bytes that a read of a target without fault returns (R454, R455). -/
def Block.loadBytes (m a n : Nat) (b : Block) : Bytes × Block :=
  let t := targetOf a
  if t = 0 then ((upFrom a n).map (fun x => Config.bootRom (x - 0x10000000)), b)
  else if 2 ≤ t ∧ t < 10 then (b.rdBytes (basinAddr a) n, b.eccNote false m (basinAddr a) n)
  else if t = 18 then
    ((upFrom a n).map (fun x => if x < 0x40040000 then b.cardByte (x - 0x40000000)
      else if x < 0x40080000 then b.coefByte (x - 0x40040000) else b.laneByte (x - 0x40080000)), b)
  else (b.rdBytes a n, b.eccNote false m a n)

/-- What an enabled byte of a basin's plain, bit-set or bit-clear write leaves (R454). -/
def aliasByte (a : Nat) (old v : BitVec 8) : BitVec 8 :=
  match a / 0x1000000 with
  | 0x21 => old ||| v
  | 0x22 => old &&& ~~~v
  | _ => v

/-- Consecutive enabled bytes are written at a target without fault. -/
def Block.storeRun (m a : Nat) (bs : Bytes) (b : Block) : Block :=
  let t := targetOf a
  if 2 ≤ t ∧ t < 10 then
    let p := basinAddr a
    b.wrBytes p (List.zipWith (aliasByte a) (b.rdBytes p bs.length) bs)
  else if t = 20 then b.cisternWrite m a bs .ok
  else if t = 18 then b
  else b.wrBytes a bs

/-- The runs of enabled bytes of a beat, each with its offset, from byte `i` on; `run` is the one in hand, newest first. -/
def strobeRuns : Nat → Nat → Bytes → Bytes → List (Nat × Bytes)
  | i, _, run, [] => if run.isEmpty then [] else [(i - run.length, run.reverse)]
  | i, st, run, v :: r =>
    if st % 2 = 1 then strobeRuns (i + 1) (st / 2) (v :: run) r
    else (if run.isEmpty then [] else [(i - run.length, run.reverse)]) ++ strobeRuns (i + 1) (st / 2) [] r

def Block.storeBeat (m a st : Nat) (bs : Bytes) (b : Block) : Block :=
  (strobeRuns 0 st [] bs).foldl (fun x r => x.storeRun m (a + r.1) r.2) b

/-! ## Registers at the matrix (R7, R11, R442) -/

/-- A read of `n` bytes at a byte offset: each register that it addresses is read. -/
def State.readBytes (m a n : Nat) (s : State) : Bytes × State :=
  let ws := upFrom (a / 4) ((a + n + 3) / 4 - a / 4)
  let x := ws.foldl (fun (t : Bytes × State) w => let r := t.2.busRead m (4 * w); (t.1 ++ leBytes 4 r.1, r.2)) ([], s)
  ((x.1.drop (a % 4)).take n, x.2)

/-- A write that is not of one aligned word has no effect (R11), but is recorded as any access is. -/
def State.voidWrite (m a : Nat) (s : State) : State :=
  let fault := fun (c : Nat) => s.mapBlk (fun b => b.mtxFault c m (regBase + a) true)
  if !reachesReg m a then fault mtxREACH
  else if m = 15 ∧ !hostMayWrite (s.blk.level 0) a then s.mapBlk (fun b => b.violate 0 0x10 3 0 a 0)
  else if (pageBlk (a / 65536)).isNone then fault mtxUNMAPPED
  else if s.blk.islandOff a then fault mtxOFF
  else s

/-- A write of `n` bytes at a byte offset. -/
def State.writeBytes (m a n v : Nat) (s : State) : State :=
  if n = 4 ∧ a % 4 = 0 then s.busWrite m a v else s.voidWrite m (a / 4 * 4)

/-! ## Bursts (R442 to R447) -/

def Burst.total (u : Burst) : Nat := if u.write then u.beats.length else (u.len + 31) / 32

/-- The host's window BAR2 at the level of H0 (R421). -/
def Block.bar2Refused (b : Block) (u : Burst) : Bool :=
  u.master == 15 && (b.level 0 == 0 || (u.write && b.level 0 != 3))

/-- Beat `i` of a burst to register space. -/
def State.regBeat (u : Burst) (i : Nat) (cut : Bool) (s : State) : State :=
  let a := u.addr - regBase + 32 * i
  if u.write then
    match u.beats with
    | [x] =>
      if cut then s
      else match strobeRuns 0 x.2 [] x.1 with
        | [(o, v)] => s.writeBytes u.master (a + o) v.length (leNat v)
        | _ => s.voidWrite u.master a
    | _ => if i = 0 ∧ !cut then s.voidWrite u.master a else s
  else
    let n := min 32 (u.len - 32 * i)
    let r := s.readBytes u.master a n
    if cut then r.2 else r.2.mapBlk (fun b => b.emit (.read (u.addr + 32 * i) n (leNat r.1)))

/-- A burst of the host through BAR2 to the range of register space, which reads zeros and ignores writes there (R28). -/
def Burst.blind (u : Burst) : Bool := u.master == 15 && u.bar2 && targetOf u.addr == 19

/-- Beat `i` of a burst to any target but register space; a fault of the burst is recorded with its first beat. -/
def Block.memBeat (u : Burst) (i : Nat) (cut : Bool) (b : Block) : Block :=
  let a := u.addr + 32 * i
  let n := min 32 (u.len - 32 * i)
  let zeros := fun (x : Block) => if u.write || cut then x else x.emit (.read a n 0)
  if b.bar2Refused u then zeros (if i = 0 then b.violate 0 0x10 (if u.write then 3 else 2) 0 u.addr 0 else b)
  else if u.blind then zeros b
  else
    let code := b.busFault u.master u.addr u.write
    if code ≠ 0 then zeros (if i = 0 then b.mtxFault code u.master u.addr u.write else b)
    else if u.write then
      (if cut then b else (u.beats[i]?).elim b (fun x => b.storeBeat u.master a x.2 x.1))
    else if targetOf u.addr = 20 ∧ (b.cst.st = 2 ∨ b.cst.st = 3) then b.queueRead cut (u.master, a, n)
    else
      let r := b.loadBytes u.master a n
      if cut then r.2 else r.2.emit (.read a n (leNat r.1))

/-- A beat to the cistern waits at the matrix while its queue is full, or a frequency change is in progress (R236, R244). -/
def Block.beatWaits (u : Burst) (b : Block) : Bool :=
  targetOf u.addr == 20 && (b.cst.st == 2 || b.cst.st == 3) && b.busFault u.master u.addr u.write == 0 && !b.bar2Refused u &&
    !(if u.write then b.wrRoom else b.rdRoom)

/-- The burst of a port runs on by at most `n` beats; after its last one the port is free. -/
def State.runBeats (t : Nat) : Nat → State → State
  | 0, s => s
  | n + 1, s =>
    let p := tget {} s.blk.sys.ports t
    match p.cur with
    | none => s
    | some u =>
      if s.blk.beatWaits u then s else
      let s1 := if targetOf u.addr = 19 ∧ !u.blind then s.regBeat u p.done p.cut else s.mapBlk (fun b => b.memBeat u p.done p.cut)
      let q := tget {} s1.blk.sys.ports t
      let q1 := if u.total ≤ q.done + 1 then { q with cur := none, done := 0, cut := false } else { q with done := q.done + 1 }
      State.runBeats t n (s1.mapBlk (fun b => b.setSys (fun y => { y with ports := tput {} t q1 y.ports })))

def Block.modTarget (t : Nat) (f : MPort → MPort) (b : Block) : Block :=
  b.setSys (fun y => { y with ports := tmod {} t f y.ports })

def Block.remapped (b : Block) : Bool := b.rbit Reg.SYS_REMAP 0

/-- A master's port splits a burst that would cross a 4 KiB boundary in two (R442). -/
def Burst.split (u : Burst) : List Burst :=
  let n := (4096 - u.addr % 4096) / 32
  if u.total ≤ n then [u]
  else [{ u with len := min u.len (32 * n), beats := u.beats.take n },
        { u with addr := u.addr + 32 * n, len := u.len - 32 * n, beats := u.beats.drop n }]

/-- Bursts that arrive wait at the port of their target. -/
def Block.queueBurst (b : Block) (u : Burst) : Block :=
  u.split.foldl (fun x v =>
    if v.total = 0 then x else x.modTarget (targetOf (physOf x.remapped v.addr)) (fun p => { p with queue := p.queue ++ [v] })) b

/-- Waiting bursts at the alias turn to distaff SRAM once it lies there (R446). -/
def Block.turnAlias (b : Block) : Block :=
  let q := (tget {} b.sys.ports 0).queue
  let go := q.filter (fun u => decide (u.addr < 0x200000))
  if !b.remapped || go.isEmpty then b
  else (b.modTarget 0 (fun p => { p with queue := p.queue.filter (fun u => decide (0x200000 ≤ u.addr)) })).modTarget 1
    (fun p => { p with queue := p.queue ++ go })

/-- A free port grants the least master number that requests it, its oldest burst (R443, R444). -/
def Block.grant (t : Nat) (b : Block) : Block :=
  let p := tget {} b.sys.ports t
  match p.cur, (sortKey (·.master) p.queue).head? with
  | none, some u =>
    let v : Burst := { u with addr := physOf b.remapped u.addr }
    b.modTarget t (fun x => { x with cur := some v, done := 0, cut := false, queue := x.queue.erase u })
  | _, _ => b

/-- Whether a 64-bit word, by its number, has ECC: of a basin, of a spindle's memories, or of the cistern with inline ECC. -/
def Block.eccProtects (b : Block) (w : Nat) : Bool :=
  inRange (8 * w) 0x20000000 0x20800000 || (inRange (8 * w) 0x30000000 0x31000000 && decide (8 * w % 0x40000 < 0x28000)) ||
  (b.cst.ecc && inRange (8 * w) cisternBase (cisternBase + b.cstSize))

/-- MATRIX_BURST: bursts arrive; port `t` grants one if it is free, and runs `n` beats of it. `ups` are the words that
have gone into error meanwhile, by their number, each with 1 for a single-bit and 2 for a double-bit error (R147, R231, R455). -/
def State.matrixBurst (t : Nat) (new : List Burst) (n : Nat) (ups : List (Nat × Nat)) (s : State) : State :=
  let hurt := fun (e : Tab Nat) (x : Nat × Nat) => if s.blk.eccProtects x.1 ∧ (x.2 = 1 ∨ x.2 = 2) then tput 0 x.1 x.2 e else e
  let s1 := s.mapBlk (fun b =>
    let b1 := b.setSys (fun y => { y with memErr := ups.foldl hurt y.memErr })
    ((new.foldl Block.queueBurst b1).turnAlias).grant t)
  s1.runBeats t n

/-! ## Commands -/

/-- MATRIX_BURST (R443). -/
def execMatrixBurst (t : Nat) (new : List Burst) (n : Nat) (ups : List (Nat × Nat)) : State → Answer :=
  onAll (State.matrixBurst t new n ups)

/-- REGISTER_WRITE (R7): `n` bytes at an offset in register space. -/
def execRegisterWrite (m a n v : Nat) : State → Answer := onAll (State.writeBytes m a n v)

/-- RC_READ (R11): `n` bytes at an offset in register space. -/
def execRcRead (m a n : Nat) : State → Answer := onAll (fun s =>
  let r := s.readBytes m a n
  r.2.mapBlk (fun b => b.emit (.read (regBase + a) n (leNat r.1))))

/-- OFF_ISLAND (R15): an access to a register of an island that is down. -/
def execOffIsland (m a : Nat) (write : Bool) (v : Nat) : State → Answer := onAll (fun s =>
  if !s.blk.islandOff a then s else if write then s.busWrite m a v else State.emitRead a 4 (s.busRead m a))

/-- An access to any target but register space: it has an effect only where `busFault` names none. -/
def State.access (m a : Nat) (write : Bool) (st : Nat) (bs : Bytes) (s : State) : State :=
  let u : Burst := { master := m, addr := a, write := write, len := bs.length, beats := [(bs, st)] }
  s.mapBlk (fun b => b.memBeat u 0 false)

/-- UNMAPPED (R25): an access of 32 bytes to an unmapped address, to a page of registers that holds no block, or to cistern space
above capacity, or a write to boot ROM. -/
def execUnmapped (m a : Nat) (write : Bool) : State → Answer := onAll (fun s =>
  let p := physOf s.blk.remapped a
  if targetOf p = 19 then
    (if (pageBlk ((p - regBase) / 65536)).isSome then s
     else if write then s.busWrite m ((p - regBase) / 4 * 4) 0 else State.emitRead ((p - regBase) / 4 * 4) 4 (s.busRead m ((p - regBase) / 4 * 4)))
  else if s.blk.busFault m p write = mtxUNMAPPED then s.access m p write 0 (List.replicate 32 0) else s)

/-- BIT_SET_WRITE (R454): a word of basin n, its byte strobes and data, through the bit-set alias. -/
def execBitSetWrite (m n ofs data st : Nat) : State → Answer :=
  onAll (State.access m (0x21000000 + n % 8 * 0x100000 + ofs % 0x100000 / 8 * 8) true (st % 256) (leBytes 8 data))
/-- BIT_CLEAR_WRITE (R454). -/
def execBitClearWrite (m n ofs data st : Nat) : State → Answer :=
  onAll (State.access m (0x22000000 + n % 8 * 0x100000 + ofs % 0x100000 / 8 * 8) true (st % 256) (leBytes 8 data))

/-- ECC_WRITEBACK (R455): the bank writes back the corrected word at an offset of basin n. -/
def execEccWriteback (n ofs : Nat) : State → Answer := onBlk (fun b =>
  let w := (basinBase (n % 8) + ofs % 0x100000) / 8
  if tget 0 b.sys.memErr w = 1 then b.setSys (fun y => { y with memErr := tput 0 w 0 y.memErr }) else b)

/-- REMAP (R446). -/
def execRemap (m v : Nat) : State → Answer := writeCmd m Reg.SYS_REMAP v
/-- SEMAPHORE_READ (R448). -/
def execSemaphoreRead (m i : Nat) : State → Answer := onAll (fun s =>
  let a := Reg.SYS_SEM 0 + 4 * (i % 64)
  State.emitRead a 4 (s.busRead m a))
/-- SEMAPHORE_RELEASE (R448). -/
def execSemaphoreRelease (m i v : Nat) : State → Answer := writeCmd m (Reg.SYS_SEM 0 + 4 * (i % 64)) v
/-- WAKE_BUDGET_WRITE (R462). -/
def execWakeBudgetWrite (m v : Nat) : State → Answer := writeCmd m Reg.PWR_WAKE_BUDGET v
/-- WDOG_KICK (R476). -/
def execWdogKick (m v : Nat) : State → Answer := writeCmd m Reg.PWR_WDOG_KICK v
/-- COARSE_TIME_WRITE (R474): the next XT32 tick is `d` periods after the last one counted. -/
def execCoarseTimeWrite (m v d : Nat) : State → Answer := onRegBy m Reg.PWR_AON_SEC_HI true (fun b =>
  if isFw m then b.coarseWrite v d else b.mtxFault mtxDENIED m (regBase + Reg.PWR_AON_SEC_HI) true)
/-- BLOCK_RESET (R477). -/
def execBlockReset (m v : Nat) : State → Answer := writeCmd m Reg.PWR_BLK_RST v
/-- BOOT_GO (R481). -/
def execBootGo (m v : Nat) : State → Answer := writeCmd m Reg.PWR_BOOT_GO v

end Sys2Proof.Machine
end

