-- ==== Sys2Proof/Machine/Dispatch.lean ====
section
/-! DEFINITION. The meaning of each command. -/

namespace Sys2Proof.Machine

def exec (i : Instr) (s : State) : Host.Outcome State Fault Refusal :=
  match i with
  | .registerWrite m a n v => Sys2Proof.Machine.execRegisterWrite m a n v s
  | .rcRead m a n => Sys2Proof.Machine.execRcRead m a n s
  | .offIsland m a write v => Sys2Proof.Machine.execOffIsland m a write v s
  | .unmapped m a write => Sys2Proof.Machine.execUnmapped m a write s
  | .open_ m => Sys2Proof.Machine.execOpen m s
  | .validate m => Sys2Proof.Machine.execValidate m s
  | .validationDone => Sys2Proof.Machine.execValidationDone s
  | .commit m => Sys2Proof.Machine.execCommit m s
  | .abort m => Sys2Proof.Machine.execAbort m s
  | .store m => Sys2Proof.Machine.execStore m s
  | .storeDone ok n => Sys2Proof.Machine.execStoreDone ok n s
  | .commitDecision ready => Sys2Proof.Machine.execCommitDecision ready s
  | .commitBlock => Sys2Proof.Machine.execCommitBlock s
  | .coldRelease n ps => Sys2Proof.Machine.execColdRelease n ps s
  | .settleTimeout => Sys2Proof.Machine.execSettleTimeout s
  | .blockNumberRead m => Sys2Proof.Machine.execBlockNumberRead m s
  | .bootCommit n => Sys2Proof.Machine.execBootCommit n s
  | .familySwitch f => Sys2Proof.Machine.execFamilySwitch f s
  | .familyRelease => Sys2Proof.Machine.execFamilyRelease s
  | .xSkeinStop => Sys2Proof.Machine.execXSkeinStop s
  | .sluiceTick n sample lateS lateD => Sys2Proof.Machine.execSluiceTick n sample lateS lateD s
  | .sluiceSourceTimeout n => Sys2Proof.Machine.execSluiceSourceTimeout n s
  | .sluiceLock n => Sys2Proof.Machine.execSluiceLock n s
  | .sluiceHoldExit n => Sys2Proof.Machine.execSluiceHoldExit n s
  | .sluiceRangeExit n => Sys2Proof.Machine.execSluiceRangeExit n s
  | .resync k v => Sys2Proof.Machine.execResync k v s
  | .loomPass dom sample n slack => Sys2Proof.Machine.execLoomPass dom sample n slack s
  | .passResume dom n slack => Sys2Proof.Machine.execPassResume dom n slack s
  | .passDeadline dom => Sys2Proof.Machine.execPassDeadline dom s
  | .overload dom => Sys2Proof.Machine.execOverload dom s
  | .cardNop dom img => Sys2Proof.Machine.execCardNop dom img s
  | .cardMov dom img => Sys2Proof.Machine.execCardMov dom img s
  | .cardGain dom img => Sys2Proof.Machine.execCardGain dom img s
  | .cardMacz dom img => Sys2Proof.Machine.execCardMacz dom img s
  | .cardMac dom img => Sys2Proof.Machine.execCardMac dom img s
  | .cardClr dom img => Sys2Proof.Machine.execCardClr dom img s
  | .cardSum dom img => Sys2Proof.Machine.execCardSum dom img s
  | .cardFade dom img => Sys2Proof.Machine.execCardFade dom img s
  | .cardGlide dom img => Sys2Proof.Machine.execCardGlide dom img s
  | .cardWeir dom img => Sys2Proof.Machine.execCardWeir dom img s
  | .cardDly dom img => Sys2Proof.Machine.execCardDly dom img s
  | .cardDlw dom img => Sys2Proof.Machine.execCardDlw dom img s
  | .cardTrim dom img => Sys2Proof.Machine.execCardTrim dom img s
  | .cardKin dom img => Sys2Proof.Machine.execCardKin dom img s
  | .cardKout dom img => Sys2Proof.Machine.execCardKout dom img s
  | .cardMeter dom img => Sys2Proof.Machine.execCardMeter dom img s
  | .cardSlu dom img => Sys2Proof.Machine.execCardSlu dom img s
  | .cardEnd dom => Sys2Proof.Machine.execCardEnd dom s
  | .coefficientEdit v => Sys2Proof.Machine.execCoefficientEdit v s
  | .cardEdit v => Sys2Proof.Machine.execCardEdit v s
  | .holdRelease v => Sys2Proof.Machine.execHoldRelease v s
  | .editDue n => Sys2Proof.Machine.execEditDue n s
  | .delayLinePost dom blk => Sys2Proof.Machine.execDelayLinePost dom blk s
  | .delayLineFetch dom blk missing => Sys2Proof.Machine.execDelayLineFetch dom blk missing s
  | .release dom r copied => Sys2Proof.Machine.execRelease dom r copied s
  | .stageIn k blk => Sys2Proof.Machine.execStageIn k blk s
  | .stageOut k blk => Sys2Proof.Machine.execStageOut k blk s
  | .nop n e => Sys2Proof.Machine.execNop n e s
  | .waitb n e => Sys2Proof.Machine.execWaitb n e s
  | .br n e => Sys2Proof.Machine.execBr n e s
  | .loop n e => Sys2Proof.Machine.execLoop n e s
  | .break_ n e => Sys2Proof.Machine.execBreak n e s
  | .add n e => Sys2Proof.Machine.execAdd n e s
  | .sub n e => Sys2Proof.Machine.execSub n e s
  | .adds n e => Sys2Proof.Machine.execAdds n e s
  | .subs n e => Sys2Proof.Machine.execSubs n e s
  | .and n e => Sys2Proof.Machine.execAnd n e s
  | .or n e => Sys2Proof.Machine.execOr n e s
  | .xor n e => Sys2Proof.Machine.execXor n e s
  | .shl n e => Sys2Proof.Machine.execShl n e s
  | .asr n e => Sys2Proof.Machine.execAsr n e s
  | .lsr n e => Sys2Proof.Machine.execLsr n e s
  | .min n e => Sys2Proof.Machine.execMin n e s
  | .max n e => Sys2Proof.Machine.execMax n e s
  | .abs n e => Sys2Proof.Machine.execAbs n e s
  | .neg n e => Sys2Proof.Machine.execNeg n e s
  | .mulf n e => Sys2Proof.Machine.execMulf n e s
  | .muli n e => Sys2Proof.Machine.execMuli n e s
  | .macComplex n e => Sys2Proof.Machine.execMacComplex n e s
  | .macConjugate n e => Sys2Proof.Machine.execMacConjugate n e s
  | .macDualReal n e => Sys2Proof.Machine.execMacDualReal n e s
  | .ld n e => Sys2Proof.Machine.execLd n e s
  | .st n e => Sys2Proof.Machine.execSt n e s
  | .ldc n e => Sys2Proof.Machine.execLdc n e s
  | .stc n e => Sys2Proof.Machine.execStc n e s
  | .sta n e => Sys2Proof.Machine.execSta n e s
  | .ldi n e => Sys2Proof.Machine.execLdi n e s
  | .mov n e => Sys2Proof.Machine.execMov n e s
  | .ldacc n e => Sys2Proof.Machine.execLdacc n e s
  | .aupd n e => Sys2Proof.Machine.execAupd n e s
  | .exp n e => Sys2Proof.Machine.execExp n e s
  | .expa n e => Sys2Proof.Machine.execExpa n e s
  | .norm n e => Sys2Proof.Machine.execNorm n e s
  | .bxdr n e => Sys2Proof.Machine.execBxdr n e s
  | .aclr n e => Sys2Proof.Machine.execAclr n e s
  | .bfly n e => Sys2Proof.Machine.execBfly n e s
  | .force k v => Sys2Proof.Machine.execForce k v s
  | .retire n => Sys2Proof.Machine.execRetire n s
  | .return_ k v => Sys2Proof.Machine.execReturn k v s
  | .returnTestDone n pass => Sys2Proof.Machine.execReturnTestDone n pass s
  | .restartLoad k => Sys2Proof.Machine.execRestartLoad k s
  | .repackRequest => Sys2Proof.Machine.execRepackRequest s
  | .migrationStart => Sys2Proof.Machine.execMigrationStart s
  | .catchUp k ok => Sys2Proof.Machine.execCatchUp k ok s
  | .migrationRetry k => Sys2Proof.Machine.execMigrationRetry k s
  | .bobbinPowerGate n => Sys2Proof.Machine.execBobbinPowerGate n s
  | .init second => Sys2Proof.Machine.execInit second s
  | .initDone ok chan => Sys2Proof.Machine.execInitDone ok chan s
  | .fchg => Sys2Proof.Machine.execFchg s
  | .frequencyChange => Sys2Proof.Machine.execFrequencyChange s
  | .fchgDone e => Sys2Proof.Machine.execFchgDone e s
  | .enterRetention => Sys2Proof.Machine.execEnterRetention s
  | .leaveRetention => Sys2Proof.Machine.execLeaveRetention s
  | .cisternRead reqs ecc w => Sys2Proof.Machine.execCisternRead reqs ecc w s
  | .cisternWrite m a data ecc => Sys2Proof.Machine.execCisternWrite m a data ecc s
  | .writeBatch served => Sys2Proof.Machine.execWriteBatch served s
  | .refresh bank elapsed => Sys2Proof.Machine.execRefresh bank elapsed s
  | .tempCheck scale above => Sys2Proof.Machine.execTempCheck scale above s
  | .zqLatch => Sys2Proof.Machine.execZqLatch s
  | .dqsCheck chan drift ok => Sys2Proof.Machine.execDqsCheck chan drift ok s
  | .bankhashWrite k v => Sys2Proof.Machine.execBankhashWrite k v s
  | .reservoirStart n v => Sys2Proof.Machine.execReservoirStart n v s
  | .reservoirStop n v => Sys2Proof.Machine.execReservoirStop n v s
  | .reservoirBegin n => Sys2Proof.Machine.execReservoirBegin n s
  | .frameReceive p f err age => Sys2Proof.Machine.execFrameReceive p f err age s
  | .cutThrough p e f tap => Sys2Proof.Machine.execCutThrough p e f tap s
  | .frameTransmit p tap fw => Sys2Proof.Machine.execFrameTransmit p tap fw s
  | .txUnderrun p sent => Sys2Proof.Machine.execTxUnderrun p sent s
  | .linkUp p speed => Sys2Proof.Machine.execLinkUp p speed s
  | .linkDown p why => Sys2Proof.Machine.execLinkDown p why s
  | .fecWrite p v => Sys2Proof.Machine.execFecWrite p v s
  | .rxqWrite p q v => Sys2Proof.Machine.execRxqWrite p q v s
  | .tableRead k => Sys2Proof.Machine.execTableRead k s
  | .tableWrite k => Sys2Proof.Machine.execTableWrite k s
  | .tableDelete k => Sys2Proof.Machine.execTableDelete k s
  | .tableFind k => Sys2Proof.Machine.execTableFind k s
  | .flushDynamic k => Sys2Proof.Machine.execFlushDynamic k s
  | .flushAll k => Sys2Proof.Machine.execFlushAll k s
  | .ageSweep => Sys2Proof.Machine.execAgeSweep s
  | .fieldBusTransmit clear crsLost => Sys2Proof.Machine.execFieldBusTransmit clear crsLost s
  | .deferral fw => Sys2Proof.Machine.execDeferral fw s
  | .collision bits => Sys2Proof.Machine.execCollision bits s
  | .backoff => Sys2Proof.Machine.execBackoff s
  | .mdioGo v => Sys2Proof.Machine.execMdioGo v s
  | .mdioDone data => Sys2Proof.Machine.execMdioDone data s
  | .packetRelease j t hopA hopB => Sys2Proof.Machine.execPacketRelease j t hopA hopB s
  | .skeinFrame p q => Sys2Proof.Machine.execSkeinFrame p q s
  | .presentation k t => Sys2Proof.Machine.execPresentation k t s
  | .skeinGapTimeout k => Sys2Proof.Machine.execSkeinGapTimeout k s
  | .pathDown k path => Sys2Proof.Machine.execPathDown k path s
  | .spillFetch k blk => Sys2Proof.Machine.execSpillFetch k blk s
  | .incrementWrite m v => Sys2Proof.Machine.execIncrementWrite m v s
  | .slew m v => Sys2Proof.Machine.execSlew m v s
  | .slewEnd => Sys2Proof.Machine.execSlewEnd s
  | .stepRequest m v => Sys2Proof.Machine.execStepRequest m v s
  | .stepApply => Sys2Proof.Machine.execStepApply s
  | .absorbDone => Sys2Proof.Machine.execAbsorbDone s
  | .realignRelease => Sys2Proof.Machine.execRealignRelease s
  | .nowRead => Sys2Proof.Machine.execNowRead s
  | .txsRead => Sys2Proof.Machine.execTxsRead s
  | .spoutArm n v => Sys2Proof.Machine.execSpoutArm n v s
  | .spoutDisarm n v => Sys2Proof.Machine.execSpoutDisarm n v s
  | .spoutEdge n => Sys2Proof.Machine.execSpoutEdge n s
  | .spoutTrailingEdge n => Sys2Proof.Machine.execSpoutTrailingEdge n s
  | .capture n falling tap => Sys2Proof.Machine.execCapture n falling tap s
  | .captureRead n => Sys2Proof.Machine.execCaptureRead n s
  | .windowArm w v => Sys2Proof.Machine.execWindowArm w v s
  | .windowClose w => Sys2Proof.Machine.execWindowClose w s
  | .measurementUpdate ms => Sys2Proof.Machine.execMeasurementUpdate ms s
  | .candidateLost c => Sys2Proof.Machine.execCandidateLost c s
  | .qualityFrame n f err => Sys2Proof.Machine.execQualityFrame n f err s
  | .qualityStale c => Sys2Proof.Machine.execQualityStale c s
  | .announce c cls acc => Sys2Proof.Machine.execAnnounce c cls acc s
  | .channelStatus byte4 crcc => Sys2Proof.Machine.execChannelStatus byte4 crcc s
  | .xoEstimateUpdate off => Sys2Proof.Machine.execXoEstimateUpdate off s
  | .reselect v => Sys2Proof.Machine.execReselect v s
  | .familyWrite v => Sys2Proof.Machine.execFamilyWrite v s
  | .dpllUpdate err => Sys2Proof.Machine.execDpllUpdate err s
  | .holdoverUpdate => Sys2Proof.Machine.execHoldoverUpdate s
  | .xoLost => Sys2Proof.Machine.execXoLost s
  | .xoReturn => Sys2Proof.Machine.execXoReturn s
  | .pllUnlock => Sys2Proof.Machine.execPllUnlock s
  | .pllLockRelease => Sys2Proof.Machine.execPllLockRelease s
  | .rillFrame n left right next e => Sys2Proof.Machine.execRillFrame n left right next e s
  | .rillLost n => Sys2Proof.Machine.execRillLost n s
  | .rearm n v => Sys2Proof.Machine.execRearm n v s
  | .maskWrite h v => Sys2Proof.Machine.execMaskWrite h v s
  | .maskApply h => Sys2Proof.Machine.execMaskApply h s
  | .jetSample n smp => Sys2Proof.Machine.execJetSample n smp s
  | .cut n cause => Sys2Proof.Machine.execCut n cause s
  | .cutEnd n cause => Sys2Proof.Machine.execCutEnd n cause s
  | .short n => Sys2Proof.Machine.execShort n s
  | .thermalUpdate t => Sys2Proof.Machine.execThermalUpdate t s
  | .pilotMeasure n vr vi ir ii => Sys2Proof.Machine.execPilotMeasure n vr vi ir ii s
  | .stageTempWrite m n v => Sys2Proof.Machine.execStageTempWrite m n v s
  | .tempStale n => Sys2Proof.Machine.execTempStale n s
  | .senseLost k => Sys2Proof.Machine.execSenseLost k s
  | .busLost k => Sys2Proof.Machine.execBusLost k s
  | .senseLive k => Sys2Proof.Machine.execSenseLive k s
  | .bankStart k v => Sys2Proof.Machine.execBankStart k v s
  | .bankStop k v => Sys2Proof.Machine.execBankStop k v s
  | .startSequence k => Sys2Proof.Machine.execStartSequence k s
  | .stopSequence k => Sys2Proof.Machine.execStopSequence k s
  | .jetRestart n v => Sys2Proof.Machine.execJetRestart n v s
  | .retry n => Sys2Proof.Machine.execRetry n s
  | .retryClear n => Sys2Proof.Machine.execRetryClear n s
  | .laneUp l => Sys2Proof.Machine.execLaneUp l s
  | .laneDown l => Sys2Proof.Machine.execLaneDown l s
  | .leaseRequest l f => Sys2Proof.Machine.execLeaseRequest l f s
  | .leaseGrant l f => Sys2Proof.Machine.execLeaseGrant l f s
  | .leaseResign l f => Sys2Proof.Machine.execLeaseResign l f s
  | .digest l f => Sys2Proof.Machine.execDigest l f s
  | .digestSend n => Sys2Proof.Machine.execDigestSend n s
  | .state l f => Sys2Proof.Machine.execState l f s
  | .mbxFrame l f => Sys2Proof.Machine.execMbxFrame l f s
  | .draftFrameData l f => Sys2Proof.Machine.execDraftFrameData l f s
  | .propose l f => Sys2Proof.Machine.execPropose l f s
  | .answer l f => Sys2Proof.Machine.execAnswer l f s
  | .decide l f => Sys2Proof.Machine.execDecide l f s
  | .sync l f tap => Sys2Proof.Machine.execSync l f tap s
  | .idle l f => Sys2Proof.Machine.execIdle l f s
  | .retransmit l => Sys2Proof.Machine.execRetransmit l s
  | .shuttleTick t peer tap => Sys2Proof.Machine.execShuttleTick t peer tap s
  | .handover => Sys2Proof.Machine.execHandover s
  | .take => Sys2Proof.Machine.execTake s
  | .ecpRequest p v6 peer sport uni d => Sys2Proof.Machine.execEcpRequest p v6 peer sport uni d s
  | .ident p => Sys2Proof.Machine.execIdent p s
  | .status p => Sys2Proof.Machine.execStatus p s
  | .regRead p => Sys2Proof.Machine.execRegRead p s
  | .regWrite p => Sys2Proof.Machine.execRegWrite p s
  | .meterRead p => Sys2Proof.Machine.execMeterRead p s
  | .faultAck p => Sys2Proof.Machine.execFaultAck p s
  | .draftOpen p => Sys2Proof.Machine.execDraftOpen p s
  | .draftData p => Sys2Proof.Machine.execDraftData p s
  | .draftValidate p => Sys2Proof.Machine.execDraftValidate p s
  | .draftCommit p => Sys2Proof.Machine.execDraftCommit p s
  | .draftAbort p => Sys2Proof.Machine.execDraftAbort p s
  | .draftStore p => Sys2Proof.Machine.execDraftStore p s
  | .editCoef p => Sys2Proof.Machine.execEditCoef p s
  | .editCard p => Sys2Proof.Machine.execEditCard p s
  | .editRelease p => Sys2Proof.Machine.execEditRelease p s
  | .timeRead p => Sys2Proof.Machine.execTimeRead p s
  | .timeStep p => Sys2Proof.Machine.execTimeStep p s
  | .timeSlew p => Sys2Proof.Machine.execTimeSlew p s
  | .plyRelease p => Sys2Proof.Machine.execPlyRelease p s
  | .jetCmd p => Sys2Proof.Machine.execJetCmd p s
  | .rillRearm p => Sys2Proof.Machine.execRillRearm p s
  | .pairCmd p => Sys2Proof.Machine.execPairCmd p s
  | .repack p => Sys2Proof.Machine.execRepack p s
  | .mode p => Sys2Proof.Machine.execMode p s
  | .twinTimeout => Sys2Proof.Machine.execTwinTimeout s
  | .mailboxGo m n v => Sys2Proof.Machine.execMailboxGo m n v s
  | .mailboxTake m n => Sys2Proof.Machine.execMailboxTake m n s
  | .doorbellSet m e v => Sys2Proof.Machine.execDoorbellSet m e v s
  | .privWrite m v => Sys2Proof.Machine.execPrivWrite m v s
  | .hostReset why => Sys2Proof.Machine.execHostReset why s
  | .vectorRearm m k v => Sys2Proof.Machine.execVectorRearm m k v s
  | .ringTailWrite m tx p v => Sys2Proof.Machine.execRingTailWrite m tx p v s
  | .rxDescriptor p q => Sys2Proof.Machine.execRxDescriptor p q s
  | .txDescriptor p n => Sys2Proof.Machine.execTxDescriptor p n s
  | .ringDisable m tx p => Sys2Proof.Machine.execRingDisable m tx p s
  | .ringConfigWrite m tx p k v => Sys2Proof.Machine.execRingConfigWrite m tx p k v s
  | .matrixBurst t new n ups => Sys2Proof.Machine.execMatrixBurst t new n ups s
  | .bitSetWrite m n ofs data strb => Sys2Proof.Machine.execBitSetWrite m n ofs data strb s
  | .bitClearWrite m n ofs data strb => Sys2Proof.Machine.execBitClearWrite m n ofs data strb s
  | .eccWriteback n ofs => Sys2Proof.Machine.execEccWriteback n ofs s
  | .remap m v => Sys2Proof.Machine.execRemap m v s
  | .semaphoreRead m k => Sys2Proof.Machine.execSemaphoreRead m k s
  | .semaphoreRelease m k v => Sys2Proof.Machine.execSemaphoreRelease m k v s
  | .requestDormant => Sys2Proof.Machine.execRequestDormant s
  | .requestStandby => Sys2Proof.Machine.execRequestStandby s
  | .requestActive => Sys2Proof.Machine.execRequestActive s
  | .leaveQuiesce n => Sys2Proof.Machine.execLeaveQuiesce n s
  | .resumeStart n => Sys2Proof.Machine.execResumeStart n s
  | .wakeEvent k => Sys2Proof.Machine.execWakeEvent k s
  | .pmicAck => Sys2Proof.Machine.execPmicAck s
  | .wakeReset => Sys2Proof.Machine.execWakeReset s
  | .ackTimeout => Sys2Proof.Machine.execAckTimeout s
  | .pmicLost => Sys2Proof.Machine.execPmicLost s
  | .wakeWindow ns => Sys2Proof.Machine.execWakeWindow ns s
  | .domainWakeDone d => Sys2Proof.Machine.execDomainWakeDone d s
  | .domainSwitchOff d => Sys2Proof.Machine.execDomainSwitchOff d s
  | .wakeBudgetWrite m v => Sys2Proof.Machine.execWakeBudgetWrite m v s
  | .wdogKick m v => Sys2Proof.Machine.execWdogKick m v s
  | .wdog => Sys2Proof.Machine.execWdog s
  | .xtLost => Sys2Proof.Machine.execXtLost s
  | .xtReturn => Sys2Proof.Machine.execXtReturn s
  | .coarseTimeWrite m v d => Sys2Proof.Machine.execCoarseTimeWrite m v d s
  | .coarseTimeRead d => Sys2Proof.Machine.execCoarseTimeRead d s
  | .powerOnReset => Sys2Proof.Machine.execPowerOnReset s
  | .devReset pin => Sys2Proof.Machine.execDevReset pin s
  | .blockReset m v => Sys2Proof.Machine.execBlockReset m v s
  | .imageReadDone ok => Sys2Proof.Machine.execImageReadDone ok s
  | .bootGo m v => Sys2Proof.Machine.execBootGo m v s
  | .twinBootPropose => Sys2Proof.Machine.execTwinBootPropose s
  | .firmwareStart bad spns fit => Sys2Proof.Machine.execFirmwareStart bad spns fit s
  | .ack k => Sys2Proof.Machine.execAck k s
  | .graceExpiry k => Sys2Proof.Machine.execGraceExpiry k s
  | .severKey m v => Sys2Proof.Machine.execSeverKey m v s
  | .errnRelease => Sys2Proof.Machine.execErrnRelease s
  | .senseDelivery k smp v => Sys2Proof.Machine.execSenseDelivery k smp v s
  | .wckoEdge n k dt tap lost => Sys2Proof.Machine.execWckoEdge n k dt tap lost s
  | .escalationMuteRelease => Sys2Proof.Machine.execEscalationMuteRelease s
  | .leavingBlockTick => Sys2Proof.Machine.execLeavingBlockTick s
  | .latchedWake => Sys2Proof.Machine.execLatchedWake s
  | .hostLinkUp speed width => Sys2Proof.Machine.execHostLinkUp speed width s
  | .vectorUnmask v => Sys2Proof.Machine.execVectorUnmask v s
  | .gweastIdleSend l => Sys2Proof.Machine.execGweastIdleSend l s
  | .mgmtDraftEnChange lvl => Sys2Proof.Machine.execMgmtDraftEnChange lvl s

end Sys2Proof.Machine
end

