-- ==== Sys2Proof/Machine/Idle.lean ====
section
/-! DEFINITION. What happens with no command waiting (log entry 7): a tick of the 500 MHz time clock, the forwarding table ends
its operation, and firmware takes what has come for it. -/

namespace Sys2Proof.Machine

/-- Firmware takes the frame at the head of every receive queue whose destination is the distaffs (R257, R258). -/
def Block.fwTake (b : Block) : Block :=
  if !b.sys.firmware then b
  else (below 6).foldl (fun x p => (below (if p = 5 then 1 else rxQueues p)).foldl (fun y q =>
    match y.rxq p q with
    | f :: r => if y.rxDest p q = 1 then (y.setRxq p q r).fwFrame p f.bytes else y
    | [] => y) x) b

/-- One tick of the time clock. -/
def Block.idle (b : Block) : Block :=
  let b1 := b.runTicks 1
  b1.fwTake.tblEnd.mbxFlush

/-- A step with nothing waiting. -/
def State.idle (s : State) : Answer := onBlk Block.idle s

end Sys2Proof.Machine
end

