-- ==== Sys2Proof/WellFormed.lean ====
section
/-! DEFINITION. When a command's operands name things the LF2048 has. The meanings are total; statements that need a range take it
from here. -/

namespace Sys2Proof
open Machine

/-- A number below a bound. -/
def isIndex (bound i : Nat) : Bool := decide (i < bound)
/-- A matrix master (R29). -/
def isMaster (m : Nat) : Bool := decide (m < 16)
/-- A 32-bit word, a 16-bit value, a byte, a 64-bit word. -/
def isWord (v : Nat) : Bool := decide (v < 2 ^ 32)
def isHalf (v : Nat) : Bool := decide (v < 2 ^ 16)
def isByte (v : Nat) : Bool := decide (v < 2 ^ 8)
def isDWord (v : Nat) : Bool := decide (v < 2 ^ 64)
/-- A byte offset in register space (R24), and that of a register (R11). -/
def isOffset (a : Nat) : Bool := decide (a < 0x1000000)
def isReg (a : Nat) : Bool := decide (a < 0x1000000) && decide (a % 4 = 0)
/-- The width of an access within one register. -/
def isWidth (a n : Nat) : Bool := decide (1 ≤ n) && decide (a % 4 + n ≤ 4)
/-- A physical address (R24), one in the cistern, an offset in a basin, and the number of a basin word. -/
def isAddr (a : Nat) : Bool := decide (a < 2 ^ 40)
def isCistern (a : Nat) : Bool := decide (0x400000000 ≤ a) && decide (a < 0x800000000)
def isBasinOfs (o : Nat) : Bool := decide (o < 0x100000)
/-- The number of a 64-bit word with ECC: of a basin, of a spindle's memories or of the cistern (R147, R231, R455). -/
def isEccWord (w : Nat) : Bool :=
  (decide (0x4000000 ≤ w) && decide (w < 0x4100000)) || (decide (0x6000000 ≤ w) && decide (w < 0x6200000) && decide (w % 0x8000 < 0x5000)) ||
  isCistern (8 * w)
/-- A write of the cistern is of 1 to 64 bytes (R236). -/
def isData (bs : Bytes) : Bool := decide (1 ≤ bs.length) && decide (bs.length ≤ 64)
/-- A domain (R90), a ply (R17), a sluice (R99), a spindle (R147), a kernel (R51), a delay line (R139), a card image (R111). -/
def isDomain (d : Nat) : Bool := decide (d < 3)
def isPly (p : Nat) : Bool := decide (p < 512)
def isSluice (n : Nat) : Bool := decide (n < 256)
def isSpindle (n : Nat) : Bool := decide (n < 64)
def isKernel (k : Nat) : Bool := decide (k < 2048)
def isLine (l : Nat) : Bool := decide (l < 2048)
def isCard (img : Nat) : Bool := decide (img < 2 ^ 128)
/-- A port of the network, a media port, a receive queue, a receive and a transmit skein. -/
def isPort (p : Nat) : Bool := decide (p < 6)
def isMedia (p : Nat) : Bool := decide (p < 4)
def isQueue (q : Nat) : Bool := decide (q < 8)
def isRxSkein (i : Nat) : Bool := decide (i < 128)
def isTxSkein (i : Nat) : Bool := decide (128 ≤ i) && decide (i < 256)
/-- A candidate (R326), a rill (R356), a jet (R370), a jet's sense input (R381), and any sense or bus input with its word. -/
def isCand (c : Nat) : Bool := decide (c < 11)
def isRill (n : Nat) : Bool := decide (n < 48)
def isJet (n : Nat) : Bool := decide (n < 32)
def isSense (i : Nat) : Bool := decide (i < 72)
def isSample (v : Nat) : Bool := decide (v < 2 ^ 32)
/-- A control port (R413), a source of faults and interrupts (R423), a vector (R424), a wake source (R471). -/
def isCtlPort (p : Nat) : Bool := decide (p < 8)
def isSource (k : Nat) : Bool := decide (k < 32)
def isVector (v : Nat) : Bool := decide (v < 64)
def isWakeSource (i : Nat) : Bool := decide (i < 4) || (decide (8 ≤ i) && decide (i < 16))
/-- The speed and the width of the host's link (R420). -/
def isSpeed (n : Nat) : Bool := decide (1 ≤ n) && decide (n ≤ 4)
def isLinkWidth (n : Nat) : Bool := n == 1 || n == 2 || n == 4
/-- A burst (R442): 1 to 16 beats of 32 bytes from a multiple of 32, within 4 KiB. A read names its bytes. -/
def isBurst (u : Burst) : Bool :=
  isMaster u.master && isAddr u.addr &&
  (if u.write then decide (u.addr % 32 = 0) && decide (1 ≤ u.beats.length) && decide (u.beats.length ≤ 16) &&
      u.beats.all (fun b => b.1.length == 32 && decide (b.2 < 2 ^ 32)) && decide (u.addr % 4096 + 32 * u.beats.length ≤ 4096)
   else decide (1 ≤ u.len) && decide (u.addr % 4096 + u.len ≤ 4096) && decide (u.addr % 32 + u.len ≤ 512))

/-- Every operand of a command is in its range. -/
def Instr.wf : Instr → Bool
  | .registerWrite m a n v => isMaster m && isOffset a && isWidth a n && isWord v
  | .rcRead m a n => isMaster m && isOffset a && isWidth a n
  | .offIsland m a _ v => isMaster m && isReg a && isWord v
  | .unmapped m a _ => isMaster m && isAddr a
  | .open_ m => isMaster m
  | .validate m => isMaster m
  | .validationDone => true
  | .commit m => isMaster m
  | .abort m => isMaster m
  | .store m => isMaster m
  | .storeDone _ _ => true
  | .commitDecision _ => true
  | .commitBlock => true
  | .coldRelease _ ps => ps.all isPly
  | .settleTimeout => true
  | .blockNumberRead m => isMaster m
  | .bootCommit _ => true
  | .familySwitch f => isIndex 2 f
  | .familyRelease => true
  | .xSkeinStop => true
  | .sluiceTick n _ _ _ => isSluice n
  | .sluiceSourceTimeout n => isSluice n
  | .sluiceLock n => isSluice n
  | .sluiceHoldExit n => isSluice n
  | .sluiceRangeExit n => isSluice n
  | .resync i v => isIndex 8 i && isWord v
  | .loomPass dom _ _ _ => isDomain dom
  | .passResume dom _ _ => isDomain dom
  | .passDeadline dom => isDomain dom
  | .overload dom => isDomain dom
  | .cardNop dom img => isDomain dom && isCard img
  | .cardMov dom img => isDomain dom && isCard img
  | .cardGain dom img => isDomain dom && isCard img
  | .cardMacz dom img => isDomain dom && isCard img
  | .cardMac dom img => isDomain dom && isCard img
  | .cardClr dom img => isDomain dom && isCard img
  | .cardSum dom img => isDomain dom && isCard img
  | .cardFade dom img => isDomain dom && isCard img
  | .cardGlide dom img => isDomain dom && isCard img
  | .cardWeir dom img => isDomain dom && isCard img
  | .cardDly dom img => isDomain dom && isCard img
  | .cardDlw dom img => isDomain dom && isCard img
  | .cardTrim dom img => isDomain dom && isCard img
  | .cardKin dom img => isDomain dom && isCard img
  | .cardKout dom img => isDomain dom && isCard img
  | .cardMeter dom img => isDomain dom && isCard img
  | .cardSlu dom img => isDomain dom && isCard img
  | .cardEnd dom => isDomain dom
  | .coefficientEdit v => isWord v
  | .cardEdit v => isWord v
  | .holdRelease v => isWord v
  | .editDue _ => true
  | .delayLinePost dom _ => isDomain dom
  | .delayLineFetch dom _ missing => isDomain dom && missing.all isLine
  | .release dom _ copied => isDomain dom && copied.all isKernel
  | .stageIn k _ => isKernel k
  | .stageOut k _ => isKernel k
  | .nop n _ => isSpindle n
  | .waitb n _ => isSpindle n
  | .br n _ => isSpindle n
  | .loop n _ => isSpindle n
  | .break_ n _ => isSpindle n
  | .add n _ => isSpindle n
  | .sub n _ => isSpindle n
  | .adds n _ => isSpindle n
  | .subs n _ => isSpindle n
  | .and n _ => isSpindle n
  | .or n _ => isSpindle n
  | .xor n _ => isSpindle n
  | .shl n _ => isSpindle n
  | .asr n _ => isSpindle n
  | .lsr n _ => isSpindle n
  | .min n _ => isSpindle n
  | .max n _ => isSpindle n
  | .abs n _ => isSpindle n
  | .neg n _ => isSpindle n
  | .mulf n _ => isSpindle n
  | .muli n _ => isSpindle n
  | .macComplex n _ => isSpindle n
  | .macConjugate n _ => isSpindle n
  | .macDualReal n _ => isSpindle n
  | .ld n _ => isSpindle n
  | .st n _ => isSpindle n
  | .ldc n _ => isSpindle n
  | .stc n _ => isSpindle n
  | .sta n _ => isSpindle n
  | .ldi n _ => isSpindle n
  | .mov n _ => isSpindle n
  | .ldacc n _ => isSpindle n
  | .aupd n _ => isSpindle n
  | .exp n _ => isSpindle n
  | .expa n _ => isSpindle n
  | .norm n _ => isSpindle n
  | .bxdr n _ => isSpindle n
  | .aclr n _ => isSpindle n
  | .bfly n _ => isSpindle n
  | .force i v => isIndex 2 i && isWord v
  | .retire n => isSpindle n
  | .return_ i v => isIndex 2 i && isWord v
  | .returnTestDone n _ => isSpindle n
  | .restartLoad k => isKernel k
  | .repackRequest => true
  | .migrationStart => true
  | .catchUp k _ => isKernel k
  | .migrationRetry k => isKernel k
  | .bobbinPowerGate _ => true
  | .init second => isIndex 3 second
  | .initDone _ chan => isIndex 8 chan
  | .fchg => true
  | .frequencyChange => true
  | .fchgDone e => isIndex 3 e.dqs.length
  | .enterRetention => true
  | .leaveRetention => true
  | .cisternRead reqs _ _ => reqs.all (fun r => isMaster r.1 && isCistern r.2.1)
  | .cisternWrite m a data _ => isMaster m && isCistern a && isData data
  | .writeBatch _ => true
  | .refresh bank _ => isIndex 128 bank
  | .tempCheck _ _ => true
  | .zqLatch => true
  | .dqsCheck chan _ _ => isIndex 8 chan
  | .bankhashWrite i v => isIndex 5 i && isWord v
  | .reservoirStart n v => isIndex 8 n && isWord v
  | .reservoirStop n v => isIndex 8 n && isWord v
  | .reservoirBegin n => isIndex 8 n
  | .frameReceive p _ _ _ => isPort p
  | .cutThrough p e _ _ => isMedia p && isMedia e
  | .frameTransmit p _ _ => isPort p
  | .txUnderrun p _ => isPort p
  | .linkUp p _ => isIndex 5 p
  | .linkDown p _ => isIndex 5 p
  | .fecWrite p v => isMedia p && isWord v
  | .rxqWrite p q v => isIndex 5 p && isQueue q && isWord v
  | .tableRead i => isIndex 4096 i
  | .tableWrite i => isIndex 4096 i
  | .tableDelete i => isIndex 4096 i
  | .tableFind i => isIndex 4096 i
  | .flushDynamic i => isIndex 4096 i
  | .flushAll i => isIndex 4096 i
  | .ageSweep => true
  | .fieldBusTransmit _ _ => true
  | .deferral _ => true
  | .collision _ => true
  | .backoff => true
  | .mdioGo v => isWord v
  | .mdioDone data => isHalf data
  | .packetRelease j _ _ _ => isTxSkein j
  | .skeinFrame p q => isMedia p && isQueue q
  | .presentation i _ => isRxSkein i
  | .skeinGapTimeout i => isRxSkein i
  | .pathDown i path => isRxSkein i && isIndex 2 path
  | .spillFetch i _ => isRxSkein i
  | .incrementWrite m v => isMaster m && isWord v
  | .slew m v => isMaster m && isWord v
  | .slewEnd => true
  | .stepRequest m v => isMaster m && isWord v
  | .stepApply => true
  | .absorbDone => true
  | .realignRelease => true
  | .nowRead => true
  | .txsRead => true
  | .spoutArm n v => isIndex 8 n && isWord v
  | .spoutDisarm n v => isIndex 8 n && isWord v
  | .spoutEdge n => isIndex 8 n
  | .spoutTrailingEdge n => isIndex 8 n
  | .capture n _ _ => isIndex 8 n
  | .captureRead n => isIndex 8 n
  | .windowArm w v => isIndex 16 w && isWord v
  | .windowClose w => isIndex 16 w
  | .measurementUpdate ms => ms.all (fun x => isCand x.1)
  | .candidateLost c => isCand c
  | .qualityFrame n _ _ => isIndex 4 n
  | .qualityStale c => isCand c
  | .announce c cls acc => isCand c && isByte cls && isByte acc
  | .channelStatus byte4 _ => isByte byte4
  | .xoEstimateUpdate _ => true
  | .reselect v => isWord v
  | .familyWrite v => isWord v
  | .dpllUpdate _ => true
  | .holdoverUpdate => true
  | .xoLost => true
  | .xoReturn => true
  | .pllUnlock => true
  | .pllLockRelease => true
  | .rillFrame n _ _ _ _ => isRill n
  | .rillLost n => isRill n
  | .rearm n v => isRill n && isWord v
  | .maskWrite h v => isIndex 6 h && isWord v
  | .maskApply h => isIndex 6 h
  | .jetSample n _ => isJet n
  | .cut n cause => isJet n && isIndex 2 cause
  | .cutEnd n cause => isJet n && isIndex 2 cause
  | .short n => isJet n
  | .thermalUpdate _ => true
  | .pilotMeasure n _ _ _ _ => isJet n
  | .stageTempWrite m n v => isMaster m && isJet n && isWord v
  | .tempStale n => isJet n
  | .senseLost i => isSense i
  | .busLost k => isIndex 8 k
  | .senseLive i => isSense i
  | .bankStart k v => isIndex 4 k && isWord v
  | .bankStop k v => isIndex 4 k && isWord v
  | .startSequence k => isIndex 4 k
  | .stopSequence k => isIndex 4 k
  | .jetRestart n v => isJet n && isWord v
  | .retry n => isJet n
  | .retryClear n => isJet n
  | .laneUp l => isIndex 2 l
  | .laneDown l => isIndex 2 l
  | .leaseRequest l _ => isIndex 2 l
  | .leaseGrant l _ => isIndex 2 l
  | .leaseResign l _ => isIndex 2 l
  | .digest l _ => isIndex 2 l
  | .digestSend _ => true
  | .state l _ => isIndex 2 l
  | .mbxFrame l _ => isIndex 2 l
  | .draftFrameData l _ => isIndex 2 l
  | .propose l _ => isIndex 2 l
  | .answer l _ => isIndex 2 l
  | .decide l _ => isIndex 2 l
  | .sync l _ _ => isIndex 2 l
  | .idle l _ => isIndex 2 l
  | .retransmit l => isIndex 2 l
  | .shuttleTick _ _ _ => true
  | .handover => true
  | .take => true
  | .ecpRequest p _ _ sport _ _ => isCtlPort p && isHalf sport
  | .ident p => isCtlPort p
  | .status p => isCtlPort p
  | .regRead p => isCtlPort p
  | .regWrite p => isCtlPort p
  | .meterRead p => isCtlPort p
  | .faultAck p => isCtlPort p
  | .draftOpen p => isCtlPort p
  | .draftData p => isCtlPort p
  | .draftValidate p => isCtlPort p
  | .draftCommit p => isCtlPort p
  | .draftAbort p => isCtlPort p
  | .draftStore p => isCtlPort p
  | .editCoef p => isCtlPort p
  | .editCard p => isCtlPort p
  | .editRelease p => isCtlPort p
  | .timeRead p => isCtlPort p
  | .timeStep p => isCtlPort p
  | .timeSlew p => isCtlPort p
  | .plyRelease p => isCtlPort p
  | .jetCmd p => isCtlPort p
  | .rillRearm p => isCtlPort p
  | .pairCmd p => isCtlPort p
  | .repack p => isCtlPort p
  | .mode p => isCtlPort p
  | .twinTimeout => true
  | .mailboxGo m n v => isMaster m && isIndex 32 n && isWord v
  | .mailboxTake m n => isMaster m && isIndex 32 n
  | .doorbellSet m e v => isMaster m && isIndex 3 e && isWord v
  | .privWrite m v => isMaster m && isWord v
  | .hostReset why => isIndex 4 why
  | .vectorRearm m i v => isMaster m && isIndex 2 i && isWord v
  | .ringTailWrite m _ p v => isMaster m && isIndex 5 p && isWord v
  | .rxDescriptor p q => isIndex 5 p && isQueue q
  | .txDescriptor p _ => isIndex 5 p
  | .ringDisable m _ p => isMaster m && isIndex 5 p
  | .ringConfigWrite m _ p i v => isMaster m && isIndex 5 p && isIndex 3 i && isWord v
  | .matrixBurst t new _ ups => isIndex 22 t && new.all isBurst && ups.all (fun x => isEccWord x.1)
  | .bitSetWrite m n ofs data strb => isMaster m && isIndex 8 n && isBasinOfs ofs && isDWord data && isByte strb
  | .bitClearWrite m n ofs data strb => isMaster m && isIndex 8 n && isBasinOfs ofs && isDWord data && isByte strb
  | .eccWriteback n ofs => isIndex 8 n && isBasinOfs ofs
  | .remap m v => isMaster m && isWord v
  | .semaphoreRead m i => isMaster m && isIndex 64 i
  | .semaphoreRelease m i v => isMaster m && isIndex 64 i && isWord v
  | .requestDormant => true
  | .requestStandby => true
  | .requestActive => true
  | .leaveQuiesce _ => true
  | .resumeStart _ => true
  | .wakeEvent i => isWakeSource i
  | .pmicAck => true
  | .wakeReset => true
  | .ackTimeout => true
  | .pmicLost => true
  | .wakeWindow _ => true
  | .domainWakeDone d => isIndex 20 d
  | .domainSwitchOff d => isIndex 20 d
  | .wakeBudgetWrite m v => isMaster m && isWord v
  | .wdogKick m v => isMaster m && isWord v
  | .wdog => true
  | .xtLost => true
  | .xtReturn => true
  | .coarseTimeWrite m v _ => isMaster m && isWord v
  | .coarseTimeRead _ => true
  | .powerOnReset => true
  | .devReset _ => true
  | .blockReset m v => isMaster m && isWord v
  | .imageReadDone _ => true
  | .bootGo m v => isMaster m && isWord v
  | .twinBootPropose => true
  | .firmwareStart bad spns fit => isByte bad && spns.all isSpindle && isHalf fit.budget && isIndex 16 fit.cfg && isIndex 3 fit.second
  | .ack k => isSource k
  | .graceExpiry k => isSource k
  | .severKey m v => isMaster m && isWord v
  | .errnRelease => true
  | .senseDelivery i _ v => isSense i && isSample v
  | .wckoEdge n _ _ tap _ => isIndex 4 n && isIndex 16 tap
  | .escalationMuteRelease => true
  | .leavingBlockTick => true
  | .latchedWake => true
  | .hostLinkUp speed width => isSpeed speed && isLinkWidth width
  | .vectorUnmask v => v.all isVector
  | .gweastIdleSend l => isIndex 2 l
  | .mgmtDraftEnChange _ => true

end Sys2Proof
end

