-- ==== Sys2Proof/Safety.lean ====
section
/-! DEFINITION. The terms in which statements about the machine are made: a command that completes, what it leaves alone, the
invariants, and when the things of each chapter are ready for a command. -/

namespace Sys2Proof.Machine

/-! ## Completion and frames -/

/-- A block but for what `settle` may change: what has left the device, and what has been logged of ERR_N, GW_SHUT and the vectors; and but
for the model's note of the records that opened in the cycle in progress. -/
def Block.calm (b : Block) : Block :=
  { b with out := [], cycle := none, sys := { b.sys with errLow := false, shutHigh := false, disarmed := [], pba := [] } }

/-- Two blocks differ in nothing but what `settle` may change. -/
def Block.like (b c : Block) : Prop := b.calm = c.calm

/-- A log that another extends: what had left is still there, newest first. -/
def logExtends (old new : List Output) : Prop := ∃ l, new = l ++ old

/-- The command answers a next state: the commands that wait and the semaphores stand, and the block is as `P` says. -/
def Yields (i : Instr) (s : State) (P : Block → Prop) : Prop :=
  ∃ t, exec i s = .next t ∧ t.pending = s.pending ∧ t.sems = s.sems ∧ P t.blk

/-! ## Invariants -/

/-- What R448 leaves a semaphore to be: one of 64, free, or held by a master that reaches register space: 13, 14 or 15. -/
def SemsOk (t : Tab Nat) : Prop := tabWf 0 t = true ∧ ∀ e ∈ t, e.1 < 64 ∧ 14 ≤ e.2 ∧ e.2 ≤ 16

/-- Memory in its canonical form. -/
def MemOk (b : Block) : Prop := tabWf memDefault b.mem = true

/-! ## Time -/

/-- Time moves on for this block with no step and no realign: none is pending, and the ticks stand within 10 us of TSU time, which neither
the increment nor the slew moves faster than the tick generator follows; or a realign is already in progress (R310, R311). -/
def Block.steady (b : Block) : Prop :=
  b.tsu.step = none ∧ (b.tsu.realign = true ∨ (b.tsu.rem.natAbs ≤ tenUs ∧
    (((b.tsu.incrNext.getD b.tsu.incr : Nat) : Int) - 2 ^ 33).natAbs ≤ slackTick.toNat ∧
    (b.tsu.slewCnt = 0 ∨ (((b.tsu.incrNext.getD b.tsu.incr : Nat) : Int) + b.tsu.slewFrac - 2 ^ 33).natAbs ≤ slackTick.toNat)))

/-! ## Registers at the matrix -/

/-- Bit `i` of the register at `a`. -/
def Block.rb (b : Block) (a i : Nat) : Bool := (b.reg a).testBit i

/-- Nothing of the block changes but registers, and of them only these. -/
def OnlyRegs (as : List Nat) (b c : Block) : Prop := (∀ a, a ∉ as → c.reg a = b.reg a) ∧ c.like { b with regs := c.regs }

/-- The registers in which MTX records a fault (R457). -/
def mtxRegs : List Nat := [Reg.MTX_INT, Reg.MTX_ERR_ADDR_LO, Reg.MTX_ERR_ADDR_HI, Reg.MTX_ERR_INFO, Reg.MTX_CNT]

/-- MTX has recorded a fault of master `m` at physical address `a`, and nothing else has changed (R457, R487). -/
def MtxRecorded (code m a : Nat) (write : Bool) (b c : Block) : Prop :=
  c.rb Reg.MTX_INT (code - 1) = true ∧ c.reg64 Reg.MTX_ERR_ADDR_LO Reg.MTX_ERR_ADDR_HI = a % 2 ^ 40 ∧
  c.reg Reg.MTX_ERR_INFO = code * 256 + b2n write * 16 + m % 16 ∧
  c.rfld Reg.MTX_CNT (if code = mtxCUT then 16 else 0) 16 = min 65535 (b.rfld Reg.MTX_CNT (if code = mtxCUT then 16 else 0) 16 + 1) ∧
  (c.frec srcMTX).pend = true ∧ ((b.frec srcMTX).pend = false → (c.frec srcMTX).code = code) ∧
  (∀ r, r ∉ mtxRegs → c.reg r = b.reg r) ∧
  c.like { b with regs := c.regs, flt := c.flt, errPulse := c.errPulse, dFault := c.dFault }

/-- Master `m` may write the register at `a` now: it reaches it, the host's level permits it, its page holds a block and that block's
island is up. -/
def CanWrite (m a : Nat) (b : Block) : Prop :=
  reachesReg m a = true ∧ (m = 15 → hostMayWrite (b.level 0) a = true) ∧ (pageBlk (a / 65536)).isSome = true ∧ b.islandOff a = false

/-- Master `m` may read the register at `a` now. -/
def CanRead (m a : Nat) (b : Block) : Prop :=
  reachesReg m a = true ∧ (m = 15 → hostMayRead (b.level 0) a = true) ∧ mayReadMail m a = true ∧ (pageBlk (a / 65536)).isSome = true ∧
  b.islandOff a = false

/-- A register with no rule of its own for writes. -/
def PlainWrite (a : Nat) : Prop :=
  semAt a = none ∧ a ≠ Reg.PWR_BLK_RST ∧ a ≠ Reg.PWR_CMD ∧ fltSrc a = none ∧
  ((pageBlk (a / 65536)).elim [] (fun p => pageRules p.1 p.2)).find? (fun r =>
    decide (r.base ≤ a) && (a - r.base) % r.stride == 0 && decide ((a - r.base) / r.stride < r.count)) = none

/-- A register with no rule of its own for reads. -/
def PlainRead (a : Nat) : Prop :=
  semAt a = none ∧ a ∉ [Reg.PWR_AON_SUB, Reg.SYS_BLK_LO, Reg.TSU_NOW_NS, Reg.TSU_TXS_NS, Reg.SYS_SEM_HELD_LO,
    Reg.SYS_SEM_HELD_HI] ∧ arrAt (Reg.TSU_CAP_NS 0) 16 8 a = none ∧ arrAt (Reg.LOM_MTR_PK 0) 8 512 a = none

/-! ## Drafts and services -/

/-- Master `m` may give draft commands now (R65, R494): its source is permitted and the device is not severed. -/
def MayDraft (m : Nat) (b : Block) : Prop :=
  CanWrite m Reg.SYS_DFT_CMD b ∧ b.srcRefused (masterSource m) = 0 ∧ b.severed = false

/-- The oldest request that waits on port `p` is `r`, one for service `op`, not for the twin, whose level and fields pass steps 8 and 9 of
R436. -/
def Begins (b : Block) (op p : Nat) (r : Req) : Prop :=
  b.sys.waiting.find? (fun q => q.port == p) = some r ∧ r.op = op ∧ r.twin = false ∧
  b.beginRefused r = 0

/-- An ECP request's answer has left its port, if the port is up (R437). -/
def Answered (r : Req) (status : Nat) (pay : Bytes) (b : Block) : Prop :=
  r.box = none → b.portUp (ethPort r.port) = true → .ecp r.port r.peer r.sport (ecpAnswer r status pay) ∈ b.out

/-- The request has left the queue of those that wait. -/
def Taken (r : Req) (b c : Block) : Prop := c.sys.waiting = b.sys.waiting.erase r

/-- The state in which a begun request has left those that wait. -/
def State.taken (s : State) (r : Req) : State := s.mapBlk (fun b => b.setSys (fun y => { y with waiting := y.waiting.erase r }))

/-- What a service of a begun request leaves that has answered it with the status `st` and the bytes `pay`: the request waits no more, and
the commands that wait and the semaphores stand. -/
def Served (r : Req) (s : State) (st : Nat) (pay : Bytes) (t : State) : Prop :=
  t.pending = s.pending ∧ t.sems = s.sems ∧ Answered r st pay t.blk ∧ Taken r s.blk t.blk

/-- The services (R439): the OPCODE of each, and the command that begins it. -/
def IsSvc (op : Nat) (c : Nat → Instr) : Prop :=
  (op, c) ∈ ([(0x01, .ident), (0x02, .status), (0x03, .regRead), (0x04, .regWrite), (0x05, .meterRead), (0x06, .faultAck),
    (0x10, .draftOpen), (0x11, .draftData), (0x12, .draftValidate), (0x13, .draftCommit), (0x14, .draftAbort), (0x15, .draftStore),
    (0x20, .editCoef), (0x21, .editCard), (0x22, .editRelease), (0x30, .timeRead), (0x31, .timeStep), (0x32, .timeSlew),
    (0x40, .plyRelease), (0x41, .jetCmd), (0x42, .rillRearm), (0x50, .pairCmd), (0x51, .repack), (0x60, .mode)] :
    List (Nat × (Nat → Instr)))

/-! ## Spindles -/

/-- Spindle `n` runs, the word `w` at its PC is a legal instruction `o`, and no word it reads of its local memories has an error. -/
def SpnAt (b : Block) (n : Nat) (o : SpnOp) (w : Nat) : Prop :=
  (b.spn n).run = true ∧ pcIn (b.spn n) = true ∧ b.spnWord n = w ∧ spnOpOf w = some o ∧ spnLegal (b.spn n) o w = true ∧
  b.localEcc n = .ok

/-- What the end of an instruction that is no END of an active loop leaves: the next word is the one that follows. -/
def GoesOn (x y : Spindle) : Prop := x.atEnd = false → y.pc = x.pc + 1 ∧ y.loops = x.loops ∧ y.lc = x.lc

/-- What runs on a spindle stays: the kernel, its block and where it stands among the due entries. -/
def SameKernel (x y : Spindle) : Prop :=
  y.run = x.run ∧ y.isol = x.isol ∧ y.entry = x.entry ∧ y.blk = x.blk ∧ y.desc = x.desc ∧ y.todo = x.todo ∧ y.rel = x.rel ∧
  y.kStart = x.kStart ∧ y.aovLast = x.aovLast ∧ y.sovLast = x.sovLast

/-- Nothing of the block changes but spindle `n`. -/
def OnlySpn (n : Nat) (b c : Block) : Prop := c.like (b.setSpn n (c.spn n))

/-- What an ALU instruction leaves of spindle `n` (R186, R187): DD holds `r` of DA and b, and nothing else has changed but timing. -/
def AluLeaves (n w : Nat) (r : BitVec 32 → BitVec 32 → BitVec 32) (b c : Block) : Prop :=
  let x := b.spn n
  let y := c.spn n
  y.dreg (fld w 50 4) = r (x.dreg (fld w 46 4)) (if bit w 41 then BitVec.ofNat 32 w else x.dreg (fld w 42 4)) ∧
  (∀ i, i ≠ fld w 50 4 → y.dreg i = x.dreg i) ∧
  y.a = x.a ∧ y.m = x.m ∧ y.l = x.l ∧ y.acc = x.acc ∧ y.bxd = x.bxd ∧ y.aov = x.aov ∧ y.sov = x.sov ∧
  SameKernel x y ∧ GoesOn x y ∧ OnlySpn n b c

/-- The commands of the spindles' instructions. -/
def spnCmds : List (Nat → Ecc → Instr) :=
  [.nop, .waitb, .br, .loop, .break_, .add, .sub, .adds, .subs, .and, .or, .xor, .shl, .asr, .lsr, .min, .max, .abs, .neg, .mulf,
   .muli, .macComplex, .macConjugate, .macDualReal, .ld, .st, .ldc, .stc, .sta, .ldi, .mov, .ldacc, .aupd, .exp, .expa, .norm,
   .bxdr, .aclr, .bfly]

/-- The words of an instruction of the table whose class and operation code are these. -/
def Coded (o : SpnOp) (cls op : Nat) : Prop := ∀ w, spnOpOf w = some o ↔ fld w 60 4 = cls ∧ fld w 54 6 = op

/-- The A registers after an instruction with these address groups, the last of them that names a register deciding (R177). -/
def GroupsMove (gs : List Grp) (x y : Spindle) : Prop :=
  (∀ i, i ∉ gs.map Grp.an → y.areg i = x.areg i) ∧
  ∀ g l r, gs = l ++ g :: r → g.an ∉ r.map Grp.an → y.areg g.an = grpNext x g % 2 ^ 24

/-- An access of `n` bytes at a data-space address lies in its space and is aligned (R149, R178). -/
def InSpace (b : Block) (k a n : Nat) : Prop := accessOk (b.spb (b.spn k).desc.dom) (b.spn k).desc a n = true

/-- Where such an access lies in memory. -/
def SpnPhys (b : Block) (k a : Nat) : Nat := physAddr k (b.spn k) (b.spb (b.spn k).desc.dom) a

/-- Spindle `n` has at its PC the MAC `w`, whose operands lie in X and in Y, in bounds, and no word of memory is in error (R149, R188). -/
def MacReady (b : Block) (n : Nat) (o : SpnOp) (w : Nat) : Prop :=
  SpnAt b n o w ∧ b.sys.memErr = [] ∧
  (let x := b.spn n
   let ax := x.areg (grpOf (fld w 46 8)).an
   let ay := x.areg (grpOf (fld w 38 8)).an
   spaceOf ax = .x ∧ spaceOf ay = .y ∧ InSpace b n ax 8 ∧ InSpace b n ay 8)

/-- What a MAC (R156, R188, R189) leaves of spindle `n`: from the complex words a + bj at XOP and c + dj at YOP, the term's two parts in
units of 2^-62 are `t a b c d`. -/
def MacLeaves (n w : Nat) (t : Int → Int → Int → Int → Int × Int) (b c : Block) : Prop :=
  let x := b.spn n
  let y := c.spn n
  let gx := grpOf (fld w 46 8)
  let gy := grpOf (fld w 38 8)
  let vx := b.rdLE (SpnPhys b n (x.areg gx.an)) 8
  let vy := b.rdLE (SpnPhys b n (x.areg gy.an)) 8
  let e := t (cre vx) (cim vx) (cre vy) (cim vy)
  let sg : Int := if bit w 57 then -1 else 1
  let i := 2 * fld w 55 1
  let re := sg * e.1 * 2 ^ 9 + (if bit w 56 then 0 else x.accP i)
  let im := sg * e.2 * 2 ^ 9 + (if bit w 56 then 0 else x.accP (i + 1))
  y.accP i = satS 80 re ∧ y.accP (i + 1) = satS 80 im ∧
  y.aov = (x.aov || decide (satS 80 re ≠ re) || decide (satS 80 im ≠ im)) ∧
  (∀ j, j ≠ i → j ≠ i + 1 → y.accP j = x.accP j) ∧
  GroupsMove [gx, gy] x y ∧ y.d = x.d ∧ y.m = x.m ∧ y.l = x.l ∧ y.bxd = x.bxd ∧ y.sov = x.sov ∧
  SameKernel x y ∧ GoesOn x y ∧ OnlySpn n b c

/-- The address that a load or store of spindle `n` names by a group and a byte offset (R177, R191). -/
def SpnAddr (b : Block) (n : Nat) (g : Grp) (ofs : Int) : Nat := grpAddr (b.spn n) g ofs

/-- Spindle `n` has at its PC a load or store whose `k` bytes lie in bounds where its group says; no word of memory is in error, and the
bytes are not those of a cistern out of service (R149, R191, R241). -/
def AccessReady (b : Block) (n : Nat) (o : SpnOp) (w : Nat) (g : Grp) (ofs : Int) (k : Nat) : Prop :=
  SpnAt b n o w ∧ b.sys.memErr = [] ∧ InSpace b n (SpnAddr b n g ofs) k ∧
  (SpnPhys b n (SpnAddr b n g ofs) + k ≤ cisternBase ∨ b.cst.st = 2)

/-- What a load leaves (R191): D holds the word, D+1 the high half of a wide one, the address register moves, and nothing else changes but
timing. -/
def LoadLeaves (n w : Nat) (wide : Bool) (b c : Block) : Prop :=
  let x := b.spn n
  let y := c.spn n
  let g := grpOf (fld w 42 8)
  let v := b.rdLE (SpnPhys b n (SpnAddr b n g (toS 16 (fld w 26 16)))) (if wide then 8 else 4)
  y.dreg (fld w 50 4) = BitVec.ofNat 32 v ∧ (wide → y.dreg (fld w 50 4 + 1) = BitVec.ofNat 32 (v / 2 ^ 32)) ∧
  (∀ i, i ≠ fld w 50 4 → (wide → i ≠ fld w 50 4 + 1) → y.dreg i = x.dreg i) ∧
  GroupsMove [g] x y ∧ y.m = x.m ∧ y.l = x.l ∧ y.acc = x.acc ∧ y.bxd = x.bxd ∧ y.aov = x.aov ∧ y.sov = x.sov ∧
  SameKernel x y ∧ GoesOn x y ∧ c.like { (b.setSpn n y) with free := c.free }

/-- What a store of the words `ws` leaves (R191, R192): they stand at the address its group gives, and no other byte of memory has changed;
BX takes in the words stored; SOV sets where `sat` says. -/
def StoreLeaves (n : Nat) (g : Grp) (ofs : Int) (ws : List (BitVec 32)) (bx sat : Bool) (b c : Block) : Prop :=
  let x := b.spn n
  let y := c.spn n
  let p := SpnPhys b n (SpnAddr b n g ofs)
  c.rdBytes p (4 * ws.length) = ws.flatMap (fun v => leBytes 4 v.toNat) ∧
  (∀ q, q < p ∨ p + 4 * ws.length ≤ q → c.rd8 q = b.rd8 q) ∧
  y.bxd = (if bx then ws.foldl (fun m v => min m (redundant 32 v.toInt)) x.bxd else x.bxd) ∧
  y.sov = (x.sov || sat) ∧ y.aov = x.aov ∧ y.d = x.d ∧ GroupsMove [g] x y ∧ y.m = x.m ∧ y.l = x.l ∧ y.acc = x.acc ∧
  SameKernel x y ∧ GoesOn x y ∧ c.like { (b.setSpn n y) with mem := c.mem, free := c.free }

/-- The words that STA stores of spindle `n`, and whether each saturated (R157, R192). -/
def staWords (x : Spindle) (w : Nat) : List (Int × Bool) :=
  let i := 2 * fld w 53 1
  (if fld w 51 2 = 0 then [i] else if fld w 51 2 = 1 then [i + 1] else [i, i + 1]).map (fun j =>
    storeRound 71 (fld w 49 2) (toS 4 (fld w 45 4)) (x.accP j))

/-- What a move or special instruction that touches one spindle and no memory leaves: its registers as `P` says, the kernel, AOV and SOV
as they were, and nothing else changed. -/
def RegLeaves (n : Nat) (P : Spindle → Spindle → Prop) (b c : Block) : Prop :=
  P (b.spn n) (c.spn n) ∧ SameKernel (b.spn n) (c.spn n) ∧ (c.spn n).aov = (b.spn n).aov ∧ (c.spn n).sov = (b.spn n).sov ∧ OnlySpn n b c

/-! ## Cards -/

/-- `z` is the integer nearest to v / 2^n, the even one of two (R115). -/
def HalfEven (v : Int) (n : Nat) (z : Int) : Prop :=
  2 * (z * 2 ^ n - v).natAbs ≤ 2 ^ n ∧ (2 * (z * 2 ^ n - v).natAbs = 2 ^ n → 0 < n → z % 2 = 0)

/-- An integer limited to the range of `n` bits, two's complement. -/
def clampS (n : Nat) (z : Int) : Int := max (-(2 ^ (n - 1))) (min (2 ^ (n - 1) - 1) z)

/-- `y` is the word that a card leaves of an exact value with `fb` fraction bits: INV, one rounding to the lane's format, and SAT,
wrapping, or a bus lane's saturation (R115). -/
def RoundsTo (k : Card) (l fb : Nat) (v y : Int) : Prop :=
  ∃ z, HalfEven (if k.inv then -v else v) (if isBus l then fb - 48 else fb - 31) z ∧
    y = if isBus l then clampS 64 z else if k.sat then clampS 32 z else (BitVec.ofInt 32 z).toInt

/-- Lane `l` takes the word `y`, or zero if its ply is muted and its writer is to deliver zeros, for the pass's sample, before its
words of earlier samples; no other lane changes. -/
def LaneTakes (dom : Nat) (b c : Block) (l : Nat) (y : Int) : Prop :=
  c.lane l (b.passSample dom) = BitVec.ofInt 64 (if b.silent l then 0 else y) ∧
  tget [] c.loom.lanes l = wordPut (b.passSample dom) (BitVec.ofInt 64 (if b.silent l then 0 else y)) (tget [] b.loom.lanes l) ∧
  ∀ q, q ≠ l → tget [] c.loom.lanes q = tget [] b.loom.lanes q

/-- Nothing changes but the loom's lanes, accumulators, slots and passes in progress. -/
def LoomOnly (b c : Block) : Prop :=
  c.like { b with loom := { b.loom with lanes := c.loom.lanes, acc := c.loom.acc, slots := c.loom.slots, passes := c.loom.passes,
                                        dlyOut := c.loom.dlyOut } }

/-- What a card on its own leaves that writes one rounded word: DST takes the value `v`, which has `fb` fraction bits, rounded once. -/
def CardLeaves (dom : Nat) (k : Card) (fb : Nat) (v : Int) (b c : Block) : Prop :=
  ∃ y, RoundsTo k k.dst fb v y ∧ LaneTakes dom b c k.dst y ∧ c.loom.slots = b.loom.slots ∧ LoomOnly b c

/-- Whether a card finds its slot as a card of its own kind left it (R121). -/
def Block.slotKept (b : Block) (k : SlotKind) (i : Nat) : Bool := !(b.slot i).fresh && decide ((b.slot i).kind = k)

/-- What a card with a gain slot, FADE or GLIDE, leaves: the slot is `P` of the slot as the card finds it, or initialised (R137), DST takes
x times the new gain, and every other slot stands. -/
def SlotLeaves (dom : Nat) (k : Card) (kind : SlotKind) (P : Int → Slot → Slot → Prop) (b c : Block) : Prop :=
  let smp := b.passSample dom
  let g := b.coefAt dom smp k.coef
  ∃ (x : Slot) (y : Int),
    (if b.slotKept kind k.state then x = b.slot k.state
     else x.g = (if bit k.opnd 6 then 0 else g) ∧ x.tgt = g ∧ x.g0 = x.g ∧ x.n = 0) ∧
    P g x (c.slot k.state) ∧ (c.slot k.state).kind = kind ∧ (c.slot k.state).fresh = false ∧
    (∀ i, i ≠ k.state → c.slot i = b.slot i) ∧
    RoundsTo k k.dst 75 (b.cardX dom smp k.src * (c.slot k.state).g) y ∧ LaneTakes dom b c k.dst y ∧ LoomOnly b c

/-- The word that DLW, KIN, SLU and METER hand on: x in Q0.31, after INV, saturated or wrapped (R115). -/
def Word31 (k : Card) (x y : Int) : Prop :=
  y = (let v := if k.inv then -x else x; if k.sat then clampS 32 v else (BitVec.ofInt 32 v).toInt)

/-! ## Jets -/

/-- A bank with no step of a start, of a stop or of a hard stop to take (R383, R384). -/
def Block.bankStill (b : Block) (k : Nat) : Prop :=
  b.jet.hardAt = none ∧ ((b.bank k).st = 0 ∧ (b.bank k).startAt = none ∨ (b.bank k).st = 2 ∧ (b.bank k).stopAt = none) ∧
  ∀ n ∈ jetsOf k, (b.jetOf n).st ≠ 1 ∧ ((b.jetOf n).st = 0 → (b.jetOf n).startAt = none) ∧
    ((b.jetOf n).st = 2 → (b.jetOf n).stopAt = none) ∧ ((b.jetOf n).st = 3 → (b.jetOf n).offAt = none)

/-- No jet changes but jet `n`, and no bank. -/
def OnlyJet (n : Nat) (b c : Block) : Prop := (∀ m, m ≠ n → c.jetOf m = b.jetOf m) ∧ ∀ k, c.bank k = b.bank k

/-! ## The pair -/

/-- A frame that lane `l` takes (R395, R396): the lane is UP, the frame breaks no rule, a reliable one is the next in order, and it is of
this TYPE and, for DRAFT and LEASE frames, KIND. -/
def GwTakes (b : Block) (type : Nat) (kind : Option Nat) (l : Nat) (f : Bytes) : Prop :=
  (b.gwLane l).up = true ∧ b.gwCode f = 0 ∧ gwType f = type ∧ kind.all (fun k => u8 (gwPay f) 0 == k) = true ∧
  ((type = 4 ∨ type = 5) → u16 f 2 = ((b.gwLane l).rxSeq + 1) % 65536)

/-- The last frame that waits on a lane for its acknowledgement is this one. -/
def LastQueued (b : Block) (l type : Nat) (pay : Bytes) : Prop :=
  (b.gwLane l).unacked.getLast?.map (fun f => (f.type, f.payload)) = some (type, pay)

/-- A LEASE frame of block `n` has left on lane `l` (R393). -/
def LeaseLeft (b c : Block) (l n kind value expiry : Nat) : Prop :=
  .gweast l 1 (gwBytes 1 0 0 (b.gwLane l).rxSeq (b.reg Reg.PAR_ID) n (leBytes 1 kind ++ leBytes 1 (b2n b.sys.side) ++ leBytes 2 0 ++
    leBytes 8 value ++ leBytes 8 expiry ++ leBytes 4 0)) ∈ c.out

/-- The commands that bring a frame of the Gweast link. -/
def gwCmds : List (Nat → Bytes → Instr) :=
  [.leaseRequest, .leaseGrant, .leaseResign, .digest, .state, .mbxFrame, .draftFrameData, .propose, .answer, .decide,
   fun l f => .sync l f 0, .idle]

end Sys2Proof.Machine
end

