-- ==== Sys2Proof/Certificates/Slice0/Obligations.lean ====
section
/-! DEFINITION. The statements for the provers. -/

open Sys2Proof Sys2Proof.Machine

/-! ## The machine as a whole -/

/-- A step with commands waiting runs the one in front on the rest of the queue. -/
def Obligations.StepRunsTheFrontCommand : Prop :=
  ∀ (s : State) (c : Instr) (rest : List Instr), s.pending = c :: rest → step s = exec c { s with pending := rest }

/-- A step with nothing waiting is one tick of the time clock; the queue and the semaphores stand, and where no frame, message or table
operation waits for the firmware and no step of time is pending, nothing else changes. The model's own choice: log entry 7. -/
def Obligations.StepIdles : Prop :=
  ∀ s : State, s.pending = [] → ∃ t, step s = .next t ∧ t.pending = [] ∧ t.sems = s.sems ∧
    (s.blk.sys.firmware = false → t.blk.tsu.ticks = s.blk.tsu.ticks + 1) ∧
    (s.blk.sys.firmware = false → s.blk.net.tbl = none → s.blk.sys.msgs = [] → s.blk.steady →
      t.blk.like { s.blk with tsu := s.blk.tsu.run 1 })

/-- Every command answers a next state and leaves the commands that wait as they are: errors of the hardware are effects on its state. -/
def Obligations.EveryCommandCompletes : Prop :=
  ∀ (c : Instr) (s : State), ∃ t, exec c s = .next t ∧ t.pending = s.pending

/-- The machine after reset: the invariants hold, nothing waits, nothing has left, and registers of every chapter read what their
tables give. -/
def Obligations.ResetState : Prop :=
  let b := State.reset.blk
  SemsOk State.reset.sems ∧ MemOk b ∧ State.reset.pending = [] ∧ b.out = [] ∧ b.reg Reg.SYS_ID = 0x4C462048 ∧
  b.reg Reg.LOM_SLACK = 0xFFFF ∧ b.reg (Reg.LOM_MTR_PK 0) = 0x8000 ∧ b.stg.st = .empty ∧ b.stg.force = none ∧ b.cst.st = 0 ∧
  (b.spn 0).run = false ∧ b.tsu.step = none ∧ b.par.st = 0 ∧ b.frec srcSYS = {} ∧ b.sys.waiting = []

/-- R448 over every step: from every state whose semaphores are 64, each free or held by a master that reaches register space, a step
gives such a state again. -/
def Obligations.SemaphoresStaySound : Prop :=
  ∀ s t : State, SemsOk s.sems → step s = .next t → SemsOk t.sems

/-- Memory keeps its canonical form: from every state whose memory has it, a step gives such a state again. -/
def Obligations.MemoryStaysCanonical : Prop :=
  ∀ s t : State, MemOk s.blk → step s = .next t → MemOk t.blk

/-- Only the semaphore's own accesses and resets of masters change a semaphore: every command outside these leaves all 64. -/
def Obligations.SemaphoresChangeOnlyByAccess : Prop :=
  ∀ (c : Instr) (s : State), (match c with
      | .registerWrite .. | .rcRead .. | .offIsland .. | .semaphoreRead .. | .semaphoreRelease .. | .matrixBurst .. | .regRead _
      | .regWrite _ | .graceExpiry _ | .hostReset _ | .blockReset .. | .wdog | .powerOnReset | .devReset _ | .unmapped ..
      | .open_ _ | .validate _ | .commit _ | .abort _ | .store _ | .blockNumberRead _ | .remap .. | .wakeBudgetWrite .. | .wdogKick ..
      | .bootGo .. | .mailboxGo .. | .mailboxTake .. | .doorbellSet .. | .privWrite .. | .vectorRearm .. | .ringTailWrite ..
      | .ringDisable .. | .ringConfigWrite .. | .meterRead _ | .faultAck _ | .jetCmd _ | .rillRearm _ => False
      | _ => True) → ∃ t, exec c s = .next t ∧ t.sems = s.sems

/-! ## Register access (spec/00_scope.md, spec/01_architecture.md) -/

/-- R7, R11: a write by firmware of a register with no rule of its own: RW fields take the value, W1C bits written 1 clear, W1S bits written
1 set, every other bit and every other register stays; and a write that is not of one aligned word has no effect. -/
def Obligations.RegisterWrites : Prop :=
  (∀ (s : State) (m a v : Nat) (r : RegRow), m = 13 ∨ m = 14 → a % 4 = 0 → CanWrite m a s.blk → PlainWrite a → regRow a = some r →
     v < 2 ^ 32 → Yields (.registerWrite m a 4 v) s (fun b => OnlyRegs [a] s.blk b ∧ ∀ i, i < 32 →
       b.rb a i = (if r.w1s.testBit i && v.testBit i then true
         else if r.w1c.testBit i && v.testBit i then false
         else if r.rw.testBit i then v.testBit i else s.blk.rb a i))) ∧
  (∀ (s : State) (m a n v : Nat), CanWrite m (a / 4 * 4) s.blk → ¬(n = 4 ∧ a % 4 = 0) →
     Yields (.registerWrite m a n v) s (fun b => b.like s.blk))

/-- R11: a read of any width by firmware of a register that holds RC fields gives the addressed bytes, returns every RC field to its reset
value, and changes no other bit and no other register. -/
def Obligations.ReadClearsRc : Prop :=
  ∀ (s : State) (m a k n : Nat) (r : RegRow), m = 13 ∨ m = 14 → a % 4 = 0 → 1 ≤ n → k + n ≤ 4 → CanRead m a s.blk → PlainRead a →
    regRow a = some r → Yields (.rcRead m (a + k) n) s (fun b =>
      .read (regBase + a + k) n (s.blk.view a % 2 ^ 32 / 256 ^ k % 256 ^ n) ∈ b.out ∧ OnlyRegs [a] s.blk b ∧
      ∀ i, i < 32 → b.rb a i = (if r.rc.testBit i then (regReset a).getLsbD i else s.blk.rb a i))

/-- R15, R25, R445, R457: an access to a register of an island that is down, to an unmapped address, or out of a master's reach has no
effect, a read of it gives 0, and MTX records OFF, UNMAPPED or REACH. -/
def Obligations.AccessesThatFail : Prop :=
  (∀ (s : State) (m a v : Nat) (write : Bool), m = 13 ∨ m = 14 → s.blk.islandOff a = true →
     Yields (.offIsland m a write v) s (fun b => MtxRecorded mtxOFF m (regBase + a) write s.blk b ∧
       (write = false → .read (regBase + a) 4 0 ∈ b.out))) ∧
  (∀ (s : State) (m a : Nat) (write : Bool), m = 13 ∨ m = 14 → a < 2 ^ 40 →
     (targetOf a = 21 ∧ 0x200000 ≤ a) ∨ (targetOf a = 0 ∧ write = true) ∨
       (targetOf a = 20 ∧ s.blk.domOn 12 = true ∧ s.blk.cstSize ≤ a - cisternBase) ∨
       (targetOf a = 19 ∧ a % 4 = 0 ∧ pageBlk ((a - regBase) / 65536) = none) →
     Yields (.unmapped m a write) s (fun b => MtxRecorded mtxUNMAPPED m a write s.blk b ∧
       (write = false → ∃ n, .read a n 0 ∈ b.out))) ∧
  (∀ (s : State) (m a v : Nat), a % 4 = 0 → reachesReg m a = false →
     Yields (.registerWrite m a 4 v) s (fun b => MtxRecorded mtxREACH m (regBase + a) true s.blk b))

/-! ## Drafts (spec/02_draft.md) -/

/-- R66, R67, R69, R72: what OPEN, VALIDATE, COMMIT, ABORT and STORE of a permitted master do to the staged draft in the states that take
them, on a unit that is not paired; each completes there, the commands that wait and the semaphores stand, and no memory but the held copy
of VALIDATE changes. -/
def Obligations.DraftCommands : Prop :=
  ∀ (s : State) (m : Nat), MayDraft m s.blk →
    let g := s.blk.stg
    let own := masterSource m
    (g.st = .empty → ∃ t, exec (.open_ m) s = .next t ∧ t.pending = s.pending ∧ t.sems = s.sems ∧
      t.blk.stg = { g with st := .loading, owner := own } ∧ t.blk.mem = s.blk.mem) ∧
    (g.st = .rejected → g.owner = own → ∃ t, exec (.open_ m) s = .next t ∧ t.pending = s.pending ∧ t.sems = s.sems ∧
      t.blk.stg = { g with st := .loading } ∧ t.blk.mem = s.blk.mem) ∧
    (g.st = .valid ∨ g.st = .armed ∨ g.st = .validating → ∃ t, exec (.open_ m) s = .next t ∧ t.pending = s.pending ∧ t.blk.stg = g) ∧
    (g.st = .loading → g.owner = own → s.blk.paired = false → ∃ t, exec (.validate m) s = .next t ∧ t.pending = s.pending ∧
      t.sems = s.sems ∧
      (let len := s.blk.rfld Reg.SYS_DFT_LEN 0 25
       let bs := s.blk.rdBytes s.blk.stagingBase (min 0x1000000 len)
       t.blk.stg = { g with st := .validating, held := bs, heldLen := len, eff := none })) ∧
    (g.st = .valid → g.owner = own → s.blk.par.proposed = none → s.blk.paired = false → ∀ d, g.eff = some d →
      let n0 := s.blk.reg64 Reg.SYS_DFT_CBLK_LO Reg.SYS_DFT_CBLK_HI
      let least := s.blk.blk + max 24 g.prep
      (n0 = 0 ∨ least ≤ n0 → ∃ t, exec (.commit m) s = .next t ∧ t.pending = s.pending ∧ t.sems = s.sems ∧
        t.blk.stg = { g with st := .armed, armedAt := if n0 = 0 then least else n0, err := 0 } ∧ t.blk.crl.held = true ∧
        t.blk.mem = s.blk.mem) ∧
      (n0 ≠ 0 → n0 < least → ∃ t, exec (.commit m) s = .next t ∧ t.pending = s.pending ∧
        t.blk.stg = { g with err := 0x80, errInst := 0, errTag := 0, errOfs := 0 } ∧ t.blk.rb Reg.SYS_DFT_INT 1 = true)) ∧
    (g.owner = own ∨ m = 15 → g.st = .loading ∨ g.st = .rejected ∨ g.st = .valid → ∃ t, exec (.abort m) s = .next t ∧
      t.pending = s.pending ∧ t.sems = s.sems ∧ t.blk.stg.st = .empty ∧ t.blk.stg.owner = .none ∧ t.blk.stg.eff = none ∧
      t.blk.stg.force = g.force ∧ t.blk.mem = s.blk.mem) ∧
    (g.owner = own ∨ m = 15 → g.st = .armed → s.blk.blk + 1 < g.armedAt → ∃ t, exec (.abort m) s = .next t ∧ t.pending = s.pending ∧
      t.blk.stg = { g with st := .valid } ∧ t.blk.crl.held = false) ∧
    (g.st = .valid → g.owner = own → ∃ t, exec (.store m) s = .next t ∧ t.pending = s.pending ∧ t.sems = s.sems ∧
      t.blk.stg = { g with st := .storing } ∧ t.blk.mem = s.blk.mem)

/-- R70, R81: the end of validation makes the draft VALID with its effective draft, or REJECTED with the error's code and place; the end
of a STORE makes it VALID again and reports how it ended. -/
def Obligations.DraftEvents : Prop :=
  (∀ s : State, s.blk.stg.st = .validating →
    let g := s.blk.stg
    let v := s.blk.validateBytes (s.blk.srcRefused g.owner == 0) g.heldLen g.held
    (∀ p, v = .ok p → Yields .validationDone s (fun b => b.rb Reg.SYS_DFT_INT 0 = true ∧ b.stg = { g with
      st := .valid, err := 0, cold := p.cold, prep := p.prep, eff := some p.eff })) ∧
    (∀ code tag inst ofs, v = .error (code, tag, inst, ofs) → Yields .validationDone s (fun b =>
      b.stg = { g with st := .rejected, err := code, errTag := tag, errInst := inst, errOfs := ofs } ∧ b.rb Reg.SYS_DFT_INT 1 = true))) ∧
  (∀ (s : State) (ok : Bool) (n : Nat) (d : Draft), s.blk.stg.st = .storing → s.blk.stg.eff = some d →
    Yields (.storeDone ok n) s (fun b => b.stg.st = .valid ∧ b.stg.force = s.blk.stg.force ∧ b.rb Reg.SYS_DFT_INT (if ok then 5 else 6) = true))

/-- R73, R74, R78, R79: a decision, with the preparation ready and room for the edits, leaves the machine ARMED and decided, else abandoned
with code 0x82; at the commit block the draft is in force; a cold commit's plies are released as they become ready, by the timeout's
report, or by PLY_RELEASE. No realign comes meanwhile. -/
def Obligations.CommitAndRelease : Prop :=
  ((∀ (s : State) (ready : Bool), s.blk.steady → s.blk.stg.st = .armed → s.blk.par.decided = false → s.blk.par.agreed = false →
     s.blk.crl.migs = [] →
     let room := (s.blk.toBlk (s.blk.stg.armedAt - 1)).commitRoom
     Yields (.commitDecision ready) s (fun b =>
       (ready = true → room = true → b.par.decided = true ∧ b.stg = s.blk.stg) ∧
       (ready = false ∨ room = false → b.stg = { s.blk.stg with st := .valid, err := 0x82, errInst := 0, errTag := 0, errOfs := 0 } ∧
         b.crl.held = false ∧
         b.rb Reg.SYS_DFT_INT 4 = true))) ∧
   (∀ (s : State) (d : Draft), s.blk.steady → s.blk.stg.st = .armed → s.blk.par.decided = true → s.blk.par.agreed = false →
     s.blk.stg.eff = some d →
     Yields .commitBlock s (fun b => b.stg.force = some d ∧ b.stg.eff = none ∧ b.rb Reg.SYS_DFT_INT 2 = true ∧
       b.reg64 Reg.SYS_DFT_SER_LO Reg.SYS_DFT_SER_HI = d.serial % 2 ^ 64 ∧ b.stg.owner = .none ∧
       (s.blk.stg.cold = false → b.stg.st = .empty)))) ∧
  ((∀ (s : State) (n p : Nat), s.blk.steady → p ∈ s.blk.stg.affected → (s.blk.toBlk n).plyReady n p = true →
     Yields (.coldRelease n [p]) s (fun b =>
       p ∉ b.stg.affected ∧ bit (tget 0 b.muted p) muCold = false ∧ (∀ q, q ≠ p → tget 0 b.muted q = tget 0 s.blk.muted q) ∧
       b.stg.force = s.blk.stg.force)) ∧
   (∀ s : State, s.blk.steady → s.blk.stg.st = .settling → Yields .settleTimeout s (fun b => b.stg.st = .empty ∧ b.stg.affected = [] ∧
     b.stg.unsettled = s.blk.stg.unsettled ++ s.blk.stg.affected ∧ b.muted = s.blk.muted ∧
     (s.blk.stg.affected ≠ [] → (b.frec srcSYS).pend = true ∧ b.rb Reg.SYS_INT 0 = true))) ∧
   (∀ (s : State) (p : Nat) (r : Req), Begins s.blk 0x40 p r → u16 r.pay 0 ∈ s.blk.stg.unsettled →
     ∃ t, exec (.plyRelease p) s = .next t ∧ t.pending = s.pending ∧ t.sems = s.sems ∧ u16 r.pay 0 ∉ t.blk.stg.unsettled ∧
       bit (tget 0 t.blk.muted (u16 r.pay 0)) muCold = false ∧ Answered r 0 [] t.blk))

/-- R68, R82: a read of SYS_BLK_LO gives the low half of the block number and latches the high half; at boot the unit enters its mode with
the flash draft that passes in force, or with none. -/
def Obligations.BlockNumberAndBootCommit : Prop :=
  (∀ (s : State) (m : Nat), CanRead m Reg.SYS_BLK_LO s.blk → ∃ t, exec (.blockNumberRead m) s = .next t ∧ t.pending = s.pending ∧
     t.sems = s.sems ∧ .read (regBase + Reg.SYS_BLK_LO) 4 (s.blk.blk % 2 ^ 32) ∈ t.blk.out ∧
     t.blk.stg.blkHi = s.blk.blk / 2 ^ 32 % 2 ^ 32 ∧ t.blk.like (s.blk.setStg (fun g => { g with blkHi := t.blk.stg.blkHi }))) ∧
  (∀ (s : State) (n : Nat), s.blk.mode = 5 → s.blk.sys.firmware = true → s.blk.cst.st = 2 → s.blk.stg.st = .empty →
     (s.blk.bootDraft = none → Yields (.bootCommit n) s (fun b => b.stg.force = s.blk.stg.force ∧
       b.mode = (if s.blk.sys.wakeBoot = true ∧ s.blk.rb Reg.PWR_WAKE_MODE 0 = false then 1 else 2))) ∧
     (∀ p, s.blk.bootDraft = some p →
       (let c := { s.blk with stg := { s.blk.stg with eff := some p.eff }, crl := { s.blk.crl with staged := p.start, stagedComputed := p.computed } }
        (c.domNeeds p.eff).all c.domOn = true) → Yields (.bootCommit n) s (fun b => b.stg.force = some p.eff ∧ b.stg.st = .empty)))

/-- R439, R66, R69, R81: the draft services of a permitted request act as the commands do, and each completes; what has an event to wait
for is answered later. -/
def Obligations.DraftServices : Prop :=
  ∀ (s : State) (p : Nat) (r : Req),
    let g := s.blk.stg
    let src := portSource r.port
    s.blk.srcRefused src = 0 → s.blk.severed = false →
    (Begins s.blk 0x10 p r → g.st = .empty → ∃ t, exec (.draftOpen p) s = .next t ∧ t.pending = s.pending ∧ t.sems = s.sems ∧
      t.blk.stg = { g with st := .loading, owner := src } ∧ Answered r 0 [] t.blk) ∧
    (Begins s.blk 0x11 p r → g.st = .loading → g.owner = src → s.blk.sys.memErr = [] → s.blk.cst.st = 2 →
      ∃ t, exec (.draftData p) s = .next t ∧ t.pending = s.pending ∧ t.sems = s.sems ∧ t.blk.stg = g ∧
        t.blk.rdBytes (s.blk.stagingBase + u32 r.pay 0) (r.pay.length - 4) = r.pay.drop 4 ∧ Answered r 0 [] t.blk) ∧
    (Begins s.blk 0x12 p r → g.st = .loading → g.owner = src → s.blk.paired = false →
      ∃ t, exec (.draftValidate p) s = .next t ∧ t.pending = s.pending ∧ t.sems = s.sems ∧
        t.blk.stg.st = .validating ∧ t.blk.stg.eff = none ∧ r ∈ t.blk.sys.owed ∧ Taken r s.blk t.blk) ∧
    (Begins s.blk 0x13 p r → g.st = .valid → g.owner = src → s.blk.par.proposed = none → s.blk.paired = false →
      (∃ d, g.eff = some d) → u64 r.pay 0 = 0 →
      ∃ t, exec (.draftCommit p) s = .next t ∧ t.pending = s.pending ∧ t.sems = s.sems ∧
        t.blk.stg = { g with st := .armed, armedAt := s.blk.blk + max 24 g.prep, err := 0 } ∧
        Answered r 0 (leBytes 8 (s.blk.blk + max 24 g.prep)) t.blk) ∧
    (Begins s.blk 0x14 p r → g.st = .valid → g.owner = src → ∃ t, exec (.draftAbort p) s = .next t ∧ t.pending = s.pending ∧
      t.sems = s.sems ∧ t.blk.stg.st = .empty ∧ t.blk.stg.force = g.force ∧ Answered r 0 [] t.blk) ∧
    (Begins s.blk 0x15 p r → g.st = .valid → g.owner = src → ∃ t, exec (.draftStore p) s = .next t ∧ t.pending = s.pending ∧
      t.sems = s.sems ∧ t.blk.stg = { g with st := .storing } ∧ r ∈ t.blk.sys.owed ∧ Taken r s.blk t.blk)

/-! ## Spindles (spec/05_spindle_core.md, spec/06_spindle_isa.md) -/

/-- R187: every ALU operation, with its operation code: its command completes where the spindle's next word is that instruction, DD takes the
result stated for every operand, and nothing else changes; the other operation codes of the class name no instruction. -/
def Obligations.SpindleArithmetic : Prop :=
  (∀ (s : State) (n w : Nat),
    (SpnAt s.blk n .add w → Yields (.add n .ok) s (AluLeaves n w (fun a c => a + c) s.blk)) ∧
    (SpnAt s.blk n .sub w → Yields (.sub n .ok) s (AluLeaves n w (fun a c => a - c) s.blk)) ∧
    (SpnAt s.blk n .adds w → Yields (.adds n .ok) s (AluLeaves n w (fun a c => BitVec.ofInt 32 (satS 32 (a.toInt + c.toInt))) s.blk)) ∧
    (SpnAt s.blk n .subs w → Yields (.subs n .ok) s (AluLeaves n w (fun a c => BitVec.ofInt 32 (satS 32 (a.toInt - c.toInt))) s.blk)) ∧
    (SpnAt s.blk n .and_ w → Yields (.and n .ok) s (AluLeaves n w (fun a c => a &&& c) s.blk)) ∧
    (SpnAt s.blk n .or_ w → Yields (.or n .ok) s (AluLeaves n w (fun a c => a ||| c) s.blk)) ∧
    (SpnAt s.blk n .xor_ w → Yields (.xor n .ok) s (AluLeaves n w (fun a c => a ^^^ c) s.blk)) ∧
    (SpnAt s.blk n .shl w → Yields (.shl n .ok) s (AluLeaves n w (fun a c => if 32 ≤ c.toNat % 64 then 0 else a <<< (c.toNat % 64)) s.blk)) ∧
    (SpnAt s.blk n .asr w → Yields (.asr n .ok) s (AluLeaves n w (fun a c =>
      if 32 ≤ c.toNat % 64 then (if a.toInt < 0 then -1 else 0) else a.sshiftRight (c.toNat % 64)) s.blk)) ∧
    (SpnAt s.blk n .lsr w → Yields (.lsr n .ok) s (AluLeaves n w (fun a c => if 32 ≤ c.toNat % 64 then 0 else a >>> (c.toNat % 64)) s.blk)) ∧
    (SpnAt s.blk n .min_ w → Yields (.min n .ok) s (AluLeaves n w (fun a c => if a.toInt ≤ c.toInt then a else c) s.blk)) ∧
    (SpnAt s.blk n .max_ w → Yields (.max n .ok) s (AluLeaves n w (fun a c => if a.toInt ≤ c.toInt then c else a) s.blk)) ∧
    (SpnAt s.blk n .abs_ w → Yields (.abs n .ok) s (AluLeaves n w (fun a _ =>
      if a = 0x80000000 then 0x7FFFFFFF else if a.toInt < 0 then -a else a) s.blk)) ∧
    (SpnAt s.blk n .neg w → Yields (.neg n .ok) s (AluLeaves n w (fun a _ => if a = 0x80000000 then 0x7FFFFFFF else -a) s.blk)) ∧
    (SpnAt s.blk n .mulf w → Yields (.mulf n .ok) s (AluLeaves n w (fun a c =>
      if a = 0x80000000 ∧ c = 0x80000000 then 0x7FFFFFFF else BitVec.ofInt 32 (rndHE 31 (a.toInt * c.toInt))) s.blk)) ∧
    (SpnAt s.blk n .muli w → Yields (.muli n .ok) s (AluLeaves n w (fun a c => a * c) s.blk))) ∧
  (Coded .add 1 0 ∧ Coded .sub 1 1 ∧ Coded .adds 1 2 ∧ Coded .subs 1 3 ∧ Coded .and_ 1 4 ∧ Coded .or_ 1 5 ∧
   Coded .xor_ 1 6 ∧ Coded .shl 1 7 ∧ Coded .asr 1 8 ∧ Coded .lsr 1 9 ∧ Coded .min_ 1 10 ∧ Coded .max_ 1 11 ∧
   Coded .abs_ 1 12 ∧ Coded .neg 1 13 ∧ Coded .mulf 1 14 ∧ Coded .muli 1 15) ∧
  ∀ w, fld w 60 4 = 1 → 16 ≤ fld w 54 6 → spnOpOf w = none

/-- R188, R189: the three forms of the MAC, each with its FORM, complete with NEG, CLR and ACC, the saturation of R156 and the address
updates, where the operands lie in X and Y in bounds. R198 to R200: a BFLY of words in bounds stores A' and B' at OUTA and OUTB, its four
parts rounded and saturated, having read both inputs first; no basin word is in error. -/
def Obligations.SpindleMacAndButterfly : Prop :=
  ((∀ (s : State) (n w : Nat),
     (MacReady s.blk n .macComplex w → Yields (.macComplex n .ok) s (MacLeaves n w (fun a b c d => (a * c - b * d, a * d + b * c)) s.blk)) ∧
     (MacReady s.blk n .macConjugate w →
       Yields (.macConjugate n .ok) s (MacLeaves n w (fun a b c d => (a * c + b * d, b * c - a * d)) s.blk)) ∧
     (MacReady s.blk n .macDualReal w → Yields (.macDualReal n .ok) s (MacLeaves n w (fun a b c d => (a * c, b * d)) s.blk))) ∧
   (∀ w, spnOpOf w = some .macComplex ↔ fld w 60 4 = 2 ∧ fld w 58 2 = 0) ∧
   (∀ w, spnOpOf w = some .macConjugate ↔ fld w 60 4 = 2 ∧ fld w 58 2 = 1) ∧
   (∀ w, spnOpOf w = some .macDualReal ↔ fld w 60 4 = 2 ∧ fld w 58 2 = 2)) ∧
  (∀ (s : State) (n w : Nat), SpnAt s.blk n .bfly w → s.blk.sys.memErr = [] →
     let x := s.blk.spn n
     let ia := x.areg (grpOf (fld w 46 8)).an
     let ib := x.areg (grpOf (fld w 38 8)).an
     let oa := x.areg (grpOf (fld w 30 8)).an
     let ob := x.areg (grpOf (fld w 22 8)).an
     let p := SpnPhys s.blk n
     InSpace s.blk n ia 8 → InSpace s.blk n ib 8 → InSpace s.blk n oa 8 → InSpace s.blk n ob 8 →
     p oa + 8 ≤ cisternBase ∨ s.blk.cst.st = 2 → p ob + 8 ≤ cisternBase ∨ s.blk.cst.st = 2 → p oa + 8 ≤ p ob ∨ p ob + 8 ≤ p oa →
     Yields (.bfly n .ok) s (fun b =>
       let y := b.spn n
       let va := s.blk.rdLE (p ia) 8
       let vb := s.blk.rdLE (p ib) 8
       let wr := (x.dreg (fld w 18 4)).toInt
       let wi := (if bit w 16 then -1 else 1) * (x.dreg (fld w 18 4 + 1)).toInt
       let sc := if bit w 8 then max (-8) (min 7 (x.dreg (fld w 4 4)).toInt) else toS 4 (fld w 12 4)
       let q := fun v => storeRound 62 (fld w 10 2) sc v
       let parts : List Int := if bit w 17
         then [(cre va + cre vb) * 2 ^ 31, (cim va + cim vb) * 2 ^ 31, (cre va - cre vb) * wr - (cim va - cim vb) * wi,
               (cre va - cre vb) * wi + (cim va - cim vb) * wr]
         else [cre va * 2 ^ 31 + (wr * cre vb - wi * cim vb), cim va * 2 ^ 31 + (wr * cim vb + wi * cre vb),
               cre va * 2 ^ 31 - (wr * cre vb - wi * cim vb), cim va * 2 ^ 31 - (wr * cim vb + wi * cre vb)]
       b.rdBytes (p oa) 8 ++ b.rdBytes (p ob) 8 = parts.flatMap (fun v => leBytes 4 (BitVec.ofInt 32 (q v).1).toNat) ∧
       (∀ z, (z < p oa ∨ p oa + 8 ≤ z) → (z < p ob ∨ p ob + 8 ≤ z) → b.rd8 z = s.blk.rd8 z) ∧
       y.sov = (x.sov || parts.any (fun v => (q v).2)) ∧ y.d = x.d ∧ y.acc = x.acc ∧
       GroupsMove [grpOf (fld w 46 8), grpOf (fld w 38 8), grpOf (fld w 30 8), grpOf (fld w 22 8)] x y ∧
       SameKernel x y ∧ GoesOn x y ∧ b.like { (s.blk.setSpn n y) with mem := b.mem, free := b.free }))

/-- R193, R194, R196, R197: register moves, LDACC and AUPD, and the special instructions: each completes where the spindle's next word is
that instruction, with what its registers hold then. -/
def Obligations.SpindleRegisterMoves : Prop :=
  (∀ (s : State) (n w : Nat),
    (SpnAt s.blk n .ldi w → Yields (.ldi n .ok) s (RegLeaves n (fun x y =>
      (fld w 48 6 < 0x28 ∨ 0x2C ≤ fld w 48 6 ∨ x.atEnd = false →
        y.code (fld w 48 6) = (x.setCode (fld w 48 6) (BitVec.ofNat 32 w)).code (fld w 48 6)) ∧
      ∀ c, c ≠ fld w 48 6 → (c < 0x28 ∨ 0x2C ≤ c) → y.code c = x.code c) s.blk)) ∧
    (SpnAt s.blk n .mov w → Yields (.mov n .ok) s (RegLeaves n (fun x y => ∃ v, x.code (fld w 42 6) = some v ∧
      (fld w 48 6 < 0x28 ∨ 0x2C ≤ fld w 48 6 ∨ x.atEnd = false →
        y.code (fld w 48 6) = (x.setCode (fld w 48 6) v).code (fld w 48 6)) ∧
      ∀ c, c ≠ fld w 48 6 → (c < 0x28 ∨ 0x2C ≤ c) → y.code c = x.code c) s.blk)) ∧
    (SpnAt s.blk n .ldacc w → Yields (.ldacc n .ok) s (RegLeaves n (fun x y =>
      y.accP (2 * fld w 53 1) = (x.dreg (fld w 49 4)).toInt * 2 ^ 40 ∧
      y.accP (2 * fld w 53 1 + 1) = (x.dreg (fld w 45 4)).toInt * 2 ^ 40 ∧ y.d = x.d ∧ y.a = x.a ∧ GoesOn x y) s.blk)) ∧
    (SpnAt s.blk n .aupd w → Yields (.aupd n .ok) s (RegLeaves n (fun x y =>
      GroupsMove [grpOf (fld w 42 8)] x y ∧ y.d = x.d ∧ y.acc = x.acc ∧ GoesOn x y) s.blk)) ∧
    (SpnAt s.blk n .exp w → Yields (.exp n .ok) s (RegLeaves n (fun x y =>
      y.dreg (fld w 50 4) = BitVec.ofNat 32 (redundant 32 (x.dreg (fld w 46 4)).toInt) ∧ y.acc = x.acc ∧ GoesOn x y) s.blk)) ∧
    (SpnAt s.blk n .expa w → Yields (.expa n .ok) s (RegLeaves n (fun x y => y.dreg (fld w 50 4) = BitVec.ofInt 32
      (min (redundant 80 (x.accP (2 * fld w 45 1)) : Int) (redundant 80 (x.accP (2 * fld w 45 1 + 1))) - 8) ∧ y.acc = x.acc ∧
      GoesOn x y) s.blk)) ∧
    (SpnAt s.blk n .norm w → Yields (.norm n .ok) s (RegLeaves n (fun x y => ∃ e : Nat,
      (e : Int) = max 0 (min (redundant 80 (x.accP (2 * fld w 45 1)) : Int) (redundant 80 (x.accP (2 * fld w 45 1 + 1))) - 8) ∧
      y.dreg (fld w 50 4) = BitVec.ofNat 32 e ∧ y.accP (2 * fld w 45 1) = x.accP (2 * fld w 45 1) * 2 ^ e ∧
      y.accP (2 * fld w 45 1 + 1) = x.accP (2 * fld w 45 1 + 1) * 2 ^ e ∧ GoesOn x y) s.blk)) ∧
    (SpnAt s.blk n .bxdr w → Yields (.bxdr n .ok) s (RegLeaves n (fun x y =>
      y.dreg (fld w 50 4) = BitVec.ofNat 32 x.bxd ∧ y.bxd = 31 ∧ y.acc = x.acc ∧ GoesOn x y) s.blk)) ∧
    (SpnAt s.blk n .aclr w → Yields (.aclr n .ok) s (RegLeaves n (fun x y =>
      y.accP (2 * fld w 45 1) = 0 ∧ y.accP (2 * fld w 45 1 + 1) = 0 ∧ y.d = x.d ∧ GoesOn x y) s.blk))) ∧
  (Coded .ldi 3 5 ∧ Coded .mov 3 6 ∧ Coded .ldacc 3 7 ∧ Coded .aupd 3 8 ∧ Coded .exp 4 0 ∧ Coded .expa 4 1 ∧ Coded .norm 4 2 ∧
   Coded .bxdr 4 3 ∧ Coded .aclr 4 4)

/-- R191, R192: LD and LDC in bounds complete, load D (and D+1, the real part into D), move the address register, and change nothing else
but timing; ST, STC and STA in bounds complete and write their words at the address their group gives and no other byte of memory; BX takes
in the words stored, and only a saturating STA sets SOV. No word of memory is in error, and the bytes are not those of a cistern out of
service. -/
def Obligations.SpindleMemory : Prop :=
  (∀ (s : State) (n w : Nat),
    let x := s.blk.spn n
    let g := grpOf (fld w 42 8)
    let ofs := toS 16 (fld w 26 16)
    (AccessReady s.blk n .ld w g ofs 4 → Yields (.ld n .ok) s (LoadLeaves n w false s.blk)) ∧
    (AccessReady s.blk n .ldc w g ofs 8 → Yields (.ldc n .ok) s (LoadLeaves n w true s.blk)) ∧
    (AccessReady s.blk n .st w g ofs 4 →
      Yields (.st n .ok) s (StoreLeaves n g ofs [x.dreg (fld w 50 4)] (bit w 25) false s.blk)) ∧
    (AccessReady s.blk n .stc w g ofs 8 →
      Yields (.stc n .ok) s (StoreLeaves n g ofs [x.dreg (fld w 50 4), x.dreg (fld w 50 4 + 1)] (bit w 25) false s.blk)) ∧
    (let rs := staWords x w
     AccessReady s.blk n .sta w (grpOf (fld w 36 8)) (toS 16 (fld w 20 16)) (4 * rs.length) →
      Yields (.sta n .ok) s (StoreLeaves n (grpOf (fld w 36 8)) (toS 16 (fld w 20 16)) (rs.map (fun r => BitVec.ofInt 32 r.1)) (bit w 44)
        (rs.any (·.2)) s.blk))) ∧
  (Coded .ld 3 0 ∧ Coded .st 3 1 ∧ Coded .ldc 3 2 ∧ Coded .stc 3 3 ∧ Coded .sta 3 4)

/-- R181, R182, R184, R183: BR, LOOP, BREAK, and NOP at the END of the innermost loop or elsewhere. -/
def Obligations.SpindleControl : Prop :=
  (∀ (s : State) (n w : Nat), SpnAt s.blk n .br w → Yields (.br n .ok) s (fun b =>
    let x := s.blk.spn n
    let y := b.spn n
    y.pc = (if condTaken (fld w 50 4) (x.dreg (fld w 46 4)).toInt = some true then x.desc.pBase + fld w 0 12 else x.pc + 1) ∧
    y.loops = x.loops ∧ y.lc = x.lc ∧ y.d = x.d ∧ SameKernel x y ∧ OnlySpn n s.blk b)) ∧
  (∀ (s : State) (n w : Nat), SpnAt s.blk n .loop w → Yields (.loop n .ok) s (fun b =>
    let x := s.blk.spn n
    let y := b.spn n
    let cnt := if bit w 53 then (x.dreg (fld w 46 4)).toNat % 65536 else fld w 28 16
    (if cnt = 0 then y.pc = x.desc.pBase + fld w 0 12 + 1 ∧ y.loops = x.loops ∧ y.lc = x.lc
     else y.pc = x.pc + 1 ∧ y.loops = (x.rel' + 1, fld w 0 12) :: x.loops ∧ y.lcReg x.loops.length = cnt) ∧
    y.d = x.d ∧ SameKernel x y ∧ OnlySpn n s.blk b)) ∧
  (∀ (s : State) (n w st en : Nat) (r : List (Nat × Nat)), SpnAt s.blk n .break_ w → (s.blk.spn n).loops = (st, en) :: r →
    Yields (.break_ n .ok) s (fun b =>
      let x := s.blk.spn n
      let y := b.spn n
      (if condTaken (fld w 50 4) (x.dreg (fld w 46 4)).toInt = some true
       then y.pc = x.desc.pBase + en + 1 ∧ y.loops = r ∧ y.lcReg r.length = 0 else y.pc = x.pc + 1 ∧ y.loops = x.loops) ∧
      y.d = x.d ∧ SameKernel x y ∧ OnlySpn n s.blk b)) ∧
  (∀ (s : State) (n w : Nat), SpnAt s.blk n .nop w → Yields (.nop n .ok) s (fun b =>
    let x := s.blk.spn n
    let y := b.spn n
    GoesOn x y ∧
    (∀ st r, x.loops = (st, x.rel') :: r → 1 < x.lcReg r.length →
      y.pc = x.desc.pBase + st ∧ y.loops = x.loops ∧ y.lcReg r.length = x.lcReg r.length - 1) ∧
    (∀ st, x.loops = [(st, x.rel')] → x.lcReg 0 ≤ 1 → y.pc = x.pc + 1 ∧ y.loops = [] ∧ y.lcReg 0 = 0) ∧
    y.d = x.d ∧ SameKernel x y ∧ OnlySpn n s.blk b))

/-- R185, R159, R167: WAITB empties the loop stack and either gates the spindle, whose cycles are then shown, or starts the next due kernel 24
cycles after its own, under the descriptor that the release read. R172: a word that is no legal instruction raises ILLEGAL, records its
index and ends its block, whichever instruction's command finds it; and a gated spindle does nothing. -/
def Obligations.SpindleWaitAndIllegal : Prop :=
  (∀ (s : State) (n w : Nat), SpnAt s.blk n .waitb w → Yields (.waitb n .ok) s (fun b =>
     let x := s.blk.spn n
     let y := b.spn n
     y.loops = [] ∧ (∀ k, k ≠ n → b.spn k = s.blk.spn k) ∧ b.mem = s.blk.mem ∧
     (x.todo = [] → y.run = false ∧ y.d = x.d ∧ y.acc = x.acc ∧ b.reg (Reg.SPN_CYC_LAST (n / 8) (n % 8)) = min (x.cyc + 1) 0x1FFFF) ∧
     (∀ i d r, x.todo = (i, d) :: r → y.run = true ∧ y.entry = i ∧ y.desc = d ∧ y.todo = r ∧ y.kStart = x.cyc + 25 ∧ y.acc = [] ∧
       y.bxd = 31))) ∧
  (∀ (s : State) (n : Nat) (c : Nat → Ecc → Instr), c ∈ spnCmds →
     ((s.blk.spn n).run = false → Yields (c n .ok) s (fun b => b.like s.blk)) ∧
     ((s.blk.spn n).run = true → n < 64 → s.blk.localEcc n = .ok →
         (pcIn (s.blk.spn n) = false ∨ spnOpOf (s.blk.spnWord n) = none ∨
         ∃ o, spnOpOf (s.blk.spnWord n) = some o ∧ spnLegal (s.blk.spn n) o (s.blk.spnWord n) = false) → (s.blk.spn n).todo = [] →
       Yields (c n .ok) s (fun b => (b.spn n).run = false ∧ (b.spn n).loops = [] ∧ (b.spn n).d = (s.blk.spn n).d ∧
         (b.frec (srcSPN (n / 8))).pend = true ∧ b.reg (Reg.SPN_FLT_INFO (n / 8) (n % 8)) % 2 ^ 24 = (s.blk.spn n).pc % 2 ^ 24 ∧
         b.mem = s.blk.mem)))

/-! ## The loom (spec/04_loom.md) -/

/-- R113, R115 to R118, R135 to R145: every card on its own completes: the value it computes from x, its coefficient and its slot, the one
rounding into its lane, what becomes of its slot, line, intake, meter or accumulator, and that nothing else of the loom's memory
changes. -/
def Obligations.LoomCards : Prop :=
  ∀ (s : State) (dom img : Nat),
    let k := cardFields (BitVec.ofNat 128 img)
    let smp := s.blk.passSample dom
    let x := s.blk.cardX dom smp k.src
    let x31 := s.blk.cardX31 dom smp k.src
    let coef := s.blk.coefAt dom smp k.coef
    (k.op = 0 → k.meter = false → Yields (.cardNop dom img) s (fun b => b.like s.blk)) ∧
    (k.op = 1 → Yields (.cardMov dom img) s (CardLeaves dom k 48 x s.blk)) ∧
    (k.op = 2 → Yields (.cardGain dom img) s (CardLeaves dom k 75 (x * toS 32 (fld k.opnd 0 32)) s.blk)) ∧
    (k.op = 3 → Yields (.cardMacz dom img) s (CardLeaves dom k 75 (x * coef) s.blk)) ∧
    (k.op = 4 → Yields (.cardMac dom img) s (CardLeaves dom k 75 (s.blk.cardX dom smp k.dst * 2 ^ 27 + x * coef) s.blk)) ∧
    (k.op = 14 → Yields (.cardKout dom img) s (CardLeaves dom k 48 x s.blk)) ∧
    (k.op = 5 → Yields (.cardClr dom img) s (fun b => LaneTakes dom s.blk b k.dst 0 ∧ LoomOnly s.blk b)) ∧
    (k.op = 6 → Yields (.cardSum dom img) s (fun b => ∃ p a, HalfEven (if k.inv then -(x * coef) else x * coef) 27 p ∧
      a = tget 0 s.blk.loom.acc k.dst + clampS 64 p ∧ tget 0 b.loom.acc k.dst = a ∧ LaneTakes dom s.blk b k.dst (clampS 64 a) ∧
      (clampS 64 a = a → LoomOnly s.blk b) ∧
      (clampS 64 a ≠ a → k.dst ∉ (s.blk.pass dom).ovf → 0x1200 ≤ k.dst → b.rb Reg.LOM_INT 1 = true ∧ b.reg Reg.LOM_BUSOVF = k.dst - 0x1200 ∧
        (b.frec srcLOM).pend = true))) ∧
    (k.op = 9 → isBus k.dst = false → Yields (.cardWeir dom img) s (fun b => ∃ (p g h y : Int), HalfEven (x * coef) 27 p ∧
      (g, h) = (if s.blk.slotKept .weir k.state then ((s.blk.slot k.state).g, ((s.blk.slot k.state).h : Int)) else (2 ^ 30, 0)) ∧
      (let v := if k.inv then -clampS 64 p else clampS 64 p
       let lim : Nat := fld k.opnd 0 32 * 2 ^ 17
       let gt : Int := if lim < v.natAbs then (lim * 2 ^ 30 / v.natAbs : Nat) else 2 ^ 30
       let z := b.slot k.state
       (gt < g → z.g = gt ∧ z.h = fld k.opnd 40 8) ∧
       (g ≤ gt → 0 < h → z.g = g ∧ (z.h : Int) = h - 1) ∧
       (g ≤ gt → h = 0 → z.g = min gt (g + (2 ^ 30 - g) / 2 ^ fld k.opnd 32 4) ∧ z.h = 0) ∧
       y = Int.tdiv (v * z.g) (2 ^ 47) ∧ (0 ≤ g → y.natAbs ≤ fld k.opnd 0 32)) ∧
      LaneTakes dom s.blk b k.dst y ∧ (∀ i, i ≠ k.state → b.slot i = s.blk.slot i) ∧ LoomOnly s.blk b)) ∧
    (k.op = 10 → ∀ d r, s.blk.draftAt dom smp = some d → d.dlay? k.line = some r →
      let i : Int := (smp : Int) - fld k.opnd 12 20
      let late := s.blk.lineLate dom smp k.line (i + 1)
      (late = false → Yields (.cardDly dom img) s (fun b => ∃ y, LaneTakes dom s.blk b k.dst y ∧ LoomOnly s.blk b ∧
        tget 0 b.loom.dlyOut (dlyKey dom k) = y ∧
        RoundsTo k k.dst 61 (dot [s.blk.lineWord d r (i + 1), s.blk.lineWord d r i, s.blk.lineWord d r (i - 1), s.blk.lineWord d r (i - 2)]
          (dlyWeights (fld k.opnd 32 12))) y)) ∧
      (late = true → clampS 64 (tget 0 s.blk.loom.dlyOut (dlyKey dom k)) = tget 0 s.blk.loom.dlyOut (dlyKey dom k) →
        Yields (.cardDly dom img) s (fun b =>
        LaneTakes dom s.blk b k.dst (tget 0 s.blk.loom.dlyOut (dlyKey dom k)) ∧
        b.rb Reg.LOM_INT 2 = true ∧ b.rfld Reg.LOM_DLY_CNT 0 16 = min 65535 (s.blk.rfld Reg.LOM_DLY_CNT 0 16 + 1) ∧
        (b.frec srcLOM).pend = true))) ∧
    (k.op = 11 → Yields (.cardDlw dom img) s (fun b => ∃ y, Word31 k x31 y ∧
      (b.line k.line).hold = (smp, y) :: (s.blk.line k.line).hold ∧ (b.line k.line).last = y ∧
      (b.line k.line).since = some ((s.blk.line k.line).since.getD smp) ∧
      (∀ i, i ≠ k.line → b.line i = s.blk.line i) ∧ b.loom.lanes = s.blk.loom.lanes ∧ b.mem = s.blk.mem ∧ b.regs = s.blk.regs)) ∧
    (k.op = 12 → Yields (.cardTrim dom img) s (fun b => ∃ (o : Slot) (y : Int),
      o = (if s.blk.slotKept .trim k.state then s.blk.slot k.state else {}) ∧
      (b.slot k.state).x1 = x31 ∧ (b.slot k.state).x2 = o.x1 ∧ (b.slot k.state).x3 = o.x2 ∧
      RoundsTo k k.dst 61 (dot [x31, o.x1, o.x2, o.x3] (trimWeights (fld k.opnd 0 12))) y ∧ LaneTakes dom s.blk b k.dst y ∧
      (∀ i, i ≠ k.state → b.slot i = s.blk.slot i) ∧ LoomOnly s.blk b)) ∧
    (k.op = 13 → ∀ p : Place, s.blk.crl.run.filter (fun q => q.k == k.kernel && q.takes (smp / s.blk.spb dom)) = [p] →
      s.blk.sys.memErr = [] →
      let a := bufWord p.basin (ringLen p.l2) p.nIn (s.blk.spb dom) (smp / s.blk.spb dom) (k.dst - p.inLane) (smp % s.blk.spb dom)
      a + 4 ≤ cisternBase → Yields (.cardKin dom img) s (fun b => ∃ y, Word31 k x31 y ∧ LaneTakes dom s.blk b k.dst y ∧
        b.rdLE a 4 = (BitVec.ofInt 32 (if s.blk.silent k.dst then 0 else y)).toNat ∧
        ∀ q, q < a ∨ a + 4 ≤ q → b.rd8 q = s.blk.rd8 q)) ∧
    (k.op = 15 → k.meter = true → Yields (.cardMeter dom img) s (fun b =>
      (b.pass dom).meters = (s.blk.pass dom).meters ++ [(k.midx, 15, 0, 2 * ofS 64 x31)] ∧
      b.loom.lanes = s.blk.loom.lanes ∧ LoomOnly s.blk b)) ∧
    (k.op = 16 → Yields (.cardSlu dom img) s (fun b => ∃ y, Word31 k x31 y ∧ LaneTakes dom s.blk b k.dst y ∧
      LoomOnly s.blk b)) ∧
    (k.op = 7 → Yields (.cardFade dom img) s (SlotLeaves dom k .fade (fun c x z =>
      let g0 := if x.tgt = c then x.g0 else x.g
      let n := if x.tgt = c then min x.n (2 ^ fld k.opnd 0 5 - 1) else 0
      let w : Int := if bit k.opnd 5 then raisedCos (n + 1) (fld k.opnd 0 5) else (n + 1) * 2 ^ (30 - fld k.opnd 0 5)
      z.g = g0 + (c - g0) * w / 2 ^ 30 ∧ z.g0 = g0 ∧ z.tgt = c ∧ z.n = (if n + 1 < 2 ^ fld k.opnd 0 5 then n + 1 else n)) s.blk)) ∧
    (k.op = 8 → Yields (.cardGlide dom img) s (SlotLeaves dom k .glide (fun c x z =>
      let e := c - x.g
      z.g = if -(2 ^ fld k.opnd 0 4) ≤ e ∧ e < 2 ^ fld k.opnd 0 4 then c else x.g + e / 2 ^ fld k.opnd 0 4) s.blk))

/-- R122 to R126, R119, R500: a pass that is ready, with no other domain's pass before it, runs to its end or is suspended after `k` courses
and resumed; one that reaches its deadline is ended there, counted and raised; four blocks of overruns are an overload; END ends the pass
in progress and its meters take what fed them. -/
def Obligations.LoomPasses : Prop :=
  (∀ (s : State) (dom smp slack : Nat),
    let b0 := s.blk.toTick dom (smp + 1)
    b0.passReady dom smp = true → b0.rivals dom smp = [] →
    Yields (.loomPass dom smp none slack) s (fun b => (b.pass dom).active = false ∧ tget 0 b.loom.ended dom = smp + 1) ∧
    ∀ k, dom ≠ 2 → k < (s.blk.passCourses dom smp).length →
      Yields (.loomPass dom smp (some k) slack) s (fun b => (b.pass dom).active = true ∧ (b.pass dom).sample = smp ∧
        (b.pass dom).course = k ∧ tget 0 b.loom.ended dom = tget 0 s.blk.loom.ended dom)) ∧
  (∀ (s : State) (dom slack : Nat), (s.blk.pass dom).active = true →
    let p := s.blk.pass dom
    (s.blk.rivals dom p.sample = [] →
      Yields (.passResume dom none slack) s (fun b => (b.pass dom).active = false ∧ tget 0 b.loom.ended dom = p.sample + 1) ∧
      ∀ k, p.course + k < (s.blk.passCourses dom p.sample).length → Yields (.passResume dom (some k) slack) s (fun b =>
        (b.pass dom).active = true ∧ (b.pass dom).course = p.course + k ∧ (b.pass dom).sample = p.sample)) ∧
    Yields (.passDeadline dom) s (fun b => (b.pass dom).active = false ∧ tget 0 b.loom.ended dom = p.sample + 1 ∧
      b.rb Reg.LOM_INT 0 = true ∧ b.rfld Reg.LOM_OVR_CNT 0 16 = min 65535 (s.blk.rfld Reg.LOM_OVR_CNT 0 16 + 1) ∧
      (b.frec srcLOM).pend = true) ∧
    Yields (.cardEnd dom) s (fun b => (b.pass dom).active = false ∧ tget 0 b.loom.ended dom = p.sample + 1 ∧
      (∀ m v, p.wrote = [] → p.meters = [(m, 15, 0, 2 * v)] →
        (tget {} b.loom.meters m).pk = max (tget {} s.blk.loom.meters m).pk (toS 64 v).natAbs))) ∧
  (∀ (s : State) (dom : Nat), 4 ≤ (tget (0, 0) s.blk.loom.overruns dom).2 → Yields (.overload dom) s (fun b =>
    (b.frec srcLOM).pend = true ∧ ⟨6, dom⟩ ∈ (b.frec srcLOM).held ∧ b.loom.lanes = s.blk.loom.lanes ∧ b.mem = s.blk.mem))

/-- R131 to R134, R139, R140: what the edit commands queue, release and apply, and what the delay lines post and fetch. -/
def Obligations.LoomEdits : Prop :=
  (∀ (s : State) (v : Nat) (d : Draft), s.blk.domOn 11 = true → s.blk.stg.force = some d → s.blk.editsQueued < 256 →
    let hold := s.blk.rb Reg.LOM_EDIT_CTRL 0
    let i := s.blk.rfld Reg.LOM_EDIT_CIDX 0 14
    (s.blk.loom.coefBank.wide = true ∨ i < 8192 → Yields (.coefficientEdit v) s (fun b => ∃ e : Edit,
      b.loom = { s.blk.loom with edits := s.blk.loom.edits ++ [e] } ∧ e.card = false ∧ e.entry = coefEntry s.blk.loom.coefBank i ∧
      e.val = v % 2 ^ 32 ∧ e.held = hold ∧ (hold = false → e.due = s.blk.editDue) ∧
      b.rfld Reg.LOM_EDIT_CIDX 0 14 = (if s.blk.rb Reg.LOM_EDIT_CTRL 2 then (i + 1) % 16384 else i))) ∧
    (s.blk.loom.coefBank.wide = false → 8192 ≤ i → Yields (.coefficientEdit v) s (fun b => b.loom = s.blk.loom ∧
      b.rb Reg.LOM_INT 5 = true ∧ (b.frec srcLOM).pend = true)) ∧
    (let img := s.blk.reg Reg.LOM_EDIT_CARD0 + 2 ^ 32 * s.blk.reg Reg.LOM_EDIT_CARD1 + 2 ^ 64 * s.blk.reg Reg.LOM_EDIT_CARD2 +
       2 ^ 96 * (v % 2 ^ 32)
     let dom := s.blk.rfld Reg.LOM_EDIT_CPOS 16 2
     let pos := s.blk.rfld Reg.LOM_EDIT_CPOS 0 14
     (s.blk.cardEditBad dom pos img = false → Yields (.cardEdit v) s (fun b => ∃ e : Edit,
       b.loom = { s.blk.loom with edits := s.blk.loom.edits ++ [e] } ∧ e.card = true ∧ e.dom = dom ∧ e.pos = pos ∧ e.val = img ∧
       e.held = hold)) ∧
     (s.blk.cardEditBad dom pos img = true → Yields (.cardEdit v) s (fun b => b.loom = s.blk.loom ∧ b.rb Reg.LOM_INT 5 = true ∧
       (b.frec srcLOM).pend = true)))) ∧
  (∀ (s : State) (v : Nat), s.blk.domOn 11 = true → Yields (.holdRelease v) s (fun b => b.reg Reg.LOM_EDIT_CTRL = v % 8 ∧
    b.loom.edits.length = s.blk.loom.edits.length ∧
    (s.blk.rb Reg.LOM_EDIT_CTRL 0 = true → v.testBit 0 = false → ∀ e ∈ b.loom.edits, e.held = false) ∧
    (s.blk.rb Reg.LOM_EDIT_CTRL 0 = false ∨ v.testBit 0 = true → b.loom.edits = s.blk.loom.edits))) ∧
  (∀ (s : State) (n : Nat), Yields (.editDue n) s (fun b => (∀ e ∈ b.loom.edits, e ∈ s.blk.loom.edits ∧ (e.held = true ∨ b.blk < e.due)) ∧
    (∀ e ∈ s.blk.loom.edits, e.held = true ∨ b.blk < e.due → e ∈ b.loom.edits) ∧
    (∀ e, s.blk.loom.edits = [e] → e.held = false → e.due ≤ b.blk → b.rb Reg.LOM_INT 3 = true ∧
      (e.card = false → tget 0 b.loom.coefs e.entry = BitVec.ofNat 32 e.val) ∧
      (e.card = true → tget 0 b.loom.cards (s.blk.cardEntry e.dom e.pos) = BitVec.ofNat 128 e.val)))) ∧
  (∀ (s : State) (dom blk i : Nat) (w : Int) (d : Draft) (r : Dlay), s.blk.stg.force = some d → d.dlays = [r] → r.dom = dom →
    s.blk.cst.st = 2 → s.blk.sys.memErr = [] → (s.blk.line r.line).hold = [(i, w)] → i < (blk + 1) * s.blk.spb dom →
    Yields (.delayLinePost dom blk) s (fun b => (b.line r.line).hold = [] ∧ b.rdLE (lineAddr d r i) 4 = (BitVec.ofInt 32 w).toNat ∧
      ∀ q, q < lineAddr d r i ∨ lineAddr d r i + 4 ≤ q → b.rd8 q = s.blk.rd8 q)) ∧
  (∀ (s : State) (dom blk : Nat) (missing : List Nat) (d : Draft) (r : Dlay), s.blk.stg.force = some d → r ∈ d.dlays → r.dom = dom →
    r.line ∉ missing → s.blk.sys.memErr = [] → Yields (.delayLineFetch dom blk missing) s (fun b => (b.line r.line).fetched = blk + 2 ∧
      (b.line r.line).hold = (s.blk.line r.line).hold ∧ b.mem = s.blk.mem ∧ b.regs = s.blk.regs))

/-! ## Releases, staging and the creel (spec/05_spindle_core.md, spec/07_creel_placement.md) -/

/-- R151, R159, R160, R161, R164, R165: at a release an enabled, awake spindle whose run list holds one due kernel starts it, with its
registers as R151 gives them, and the other entries' cycle counts read 0; spindles that are not enabled stay as they are, memory changes
in the outtake buffers that the release clears alone, and no run list changes. Staging, in its intervals, carries a block's segment in and
its written lines home. No word of memory is in error. -/
def Obligations.ReleasesAndStaging : Prop :=
  (∀ (s : State) (dom r n : Nat) (copied : List Nat) (d : Desc),
    let c := (s.blk.toRelease dom r).clearOut dom r
    s.blk.steady → (∀ k, (s.blk.spn k).run = false) → s.blk.crl.migs = [] → s.blk.sys.memErr = [] →
    (∀ k, k < 64 → k ≠ n → s.blk.rb (Reg.SPN_SCTRL (k / 8) (k % 8)) 0 = false ∧ s.blk.armed k r = false) →
    (∀ p ∈ s.blk.crl.run, p.dom = dom → p.ended = false ∧ (p.inList r = true → p.inList (r + 1) = true)) →
    n < 64 → s.blk.rb (Reg.SPN_SCTRL (n / 8) (n % 8)) 0 = true → (s.blk.spn n).isol = false → s.blk.bobbinOn (n / 8) = true →
    s.blk.armed n r = false → c.curList n = [(0, d)] → d.dom = dom → dueAt r d = true → (s.blk.placeOfDesc n d).dead = false →
    d.l2 = false ∨ d.sSize = 0 ∨ r - lam d.l2 ∈ (s.blk.placeOfDesc n d).staged →
    Yields (.release dom r copied) s (fun b =>
      let x := b.spn n
      x.run = true ∧ x.entry = 0 ∧ x.todo = [] ∧ x.rel = r ∧ x.cyc = 88 ∧ x.kStart = 88 ∧ x.desc = d ∧ x.blk = r - lam d.l2 ∧
      x.pc = d.pBase ∧ x.acc = [] ∧ x.bxd = 31 ∧ x.loops = [] ∧ x.a = [] ∧ x.dreg 0 = BitVec.ofNat 32 x.blk ∧
      x.dreg 1 = BitVec.ofNat 32 (s.blk.spb d.dom) ∧ x.dreg 2 = BitVec.ofNat 32 d.nIn ∧ x.dreg 3 = BitVec.ofNat 32 d.nOut ∧
      x.dreg 4 = BitVec.ofNat 32 d.k ∧ (∀ i, 4 < i → x.dreg i = 0) ∧ (∀ k, k ≠ n → b.spn k = s.blk.spn k) ∧
      (∀ a, b.rd8 a = c.rd8 a) ∧ (∀ i, 0 < i → i < 32 → b.reg (Reg.SPN_KCYC (n / 8) (n % 8) i) = 0) ∧
      ∀ a, (∀ i, 0 < i → i < 32 → a ≠ Reg.SPN_KCYC (n / 8) (n % 8) i) → b.reg a = s.blk.reg a)) ∧
  (∀ (s : State) (k blk : Nat) (p : Place), s.blk.sys.memErr = [] →
    (s.blk.crl.run.filter (fun q => q.k == k && q.l2 && q.takes blk && !q.dead) = [p] → s.blk.release p.dom = blk + 1 →
      s.blk.owesOut p blk = false → s.blk.stageBase p blk + p.sSize ≤ cisternBase → Yields (.stageIn k blk) s (fun b =>
        b.rdBytes (s.blk.stageBase p blk) p.sSize = s.blk.rdBytes p.home p.sSize ∧
        b.crl.run = s.blk.crl.run.map (fun q => if q = p then { q with staged := blk :: q.staged.take 7 } else q) ∧
        ∀ a, a < s.blk.stageBase p blk ∨ s.blk.stageBase p blk + p.sSize ≤ a → b.rd8 a = s.blk.rd8 a)) ∧
    (s.blk.crl.run.filter (fun q => q.k == k && q.l2 && q.outOwed.contains blk) = [p] → blk + 3 ≤ s.blk.release p.dom →
      ∀ l, p.wrote.find? (fun w => w.1 == blk) = some (blk, [l]) →
      let base := s.blk.stageBase p blk
      let home := p.home + (64 * l - base)
      base ≤ 64 * l → 64 * l + 64 ≤ base + p.sSize → home + 64 ≤ cisternBase ∨ s.blk.cst.st = 2 → Yields (.stageOut k blk) s (fun b =>
        b.rdBytes home 64 = s.blk.rdBytes (64 * l) 64 ∧
        b.crl.run = s.blk.crl.run.map (fun q => if q = p then { q with outOwed := q.outOwed.filter (· != blk) } else q) ∧
        ∀ a, a < home ∨ home + 64 ≤ a → b.rd8 a = s.blk.rd8 a)))

/-- R214, R215: FORCE puts the spindles it names into the fault map, and takes none out; RETIRE does so for one whose corrected errors
have reached the threshold; RETURN asks for the memory tests, and a spindle that passes and is not forced leaves the map; a restart
that has loaded runs from the block that the next release assigns to it. -/
def Obligations.FaultMap : Prop :=
  (∀ (s : State) (i v : Nat), i < 2 → v < 2 ^ 32 → s.blk.domOn 2 = true →
    Yields (.force i v) s (fun b => b.reg (if i = 0 then Reg.CRL_FORCE_LO else Reg.CRL_FORCE_HI) = v ∧
      (∀ k, k < 32 → v.testBit k = true → 32 * i + k ∈ b.crl.fmap) ∧ (∀ n ∈ s.blk.crl.fmap, n ∈ b.crl.fmap) ∧ b.stg = s.blk.stg) ∧
    Yields (.return_ i v) s (fun b =>
      let a := if i = 0 then Reg.CRL_RETURN_LO else Reg.CRL_RETURN_HI
      b.reg a = s.blk.reg a ||| v ∧ OnlyRegs [a] s.blk b)) ∧
  (∀ (s : State) (n : Nat), n ∉ s.blk.crl.fmap → 0 < s.blk.reg Reg.CRL_ECC_THR % 65536 →
    s.blk.reg Reg.CRL_ECC_THR % 65536 ≤ ((tget [] s.blk.crl.eccAt n).filter (fun x => decide (s.blk.now / 2 ^ 32 < x + 1000000000))).length →
    Yields (.retire n) s (fun b => n ∈ b.crl.fmap ∧ tget [] b.crl.eccAt n = [] ∧ (b.frec srcCRL).pend = true)) ∧
  (∀ (s : State) (n : Nat) (pass : Bool), n < 64 →
    let ra := if n < 32 then Reg.CRL_RETURN_LO else Reg.CRL_RETURN_HI
    let fa := if n < 32 then Reg.CRL_FORCE_LO else Reg.CRL_FORCE_HI
    s.blk.rb ra (n % 32) = true → Yields (.returnTestDone n pass) s (fun b => b.rb ra (n % 32) = false ∧
      (pass = true → s.blk.rb fa (n % 32) = false → n ∉ b.crl.fmap ∧ (b.spn n).isol = false) ∧
      (pass = false ∨ s.blk.rb fa (n % 32) = true → b.crl = s.blk.crl) ∧ ∀ k, k ≠ n → k ∈ s.blk.crl.fmap → k ∈ b.crl.fmap)) ∧
  (∀ (s : State) (k : Nat) (p : Place) (d : Draft) (kn : Kern), s.blk.stg.force = some d → d.kern? k = some kn →
    s.blk.crl.restarts.find? (fun q => q.k == k) = some p → p.s ∉ s.blk.crl.fmap → s.blk.bobbinOn (p.s / 8) = true →
    fitsAt (s.blk.setCrl (fun c => { c with restarts := c.restarts.filter (fun q => q.k != k), waits := c.waits.filter (fun q => q.k != k) })).occ
      kn p.cplace = true →
    Yields (.restartLoad k) s (fun b => (∀ q ∈ b.crl.restarts, q.k ≠ k) ∧
      (∃ q ∈ b.crl.run, q.k = p.k ∧ q.s = p.s ∧ q.pBase = p.pBase ∧ q.area = p.area ∧ q.last = p.last ∧
        q.first = s.blk.release p.dom + 1 - lam p.l2) ∧ ∀ q ∈ s.blk.crl.run, q.ended = false → q ∈ b.crl.run))

/-- R217, R219 to R221, R224: a repack aims at the computed placement; a migration that can start begins in COPY; a catch-up ends, having
copied the lines written since or failed; a retry starts again, waits 16 blocks more or is stuck; and at a block tick in ACTIVE bobbins
with nothing to run switch off. -/
def Obligations.Migrations : Prop :=
  (∀ (s : State) (d : Draft), s.blk.stg.force = some d → s.blk.domOn 2 = true → Yields .repackRequest s (fun b =>
    b.crl.computed = (placeAll d s.blk.crl.fmap s.blk.share s.blk.fB).1 ∧ b.crl.trigger = 2 ∧ b.crl.pinned = [] ∧ b.crl.retry = [] ∧
    b.crl.stuck = false ∧ b.stg = s.blk.stg)) ∧
  (∀ (s : State) (d : Draft) (k : Kern) (p : Place) (c : CPlace), s.blk.stg.force = some d → d.kerns = [k] → s.blk.crl.want = [c] →
    c.k = k.id → s.blk.runPlace k.id = some p → atPlace p c = false → s.blk.crl.held = false → s.blk.crl.migs = [] → s.blk.crl.pinned = [] →
    s.blk.crl.retry = [] → 0 < s.blk.rfld Reg.CRL_CTRL 4 4 → s.blk.targetFits k c = true → c.s ∉ s.blk.crl.fmap →
    Yields .migrationStart s (fun b =>
      b.crl.migs = [{ k := k.id, src := p.s, dst := c.s, trigger := s.blk.crl.trigger }] ∧
      (∃ q, b.crl.run = s.blk.crl.run ++ [q] ∧ q.k = k.id ∧ q.s = c.s ∧ q.dest = true ∧ q.listed = false) ∧ b.mem = s.blk.mem)) ∧
  (∀ (s : State) (k : Nat) (ok : Bool) (m : Mig) (p q : Place), s.blk.crl.migs = [m] → m.k = k → m.st = .catchup → m.caught = none →
    s.blk.runPlace k = some p → s.blk.destPlace k = some q → m.c - 1 ∈ p.doneBlks → s.blk.sys.memErr = [] →
    Yields (.catchUp k ok) s (fun b =>
      (ok = true → b.crl.migs = [{ m with caught := some true, dirty := [] }] ∧ (m.dirty = [] → b.mem = s.blk.mem)) ∧
      (ok = true → ∀ l, m.dirty = [l] → p.ySize = 0 → p.tier = 4 → q.s < 64 → q.xBase + p.xSize ≤ 0x10000 →
        let base := spnWindow p.s + p.xBase
        base ≤ 64 * l → 64 * l + 64 ≤ base + p.xSize →
        let dst := spnWindow q.s + q.xBase + (64 * l - base)
        b.rdBytes dst 64 = s.blk.rdBytes (64 * l) 64 ∧ ∀ a, a < dst ∨ dst + 64 ≤ a → b.rd8 a = s.blk.rd8 a) ∧
      (ok = false → b.crl.migs = [{ m with caught := some false, fails := m.fails + 1 }] ∧ b.mem = s.blk.mem))) ∧
  (∀ (s : State) (k n at' tr : Nat) (d : Draft) (kn : Kern) (p : Place) (c : CPlace), s.blk.crl.retry = [(k, n, at', tr)] →
    s.blk.stg.force = some d →
    d.kern? k = some kn → kn.id = k → s.blk.crl.want.find? (fun x => x.k == k) = some c → s.blk.runPlace k = some p →
    let b0 := s.blk.toBlk at'
    let go := b0.mayMigrate = true ∧ b0.targetFits kn c = true ∧ c.s ∉ s.blk.crl.fmap
    Yields (.migrationRetry k) s (fun b =>
      (go → b.crl.retry = [] ∧ b.crl.migs = s.blk.crl.migs ++ [{ k := k, src := p.s, dst := c.s, trigger := tr, retries := n }]) ∧
      (¬go → n < 3 → b.crl.retry = [(k, n + 1, at' + 16, tr)] ∧ b.crl.migs = s.blk.crl.migs) ∧
      (¬go → 3 ≤ n → b.crl.retry = [] ∧ b.crl.stuck = true ∧ k ∈ b.crl.pinned ∧ b.rb Reg.CRL_INT 4 = true))) ∧
  (∀ (s : State) (n : Nat), s.blk.mode = 2 →
    let c := s.blk.toBlk n
    Yields (.bobbinPowerGate n) s (fun b =>
    (∀ k, k < 8 → c.stg.st ≠ .armed → (∀ o ∈ c.occ, o.s / 8 ≠ k) → b.domOn (3 + k) = false) ∧
    (∀ k o, k < 8 → o ∈ c.occ → o.s / 8 = k → b.domOn (3 + k) = s.blk.domOn (3 + k)) ∧
    (∀ k, k < 20 → k ∉ [3, 4, 5, 6, 7, 8, 9, 10, 11, 17, 18] → b.domOn k = s.blk.domOn k) ∧ b.mem = s.blk.mem))

/-! ## The cistern (spec/08_cistern.md) -/

/-- R230, R239 to R244, R465, R468: INIT and INIT_DONE, FCHG, FREQUENCY_CHANGE and FCHG_DONE, ENTER_RETENTION and LEAVE_RETENTION complete and
move the cistern between its states, draining the queued reads with their data; BANKHASH_WRITE acts only while it is off; and REFRESH,
TEMP_CHECK, ZQ_LATCH and DQS_CHECK keep what is owed, the temperature and the delays. Time moves to the block or check concerned. -/
def Obligations.CisternStates : Prop :=
  (∀ (s : State) (second : Nat), s.blk.domOn 12 = true → s.blk.cst.st = 0 →
    (s.blk.masksValid = true → Yields (.init second) s (fun b => b.like { s.blk with cst := { s.blk.cst with
      st := 1, target := s.blk.rfld Reg.CST_FREQ 0 2, second := second % 3, held0 := none, held1 := none,
      ecc := s.blk.rb Reg.CST_CFG 3 } })) ∧
    (s.blk.masksValid = false → Yields (.init second) s (fun b => b.cst = { s.blk.cst with st := 5, fchg := none } ∧
      (b.frec srcCST).pend = true ∧ b.mem = s.blk.mem))) ∧
  (∀ (s : State) (ok : Bool) (chan : Nat), s.blk.cst.st = 1 → Yields (.initDone ok chan) s (fun b =>
    (ok = true → b.cst = { s.blk.cst with
        st := 2, rate := s.blk.cst.target, set := 0, held0 := some s.blk.cst.target, held1 := some s.blk.cst.second } ∧
          b.rb Reg.CST_INT 0 = true ∧
      (∀ r, r ∉ Reg.CST_INT :: (tsetRegs 0 ++ tsetRegs 1) → b.reg r = s.blk.reg r) ∧
      b.like { s.blk with cst := b.cst, regs := b.regs, free := b.free }) ∧
    (ok = false → b.cst = { s.blk.cst with st := 5, fchg := none } ∧ (b.frec srcCST).pend = true))) ∧
  (∀ s : State, s.blk.domOn 12 = true →
    let t := s.blk.rfld Reg.CST_FREQ 0 2
    let may := s.blk.cst.st = 2 ∧ (s.blk.cst.held0 = some t ∨ s.blk.cst.held1 = some t) ∧ s.blk.chgDemand ≤ 100 * cstBudget s.blk.cst.ecc t
    (may → Yields .fchg s (fun b => b.like { s.blk with cst := { s.blk.cst with
      fchg := some (max (s.blk.reg64 Reg.CST_FCHG_AT_LO Reg.CST_FCHG_AT_HI) (s.blk.blk + 1), t) } })) ∧
    (¬may → Yields .fchg s (fun b => b.cst = s.blk.cst ∧ b.rb Reg.CST_INT 3 = true ∧ (b.frec srcCST).pend = true)) ∧
    (s.blk.cst.st = 2 → s.blk.sys.memErr = [] → Yields .enterRetention s (fun b =>
      b.cst = { s.blk.cst with st := 4, rdq := [], wrq := [], drain := none } ∧ b.mem = s.blk.mem ∧ b.regs = s.blk.regs ∧
      ∀ r ∈ s.blk.cst.rdq, r.cut = false → .read r.addr r.len (s.blk.rdLE r.addr r.len) ∈ b.out)) ∧
    (s.blk.cst.st = 4 → Yields .leaveRetention s (fun b => b.cst.st = 2 ∧ b.cst.rate = s.blk.cst.rate ∧
      b.like { s.blk with cst := b.cst })) ∧
    ∀ i v, i < 5 → Yields (.bankhashWrite i v) s (fun b => b.cst = s.blk.cst ∧ b.mem = s.blk.mem ∧
      b.reg (Reg.CST_BANKHASH i) = (if s.blk.cst.st = 0 then v % 2 ^ 28 else s.blk.reg (Reg.CST_BANKHASH i)) ∧
      (s.blk.cst.st ≠ 0 → (b.frec srcCST).pend = true))) ∧
  (∀ (s : State) (n t : Nat), s.blk.cst.fchg = some (n, t) →
    (s.blk.steady → s.blk.cst.st = 2 → s.blk.sys.memErr = [] → Yields .frequencyChange s (fun b =>
      b.cst = { s.blk.cst with st := 3, rdq := [], wrq := [], drain := none } ∧ b.mem = s.blk.mem ∧ b.regs = s.blk.regs ∧
      ∀ r ∈ s.blk.cst.rdq, r.cut = false → .read r.addr r.len (s.blk.rdLE r.addr r.len) ∈ b.out)) ∧
    (s.blk.cst.st ≠ 2 → Yields .frequencyChange s (fun b => b.like { s.blk with cst := { s.blk.cst with fchg := none } })) ∧
    (s.blk.steady → s.blk.cst.st = 3 → ∀ e : FchgEnd,
      let bad := ∃ d ∈ e.dqs.take 2, d.2 = false ∧ (d.1 < -256 ∨ 256 < d.1)
      (¬bad → Yields (.fchgDone e) s (fun b => b.cst.st = 2 ∧ b.cst.rate = t ∧ b.cst.fchg = none ∧ b.mem = s.blk.mem ∧
        b.rb Reg.CST_INT 2 = true ∧ b.cst.set = if s.blk.cst.held0 = some t then 0 else 1)) ∧
      (bad → Yields (.fchgDone e) s (fun b => b.cst.st = 5 ∧ b.cst.fchg = none ∧ b.mem = s.blk.mem ∧
        (b.frec srcCST).pend = true)))) ∧
  (∀ s : State, s.blk.cst.st = 2 →
    (∀ bank elapsed, Yields (.refresh bank elapsed) s (fun b =>
      (s.blk.hasBank bank = true → ∀ k, tget 0 b.cst.refOwed k =
        if k = bank then min 8 (tget 0 s.blk.cst.refOwed bank + elapsed - 1) else tget 0 s.blk.cst.refOwed k) ∧
      (s.blk.hasBank bank = false → b.cst = s.blk.cst) ∧
      b.like { s.blk with cst := { s.blk.cst with refOwed := b.cst.refOwed } })) ∧
    (s.blk.steady →
      (∀ scale above, Yields (.tempCheck scale above) s (fun b =>
        b.cst = { s.blk.cst with tempAt := b.nsNow, refScale := scale, hot := above } ∧ b.mem = s.blk.mem ∧ b.regs = s.blk.regs ∧
        (above = true → (b.frec srcCST).pend = true) ∧ (above = false → b.flt = s.blk.flt))) ∧
      Yields .zqLatch s (fun b => b.cst = { s.blk.cst with zqAt := b.nsNow } ∧ b.mem = s.blk.mem ∧ b.regs = s.blk.regs ∧
        b.flt = s.blk.flt) ∧
      ∀ chan drift ok, Yields (.dqsCheck chan drift ok) s (fun b => b.mem = s.blk.mem ∧ b.regs = s.blk.regs ∧
        tget 0 b.cst.dqsAt chan = b.nsNow ∧
        (-256 ≤ drift ∧ drift ≤ 256 → b.cst.st = 2 ∧ tget 0 b.cst.delays chan = tget 0 s.blk.cst.delays chan + drift ∧ b.flt = s.blk.flt) ∧
        (¬(-256 ≤ drift ∧ drift ≤ 256) → (b.frec srcCST).pend = true ∧ (ok = true → b.cst.st = 2 ∧ tget 0 b.cst.delays chan = 0) ∧
          (ok = false → b.cst.st = 5)))))

/-- R231, R232, R236 to R238: CISTERN_READ completes and answers the read served with the bytes that lie there, the least master first; a
word with an uncorrectable error reads as zero and is counted. CISTERN_WRITE stores exactly the parts of its data that its master may
write and raises the rest. WRITE_BATCH serves from the front of the write queue, down to LOW where it had reached HIGH. R247 to R249:
RESERVOIR_START that is accepted begins at its block; a refused one sets REFUSED; RESERVOIR_STOP between passes ends it;
RESERVOIR_BEGIN starts the recording. -/
def Obligations.CisternRequestsAndReservoirs : Prop :=
  ((∀ (s : State) (m a n w : Nat) (ecc : Ecc), s.blk.cst.st = 2 → s.blk.cst.rdq = [] → s.blk.cst.rdWait = [] → s.blk.cst.wrWait = [] →
     s.blk.cst.drain = none → s.blk.sys.memErr = [] →
     (ecc = .ok ∨ s.blk.cst.ecc = false → Yields (.cisternRead [(m, a, n)] ecc w) s (fun b =>
       .read a n (s.blk.rdLE a n) ∈ b.out ∧ b.like { s.blk with out := b.out })) ∧
     (ecc = .uncorr → s.blk.cst.ecc = true → n = 8 → w < 8 → a % 8 = 0 → cisternBase ≤ a →
       Yields (.cisternRead [(m, a, n)] ecc w) s (fun b =>
       .read a 8 0 ∈ b.out ∧ b.rfld Reg.CST_ECC_CNT 16 16 = min 65535 (s.blk.rfld Reg.CST_ECC_CNT 16 16 + 1) ∧ b.rb Reg.CST_INT 1 = true ∧
       b.reg64 Reg.CST_ECC_ADDR_LO Reg.CST_ECC_ADDR_HI = a % 2 ^ 40 ∧ (b.frec srcCST).pend = true ∧ b.mem = s.blk.mem)) ∧
     ∀ m' a' n', m' < m → Yields (.cisternRead [(m, a, n), (m', a', n')] .ok w) s (fun b =>
       .read a' n' (s.blk.rdLE a' n') ∈ b.out ∧ b.cst.rdq.map (fun r => (r.master, r.addr, r.len)) = [(m, a, n)] ∧ b.mem = s.blk.mem)) ∧
   (∀ (s : State) (m a : Nat) (data : Bytes), s.blk.sys.memErr = [] → s.blk.cst.st = 2 →
     let ps := s.blk.pieces a data
     Yields (.cisternWrite m a data .ok) s (fun b =>
       (∀ p ∈ ps, b.rdBytes p.1 p.2.length = if s.blk.mayWrite m p.1 = true then p.2 else s.blk.rdBytes p.1 p.2.length) ∧
       (∀ q, q < a ∨ a + data.length ≤ q → b.rd8 q = s.blk.rd8 q) ∧ b.regs = s.blk.regs ∧
       ((∀ p ∈ ps, s.blk.mayWrite m p.1 = true) → b.flt = s.blk.flt ∧
         (s.blk.cst.wrq.length < 64 → b.cst.wrq.length = s.blk.cst.wrq.length + 1) ∧
         (64 ≤ s.blk.cst.wrq.length → b.cst.wrWait.length = s.blk.cst.wrWait.length + 1)) ∧
       ((∃ p ∈ ps, s.blk.mayWrite m p.1 = false) → (b.frec srcCST).pend = true) ∧
       ((∀ p ∈ ps, s.blk.mayWrite m p.1 = false) → b.cst = s.blk.cst))) ∧
   (∀ (s : State) (served : Nat), s.blk.cst.st = 2 → s.blk.cst.wrWait = [] → s.blk.cst.rdWait = [] → s.blk.cst.drain = none →
     let n := s.blk.cst.wrq.length
     let low := s.blk.rfld Reg.CST_WM 0 7
     let high := s.blk.rfld Reg.CST_WM 16 7
     (high ≤ n → Yields (.writeBatch served) s (fun b => b.like { s.blk with cst := { s.blk.cst with
       wrq := s.blk.cst.wrq.drop (min served (n - low)), drain := if n ≤ low + served then none else some true } })) ∧
     (n < high → s.blk.cst.rdq = [] → 0 < n → Yields (.writeBatch served) s (fun b => b.like { s.blk with cst := { s.blk.cst with
       wrq := s.blk.cst.wrq.drop served, drain := if n ≤ served then none else some false } })) ∧
     (n < high → s.blk.cst.rdq ≠ [] → Yields (.writeBatch served) s (fun b => b.like s.blk)))) ∧
  (∀ (s : State) (n v : Nat), n < 8 →
     let c := Reg.CST_RSV_CTRL n
     let r := s.blk.rsv n
     (s.blk.domOn 12 = true →
       let b0 := (s.blk.setReg c (rsvCtrl (s.blk.reg c) v 1)).setRsv n { r with acc := false }
       (b0.rsvRefused n (fld v 0 9) = false → Yields (.reservoirStart n v) s (fun b => b.rfld c 0 9 = fld v 0 9 ∧ b.rb c 16 = true ∧
         b.rb c 24 = false ∧
         b.rsv n = {
           acc := true, begin := max (s.blk.reg64 (Reg.CST_RSV_AT_LO n) (Reg.CST_RSV_AT_HI n)) (s.blk.blk + 1), ply := fld v 0 9,
             once := bit v 17 } ∧ (∀ k, k ≠ n → b.rsv k = s.blk.rsv k) ∧ b.mem = s.blk.mem)) ∧
       (b0.rsvRefused n (fld v 0 9) = true → Yields (.reservoirStart n v) s (fun b => b.rb c 25 = true ∧ b.cst = s.blk.cst ∧
         b.mem = s.blk.mem))) ∧
     (s.blk.domOn 12 = true → r.acc = true → (∀ dom, (s.blk.pass dom).active = false) → Yields (.reservoirStop n v) s (fun b =>
       b.rb c 16 = false ∧ b.rb c 24 = false ∧ b.rsv n = { wptr := r.wptr, shown := s.blk.rsvShown n, atBlk := s.blk.blk, ply := r.ply } ∧
       (∀ k, k ≠ n → b.rsv k = s.blk.rsv k) ∧ b.mem = s.blk.mem)) ∧
     (s.blk.steady → r.acc = true → r.run = false → Yields (.reservoirBegin n) s (fun b =>
       b.rsv n = { r with
         run := true, first := if s.blk.plyDom r.ply = 2 then s.blk.loom.xTick + 1 else r.begin * s.blk.spb (s.blk.plyDom r.ply) } ∧
       b.rb c 24 = true ∧ (∀ k, k ≠ n → b.rsv k = s.blk.rsv k) ∧ b.mem = s.blk.mem)))

/-! ## The Ethernet ports, forwarding and the field bus (spec/09_media_ports.md) -/

/-- R253 to R268, R270: FRAME_RECEIVE completes: the errors of the physical layer are counted; a malformed frame is counted and goes nowhere;
a good one that is accepted joins its receive queue, with its stamp; one for another port joins that port's class queue, and its source
is learned. CUT_THROUGH begins a copy at an idle egress port, by the lookup made when the frame began. FRAME_TRANSMIT: at a frame boundary
the lowest queue that is ready sends its head with its FCS. TX_UNDERRUN ends the frame with the complement of its FCS. -/
def Obligations.NetFrames : Prop :=
  (∀ (s : State) (p : Nat) (f : Bytes) (err : PhyErr) (age : Nat), p < 6 → s.blk.portUp p = true → (s.blk.port p).cuts = [] →
    (s.blk.port p).look = none → s.blk.net.tbl = none →
    let g := f.take (f.length - 4)
    let ctr := fun (b : Block) (k : Nat) => b.reg (portBase p + 0x400 + 4 * k)
    (∀ k, s.blk.malformed p f err.code = some k → Yields (.frameReceive p f err age) s (fun b =>
      ctr b k = (ctr s.blk k + 1) % 2 ^ 32 ∧ (p < 5 → ctr b 30 = (ctr s.blk 30 + err.pcs) % 2 ^ 32) ∧
      (p < 4 → ctr b 31 = (ctr s.blk 31 + err.fec) % 2 ^ 32) ∧ (∀ i q, b.rxq i q = s.blk.rxq i q ∧ b.txq i q = s.blk.txq i q) ∧
      b.net.fwd = s.blk.net.fwd ∧ b.mem = s.blk.mem)) ∧
    (s.blk.malformed p f err.code = none → ptpLike g = none →
      (∀ q, s.blk.fwdSet p g = [] → s.blk.accepts p g = true → s.blk.classify p g = some q →
        let e : RxFrame := { port := p, bytes := g, stamp := s.blk.stampRx p age, checked := s.blk.tickTime,
                             clk := 16 * s.blk.tsu.ticks - age, tick := s.blk.tsu.ticks }
        rxUsed (s.blk.rxq p q) + rxCost e ≤ s.blk.rxSize p q → Yields (.frameReceive p f err age) s (fun b =>
          b.rxq p q = s.blk.rxq p q ++ [e] ∧ (∀ j, j ≠ q → b.rxq p j = s.blk.rxq p j) ∧ ctr b 0 = (ctr s.blk 0 + 1) % 2 ^ 32 ∧
          ctr b 1 = (ctr s.blk 1 + f.length) % 2 ^ 32 ∧ b.mem = s.blk.mem)) ∧
      (∀ e, s.blk.fwdSet p g = [e] → s.blk.accepts p g = false → s.blk.txRoom e (fwdQueue g) (g.length + 4) = true →
        Yields (.frameReceive p f err age) s (fun b =>
          b.txq e (fwdQueue g) = s.blk.txq e (fwdQueue g) ++ [{ bytes := g, present := g.length, rx := some (p, s.blk.stampRx p age) }] ∧
          (∀ q, b.rxq p q = s.blk.rxq p q) ∧
          (s.blk.rb Reg.FWD_CTRL 1 = true → isGroup (saOf g) = false →
            ((s.blk.fwdFind (vidOf g) (saOf g)).elim
              (∃ i, i ∈ upFrom (4 * fwdBucket (fwdKey (vidOf g) (saOf g))) 4 ∧ (s.blk.fwdEnt i).valid = false)
              (fun i => (s.blk.fwdEnt i).static = false)) →
            ∃ i, b.fwdFind (vidOf g) (saOf g) = some i ∧ (b.fwdEnt i).ports = 2 ^ p ∧ (b.fwdEnt i).hit = true))))) ∧
  (∀ (s : State) (p e tap : Nat) (f : Bytes), p < 4 → e < 4 → 64 ≤ f.length → s.blk.portUp p = true → s.blk.cutOk p e f = true →
    (∀ c ∈ (s.blk.port p).cuts, c.egress ≠ e) → Yields (.cutThrough p e f tap) s (fun b => ∃ c : CutCopy,
      (b.port p).cuts = (s.blk.port p).cuts ++ [c] ∧ c.egress = e ∧ c.stamp = s.blk.stampTx e tap ∧
      (b.port p).look = some (s.blk.lookup p f) ∧ (∀ i, i ≠ p → b.port i = s.blk.port i) ∧ b.like { s.blk with net := b.net })) ∧
  (∀ (s : State) (p q tap : Nat) (t : TxFrame) (r : List TxFrame), p < 5 → q < txQueues p → (s.blk.port p).cur = none → s.blk.portUp p = true →
    s.blk.cutting p = false → s.blk.txq p q = t :: r → (∀ j, j < q → s.blk.txq p j = []) → t.whole = true → t.rx = none → t.host = none →
    ptpLike (padTo60 t.bytes) = none → Yields (.frameTransmit p tap none) s (fun b =>
      .frame p (padTo60 t.bytes ++ fcsOf (padTo60 t.bytes)) (if t.stampReq then some (s.blk.stampTx p tap) else none) ∈ b.out ∧
      b.txq p q = r ∧ (∀ j, j ≠ q → b.txq p j = s.blk.txq p j) ∧
      b.reg (portBase p + 0x400 + 80) = (s.blk.reg (portBase p + 0x400 + 80) + 1) % 2 ^ 32 ∧ b.mem = s.blk.mem)) ∧
  (∀ (s : State) (p sent st : Nat) (t : TxFrame), p < 5 → (s.blk.port p).cur = some (t, st) → t.host = none →
    Yields (.txUnderrun p sent) s (fun b =>
      let g := t.bytes.take (min sent (t.bytes.length - 1))
      .frame p (g ++ badFcs g) (some st) ∈ b.out ∧ (b.port p).cur = none ∧ (b.frec (portSrc p)).pend = true ∧ b.rb (portBase p + 8) 2 = true ∧
      b.reg (portBase p + 0x400 + 100) = (s.blk.reg (portBase p + 0x400 + 100) + 1) % 2 ^ 32))

/-- R252, R258, R259: a link comes up and goes down, when its queues are flushed; a valid write of FEC drops it; a change of a receive queue's
size or destination empties that queue, and a write past the buffer's total has no effect. R278, R279, R513: the field bus defers, sends,
meets collisions, backs off and gives a frame up, each wait in bit times of the time clock; and MDIO runs one frame at a time. Which bits
of the LFSR a back-off takes is a free value within the range of its attempt: log entry 42. -/
def Obligations.NetLinksAndFieldBus : Prop :=
  ((∀ (s : State) (p speed : Nat), p < 5 → s.blk.portSpeed p ≠ 0 → s.blk.portUp p = false → s.blk.domOn (if p < 4 then 13 else 14) = true →
     Yields (.linkUp p speed) s (fun b => b.portUp p = true ∧ b.rb (portBase p + 8) 0 = true ∧
       OnlyRegs [portBase p + 4, portBase p + 8] s.blk b)) ∧
   (∀ (s : State) (p why : Nat), p < 5 → s.blk.portUp p = true → Yields (.linkDown p why) s (fun b =>
     b.portUp p = false ∧ (∀ q, b.txq p q = []) ∧ (b.port p).cur = none ∧ b.rb (portBase p + 8) 1 = true ∧ (b.frec (portSrc p)).pend = true ∧
     (∀ q, b.rxq p q = s.blk.rxq p q))) ∧
   (∀ (s : State) (p v : Nat), p < 4 → s.blk.domOn 13 = true →
     let bad := fld v 2 2 = 3 ∨ (fld v 2 2 = 2 ∧ s.blk.portSpeed p = 1)
     (¬bad → Yields (.fecWrite p v) s (fun b => b.rfld (Reg.NET_CFG p) 2 2 = fld v 2 2 ∧ b.portUp p = false)) ∧
     (bad → Yields (.fecWrite p v) s (fun b => b.rfld (Reg.NET_CFG p) 2 2 = s.blk.rfld (Reg.NET_CFG p) 2 2 ∧
       OnlyRegs [Reg.NET_CFG p] s.blk b))) ∧
   (∀ (s : State) (p q v : Nat), p < 5 → q < rxQueues p → s.blk.islandOff (portBase p + 0x40 + 4 * q) = false →
     let total := ((below (rxQueues p)).map (fun i => if i = q then fld v 0 9 else fld (s.blk.reg (portBase p + 0x40 + 4 * i)) 0 9)).sum
     (total ≤ (if p = 4 then 32 else 256) → Yields (.rxqWrite p q v) s (fun b => b.rxSize p q = 1024 * fld v 0 9 ∧
       (s.blk.rxSize p q ≠ 1024 * fld v 0 9 → b.rxq p q = []) ∧ (∀ j, j ≠ q → b.rxq p j = s.blk.rxq p j) ∧ b.mem = s.blk.mem)) ∧
     ((if p = 4 then 32 else 256) < total → Yields (.rxqWrite p q v) s (fun b => b.like s.blk)))) ∧
  ((∀ (s : State) (t : TxFrame) (r : List TxFrame), s.blk.txq 5 0 = t :: r →
     let x := s.blk.port 5
     let ctr := fun (b : Block) (k : Nat) => b.reg (portBase 5 + 0x400 + 4 * k)
     (s.blk.portUp 5 = true → x.phase = .idle → Yields (.deferral none) s (fun b => (b.port 5).phase = .deferring ∧
       (b.port 5).attempt = x.attempt + 1 ∧ b.txq 5 0 = t :: r ∧
         ctr b 29 = (if x.deferred then ctr s.blk 29 else (ctr s.blk 29 + 1) % 2 ^ 32))) ∧
     (s.blk.steady → x.phase = .deferring → Yields (.fieldBusTransmit true false) s (fun b => x.since + 9600 ≤ b.pclk ∧
       .frame 5 (padTo60 t.bytes ++ fcsOf (padTo60 t.bytes)) none ∈ b.out ∧ b.txq 5 0 = r ∧ (b.port 5).phase = .idle ∧ (b.port 5).attempt = 0 ∧
       ctr b 20 = (ctr s.blk 20 + 1) % 2 ^ 32)) ∧
     (s.blk.steady → x.phase = .deferring → Yields (.fieldBusTransmit false false) s (fun b => x.since + 9600 ≤ b.pclk ∧
       (b.port 5).phase = .sending ∧ (b.port 5).since = b.pclk ∧ b.txq 5 0 = t :: r ∧ b.regs = s.blk.regs)) ∧
     (s.blk.steady → x.phase = .sending → ∀ bits, Yields (.collision bits) s (fun b => ctr b 31 = (ctr s.blk 31 + 1) % 2 ^ 32 ∧
       .jam bits ∈ b.out ∧ x.since + 100 * (bits + 32) ≤ b.pclk ∧
       (bits ≤ 512 → x.attempt < 16 → (b.port 5).phase = .backoff ∧ (b.port 5).slots = b.lfsrRand (min x.attempt 10) ∧
         (b.port 5).slots < 2 ^ min x.attempt 10 ∧ b.txq 5 0 = t :: r) ∧
       (512 < bits ∨ 16 ≤ x.attempt → (b.port 5).phase = .idle ∧ b.txq 5 0 = r ∧ (b.frec (portSrc 5)).pend = true))) ∧
     (s.blk.steady → x.phase = .backoff → Yields .backoff s (fun b => x.since + 51200 * x.slots ≤ b.pclk ∧ (b.port 5).phase = .deferring ∧
       (b.port 5).attempt = x.attempt + 1 ∧ b.txq 5 0 = t :: r ∧ b.regs = s.blk.regs))) ∧
   (∀ (s : State) (v : Nat), s.blk.domOn 14 = true → v.testBit 31 = true → s.blk.net.mdio = false → Yields (.mdioGo v) s (fun b =>
     b.net = { s.blk.net with mdio := true } ∧ b.rb Reg.FBS_MDIO 31 = true ∧ ∃ w, .mdio w ∈ b.out ∧ fld w 0 16 = fld v 0 16 ∧
       fld w 18 10 = fld v 18 10 ∧ fld w 30 1 = fld v 30 1)) ∧
   (∀ (s : State) (data : Nat), s.blk.net.mdio = true → Yields (.mdioDone data) s (fun b => b.net = { s.blk.net with mdio := false } ∧
     b.rb Reg.FBS_MDIO 31 = false ∧
     b.rfld Reg.FBS_MDIO 0 16 = (if s.blk.rfld Reg.FBS_MDIO 28 2 = (if s.blk.rb Reg.FBS_MDIO 30 then 3 else 2) then data % 65536
       else s.blk.rfld Reg.FBS_MDIO 0 16))))

/-- R268, R269: TABLE_READ, TABLE_WRITE, TABLE_DELETE, TABLE_FIND, FLUSH_DYNAMIC and FLUSH_ALL, with no other operation in progress, complete
with what each leaves of the table and its registers; and AGE_SWEEP drops the dynamic entries not hit since the last one. -/
def Obligations.ForwardingTable : Prop :=
  (∀ (s : State) (i : Nat), i < 4096 → s.blk.domOn 13 = true → s.blk.net.tbl = none →
    let e := s.blk.fwdEnt i
    let d1 := s.blk.reg Reg.FWD_TBL_D1
    let mac := macOfRegs (s.blk.reg Reg.FWD_TBL_D0) (fld d1 0 16)
    (e.vid < 4096 → e.mac < 2 ^ 48 → e.ports < 16 → Yields (.tableRead i) s (fun b => b.rb Reg.FWD_TBL_D1 31 = e.valid ∧
      b.rb Reg.FWD_TBL_D1 30 = e.static ∧ b.rb Reg.FWD_TBL_D1 29 = e.hit ∧ b.rfld Reg.FWD_TBL_D1 16 12 = e.vid ∧
      macOfRegs (b.reg Reg.FWD_TBL_D0) (b.rfld Reg.FWD_TBL_D1 0 16) = e.mac ∧ b.reg Reg.FWD_TBL_D2 = e.ports ∧
      OnlyRegs [Reg.FWD_TBL_CMD, Reg.FWD_TBL_D0, Reg.FWD_TBL_D1, Reg.FWD_TBL_D2] s.blk b)) ∧
    Yields (.tableWrite i) s (fun b => b.fwdEnt i =
        ⟨d1.testBit 31, d1.testBit 30, d1.testBit 29, fld d1 16 12, mac, s.blk.rfld Reg.FWD_TBL_D2 0 4⟩ ∧
      (∀ j, j ≠ i → b.fwdEnt j = s.blk.fwdEnt j) ∧ b.mem = s.blk.mem) ∧
    Yields (.tableDelete i) s (fun b => b.fwdEnt i = {} ∧ (∀ j, j ≠ i → b.fwdEnt j = s.blk.fwdEnt j) ∧ b.mem = s.blk.mem) ∧
    Yields (.tableFind i) s (fun b => b.net = s.blk.net ∧
      (∀ j, s.blk.fwdFind (fld d1 16 12) mac = some j → b.rb Reg.FWD_TBL_CMD 30 = true ∧ b.rfld Reg.FWD_TBL_CMD 0 12 = j) ∧
      (s.blk.fwdFind (fld d1 16 12) mac = none → b.rb Reg.FWD_TBL_CMD 30 = false ∧ b.rfld Reg.FWD_TBL_CMD 0 12 = i)) ∧
    (tabWf {} s.blk.net.fwd = true → Yields (.flushDynamic i) s (fun b => ∀ j,
      b.fwdEnt j = if (s.blk.fwdEnt j).valid && (s.blk.fwdEnt j).static then s.blk.fwdEnt j else {})) ∧
    Yields (.flushAll i) s (fun b => (∀ j, b.fwdEnt j = {}) ∧ b.net = { s.blk.net with fwd := [] })) ∧
  (∀ s : State, tabWf {} s.blk.net.fwd = true → s.blk.rfld Reg.FWD_CTRL 16 16 ≠ 0 → Yields .ageSweep s (fun b => ∀ j,
    let e := s.blk.fwdEnt j
    b.fwdEnt j = if e.valid && !e.static then (if e.hit then { e with hit := false } else {}) else e))

/-! ## Flows (spec/10_flows.md) -/

/-- R285 to R288, R290 to R301: PACKET_RELEASE completes: the packet joins queue 1 of its path's port with its RTP header and samples.
SKEIN_FRAME: a frame that matches no skein only leaves the flow engine's queue for firmware; one that breaks a rule is counted and recorded;
a valid one locks the SSRC and brings its path up. PRESENTATION delivers the sample's words, or opens a gap; SKEIN_GAP_TIMEOUT returns the
skein to WAIT; PATH_DOWN takes a silent path down; and SPILL_FETCH moves a spilled skein's window on. -/
def Obligations.Flows : Prop :=
  (∀ (s : State) (j t : Nat) (d : Draft) (k : Skin) (dom n : Nat), s.blk.steady → s.blk.stg.force = some d →
    s.blk.skein? j = some (k, dom, n) → 128 ≤ j → j < 256 → (s.blk.txs j).run = true → n ≠ 0 → t % n = 0 → (s.blk.txs j).next < t + n →
    s.blk.tick dom ≤ t + n - 1 → (∀ i, 128 ≤ i → i < j → s.blk.dueNow dom (t + n - 1) i = none) → s.blk.drives = true →
    s.blk.loom.stopped = false → k.portB = 0xFF → k.portA < 4 → k.af = 4 → u8 k.dstA 0 / 16 = 14 → (d.addr k.portA).ipv4.length = 4 →
    s.blk.portUp k.portA = true → txUsed (s.blk.txq k.portA 1) + (100 + (s.blk.rtpPayload k n t).length) ≤ 48 * 1024 →
    Yields (.packetRelease j t none none) s (fun b => (b.txs j).seq = (t / n + k.ssrc % 65536) % 65536 ∧
      (b.txs j).rtp = (t + k.rtpOfs) % 2 ^ 32 ∧
      (b.txs j).next = t + n ∧
      b.reg (Reg.FLW_TX_PKT_A (j - 128)) = min (2 ^ 32 - 1) (s.blk.reg (Reg.FLW_TX_PKT_A (j - 128)) + 1) ∧
      ∃ hd f, f = hd ++ rtpHeader k n t ++ s.blk.rtpPayload k n t ∧ f.take 3 = [0x01, 0x00, 0x5E] ∧
        b.txq k.portA 1 = s.blk.txq k.portA 1 ++ [{ bytes := f, present := f.length }])) ∧
  (∀ (s : State) (p q : Nat) (d : Draft) (f : RxFrame) (rest : List RxFrame), p < 4 → s.blk.rxDest p q = 0 → s.blk.rxq p q = f :: rest →
    s.blk.stg.force = some d → s.blk.earlier p q = none →
    (matchSkein d p f.bytes = none → Yields (.skeinFrame p q) s (fun b => b.rxq p q = rest ∧ b.net.rxs = s.blk.net.rxs ∧ b.mem = s.blk.mem ∧
      (s.blk.sys.firmware = false → b.like { s.blk with net := b.net } ∧ b.net.txs = s.blk.net.txs))) ∧
    (∀ k path, matchSkein d p f.bytes = some (k, path) → k.inst < 128 → (s.blk.rxs k.inst).st ≠ 0 → s.blk.loom.stopped = false →
      let n := packetN (s.blk.rate (skinDom d k)) k.ptime
      (∀ c, violation k n (s.blk.rxs k.inst).ssrc f.bytes = .error c → Yields (.skeinFrame p q) s (fun b => b.rxq p q = rest ∧
        b.rfld (Reg.FLW_RX_VIOL k.inst) (16 * path) 16 = min 65535 (s.blk.rfld (Reg.FLW_RX_VIOL k.inst) (16 * path) 16 + 1) ∧
        b.reg Reg.FLW_VIOL = k.inst * 65536 + c * 256 + path ∧ b.rb Reg.FLW_INT 4 = true ∧ (b.frec srcFLW).pend = true ∧
        b.rxs k.inst = s.blk.rxs k.inst)) ∧
      (∀ r, violation k n (s.blk.rxs k.inst).ssrc f.bytes = .ok r → Yields (.skeinFrame p q) s (fun b => b.rxq p q = rest ∧
        (b.rxs k.inst).ssrc = some (be32 r 8) ∧ (if path = 0 then (b.rxs k.inst).aUp = true else (b.rxs k.inst).bUp = true) ∧
        (b.rxs k.inst).st = (s.blk.rxs k.inst).st ∧ ∀ e ∈ (s.blk.rxs k.inst).buf, e ∈ (b.rxs k.inst).buf)))) ∧
  (∀ (s : State) (i t : Nat) (k : Skin) (dom n : Nat), s.blk.steady → s.blk.skein? i = some (k, dom, n) → dom ≠ 2 → n ≠ 0 → i < 128 →
    let x := s.blk.rxs i
    x.spill = false → x.st = 2 →
    (∀ ws, x.buf.find? (fun e => e.1 == t) = some (t, ws) → x.ramp = 32 → Yields (.presentation i t) s (fun b => (b.rxs i).st = 2 ∧
      (b.rxs i).last = ws ∧ (∀ e, e ∈ (b.rxs i).buf ↔ t < e.1 ∧ e ∈ x.buf) ∧
      ∀ l w, l < k.lanes → ws[l]? = some w → b.lane (k.firstLane + l) t = BitVec.ofInt 64 (if b.silent (k.firstLane + l) then 0 else w))) ∧
    (x.buf.find? (fun e => e.1 == t) = none → Yields (.presentation i t) s (fun b => (b.rxs i).st = 3 ∧
      b.rfld (Reg.FLW_RX_LOSS i) 0 16 = min 65535 (s.blk.rfld (Reg.FLW_RX_LOSS i) 0 16 + 1) ∧ (b.frec srcFLW).pend = true))) ∧
  (∀ (s : State) (i : Nat), s.blk.steady → (s.blk.rxs i).st = 3 → Yields (.skeinGapTimeout i) s (fun b =>
    b.rxs i = (s.blk.rxs i).toWait ∧ (∀ j, j ≠ i → b.rxs j = s.blk.rxs j) ∧ b.regs = s.blk.regs ∧ b.mem = s.blk.mem)) ∧
  (∀ (s : State) (i path : Nat) (k : Skin) (dom n : Nat), s.blk.steady → s.blk.skein? i = some (k, dom, n) →
    (if path = 0 then (s.blk.rxs i).aUp else (s.blk.rxs i).bUp) = true → Yields (.pathDown i path) s (fun b =>
      b.rxs i = (if path = 0 then { s.blk.rxs i with aUp := false } else { s.blk.rxs i with bUp := false }) ∧
      b.rb Reg.FLW_INT 2 = true ∧ (b.frec srcFLW).pend = true ∧ b.mem = s.blk.mem)) ∧
  (∀ (s : State) (i blk : Nat) (k : Skin) (dom n : Nat), s.blk.skein? i = some (k, dom, n) → (s.blk.rxs i).spill = true →
    s.blk.sys.memErr = [] →
    Yields (.spillFetch i blk) s (fun b => (b.rxs i).window = blk :: ((s.blk.rxs i).window.filter (· != blk)).take 1 ∧
      (b.rxs i).buf = (s.blk.rxs i).buf.map (fun e =>
        if blk * s.blk.spillSpb dom ≤ e.1 ∧ e.1 < (blk + 1) * s.blk.spillSpb dom then (e.1, s.blk.spillWords k n e.1) else e) ∧
      b.mem = s.blk.mem ∧ b.regs = s.blk.regs))

/-! ## The time unit (spec/11_network_time.md) -/

/-- R305 to R311: INCREMENT_WRITE, SLEW and STEP_REQUEST of a permitted master complete, SLEW_END with the slew's sum in TSU time, STEP_APPLY
at the step's tick, ABSORB_DONE with no remainder, REALIGN_RELEASE with the plies released, and NOW_READ and TXS_READ with what they
read. -/
def Obligations.TimeUnit : Prop :=
  (∀ (s : State) (m v : Nat), m = 13 ∨ m = 14 → s.blk.domOn 19 = true →
    let x := s.blk.reg Reg.TSU_INCR_LO + 2 ^ 32 * (v % 4)
    let f := toS 32 (s.blk.reg Reg.TSU_ADJ_FRAC)
    let d := toS 32 (s.blk.reg Reg.TSU_STEP_SEC) * 1000000000 + toS 32 (s.blk.reg Reg.TSU_STEP_NS)
    Yields (.incrementWrite m v) s (fun b =>
      (0x1F8000000 ≤ x ∧ x ≤ 0x208000000 → b.tsu.incrNext = some x ∧ b.reg Reg.TSU_INCR_HI = v % 4) ∧
      (¬(0x1F8000000 ≤ x ∧ x ≤ 0x208000000) → b.tsu.incrNext = s.blk.tsu.incrNext ∧ b.reg Reg.TSU_INCR_HI = s.blk.reg Reg.TSU_INCR_HI)) ∧
    Yields (.slew m v) s (fun b => (f.natAbs ≤ 0x2000000 → b.tsu.slewFrac = f ∧ b.tsu.slewCnt = v % 2 ^ 32) ∧
      (0x2000000 < f.natAbs → b.tsu.slewFrac = s.blk.tsu.slewFrac ∧ b.tsu.slewCnt = s.blk.tsu.slewCnt)) ∧
    (v.testBit 0 = true → Yields (.stepRequest m v) s (fun b =>
      (d.natAbs ≤ s.blk.reg Reg.TSU_JUMP_LIM ∨ v.testBit 1 = true → s.blk.tsu.step = none →
        b.like { s.blk with tsu := { s.blk.tsu with step := some (d, s.blk.tsu.ticks + 16) } }) ∧
      (s.blk.reg Reg.TSU_JUMP_LIM < d.natAbs ∧ v.testBit 1 = false ∨ s.blk.tsu.step ≠ none →
        b.tsu = s.blk.tsu ∧ b.rb Reg.TSU_INT 1 = true ∧ (b.frec srcTSU).pend = true)))) ∧
  (∀ (s : State) (m v : Nat), m ≠ 13 → m ≠ 14 → s.blk.domOn 19 = true → Yields (.stepRequest m v) s (fun b =>
    MtxRecorded mtxDENIED m (regBase + Reg.TSU_STEP_CMD) true s.blk b)) ∧
  (∀ s : State, Yields .slewEnd s (fun b => b.tsu.slewCnt = 0 ∧ b.tsu.ticks = s.blk.tsu.ticks + s.blk.tsu.slewCnt ∧
    (let i : Int := (s.blk.tsu.incrNext.getD s.blk.tsu.incr : Nat) + s.blk.tsu.slewFrac
     s.blk.tsu.step = none → 0 ≤ i → (s.blk.now : Int) + i * s.blk.tsu.slewCnt < 2 ^ 48 * secFrac →
     (b.now : Int) = s.blk.now + i * s.blk.tsu.slewCnt))) ∧
  (∀ (s : State) (d : Int) (at' : Nat), s.blk.tsu.step = some (d, at') → Yields .stepApply s (fun b => b.tsu.step = none ∧
    b.rb Reg.TSU_INT 0 = true ∧
    (at' = s.blk.tsu.ticks → b.tsu.rem = s.blk.tsu.rem + d * 2 ^ 32 ∧
      (0 ≤ (s.blk.now : Int) + d * 2 ^ 32 → (s.blk.now : Int) + d * 2 ^ 32 < 2 ^ 48 * secFrac → s.blk.now < 2 ^ 48 * secFrac →
        (b.now : Int) = s.blk.now + d * 2 ^ 32)))) ∧
  (∀ s : State, s.blk.steady → s.blk.tsu.realign = false → s.blk.tsu.incr = 0x200000000 → s.blk.tsu.incrNext = none → s.blk.tsu.slewCnt = 0 →
    Yields .absorbDone s (fun b => b.tsu.rem = 0 ∧ b.tsu.realign = false ∧ b.mem = s.blk.mem ∧ b.regs = s.blk.regs)) ∧
  (∀ s : State, s.blk.steady → s.blk.tsu.realign = true → Yields .realignRelease s (fun b => b.tsu.realign = false ∧ b.rb Reg.TSU_INT 2 = true ∧
    (∀ p, bit (tget 0 b.muted p) muRealign = false) ∧ b.mem = s.blk.mem)) ∧
  (∀ s : State, s.blk.domOn 19 = true →
    Yields .nowRead s (fun b => .read (regBase + Reg.TSU_NOW_NS) 4 s.blk.tsu.ns ∈ b.out ∧ b.reg Reg.TSU_NOW_FRAC = s.blk.tsu.frac % 2 ^ 32 ∧
      b.reg Reg.TSU_NOW_SEC_LO = s.blk.tsu.sec % 2 ^ 32 ∧ b.reg Reg.TSU_NOW_SEC_HI = s.blk.tsu.sec / 2 ^ 32 % 2 ^ 32 ∧
      OnlyRegs [Reg.TSU_NOW_FRAC, Reg.TSU_NOW_SEC_LO, Reg.TSU_NOW_SEC_HI] s.blk b) ∧
    (∀ e r, s.blk.tsu.txs = e :: r → Yields .txsRead s (fun b => b.tsu = { s.blk.tsu with txs := r } ∧
      .read (regBase + Reg.TSU_TXS_NS) 4 (stampNs e.stamp) ∈ b.out ∧ b.regs = s.blk.regs)))

/-- R319 to R323: SPOUT_ARM in time keeps the start, period and width it was armed with; SPOUT_EDGE and SPOUT_TRAILING_EDGE give the edges,
the second on the tick count; SPOUT_DISARM lets a pulse end; CAPTURE enters its stamp, counts an edge within 8 ns or one too many, and
CAPTURE_READ removes the oldest; and WINDOW_ARM and WINDOW_CLOSE open and end a window. -/
def Obligations.SpoutsCapturesWindows : Prop :=
  ∀ (s : State) (n : Nat), n < 8 →
    let a := Reg.TSU_SPT_CTRL n
    let x := tget {} s.blk.tsu.spouts n
    (∀ v, s.blk.domOn 19 = true → s.blk.rb a 0 = false → v.testBit 0 = true →
      let st := s.blk.spoutStart n v
      let per := s.blk.spoutPeriod n
      let width := fld v 8 24 * 64 * 2 ^ 32
      let ok := s.blk.now + 1000 * 2 ^ 32 ≤ st ∧ width ≠ 0 ∧ (per = 0 ∨ width + 64 * 2 ^ 32 ≤ per)
      (ok → Yields (.spoutArm n v) s (fun b => tget {} b.tsu.spouts n = {
          armed := true, start := st, period := per, width := fld v 8 24, trail := x.trail,
          level := if x.trail.isSome then x.level else v.testBit 3 } ∧
        b.rb a 0 = true ∧ OnlyRegs [a] { s.blk with tsu := b.tsu } b)) ∧
      (¬ok → Yields (.spoutArm n v) s (fun b => b.tsu = s.blk.tsu ∧ b.rb a 0 = false ∧ b.rb a 4 = true ∧ b.rb Reg.TSU_INT 4 = true))) ∧
    (∀ v, s.blk.domOn 19 = true → v.testBit 0 = false → Yields (.spoutDisarm n v) s (fun b => b.rb a 0 = false ∧
      tget {} b.tsu.spouts n = (if x.trail.isSome then { x with ending := true } else { x with armed := false }) ∧
      OnlyRegs [a] { s.blk with tsu := b.tsu } b)) ∧
    (s.blk.steady → x.armed = true → x.trail = none → x.period ≠ 0 ∨ x.k = 0 → Yields (.spoutEdge n) s (fun b =>
      let due := x.start + x.k * x.period
      .edge (pinSpout n) (!s.blk.rb a 3) (due * 8 / 2 ^ 32 : Nat) ∈ b.out ∧
      tget {} b.tsu.spouts n = { x with
        trail := some (16 * b.tsu.ticks - (b.now - due) / 2 ^ 29 + x.width * 512), ending := x.period == 0, k := x.k + 1,
        level := !s.blk.rb a 3 } ∧ b.regs = s.blk.regs ∧ b.mem = s.blk.mem)) ∧
    (∀ c, s.blk.steady → x.trail = some c → Yields (.spoutTrailingEdge n) s (fun b =>
      .edge (pinSpout n) (!x.level) (b.stampAt c : Nat) ∈ b.out ∧ c ≤ 16 * b.tsu.ticks ∧
      tget {} b.tsu.spouts n = { x with trail := none, ending := false, armed := x.armed && !x.ending, level := !x.level } ∧
      (x.ending = true → b.rb a 0 = false) ∧ (x.ending = false → b.regs = s.blk.regs))) ∧
    (∀ falling tap, s.blk.rb (Reg.TSU_CAP_CTRL n) 0 = true → s.blk.rb (Reg.TSU_CAP_CTRL n) (if falling then 2 else 1) = true →
      let c := tget {} s.blk.tsu.caps n
      let k := s.blk.clkStamp tap
      ((∀ l, c.last = some l → l + 64 < k) → c.fifo.length < 16 → Yields (.capture n falling tap) s (fun b =>
        tget {} b.tsu.caps n = { fifo := c.fifo ++ [(s.blk.stamp tap, falling)], last := some k } ∧
        b.rb Reg.TSU_INT 5 = true ∧ ∀ i, i ≠ n → tget {} b.tsu.caps i = tget {} s.blk.tsu.caps i)) ∧
      ((∀ l, c.last = some l → l + 64 < k) → 16 ≤ c.fifo.length → Yields (.capture n falling tap) s (fun b =>
        tget {} b.tsu.caps n = { fifo := c.fifo, last := some k } ∧
        b.rfld (Reg.TSU_CAP_CTRL n) 16 8 = min 255 (s.blk.rfld (Reg.TSU_CAP_CTRL n) 16 8 + 1) ∧
        b.rb Reg.TSU_INT 5 = true ∧ (b.frec srcTSU).pend = true)) ∧
      (∀ l, c.last = some l → k ≤ l + 64 → Yields (.capture n falling tap) s (fun b =>
        tget {} b.tsu.caps n = { fifo := c.fifo, last := some k } ∧
        b.rfld (Reg.TSU_CAP_CTRL n) 24 8 = min 255 (s.blk.rfld (Reg.TSU_CAP_CTRL n) 24 8 + 1) ∧ (b.frec srcTSU).pend = true))) ∧
    (s.blk.domOn 19 = true → ∀ e r, (tget {} s.blk.tsu.caps n).fifo = e :: r → Yields (.captureRead n) s (fun b =>
      .read (regBase + Reg.TSU_CAP_NS n) 4 (stampNs e.1) ∈ b.out ∧ (tget {} b.tsu.caps n).fifo = r ∧
      (∀ i, i ≠ n → tget {} b.tsu.caps i = tget {} s.blk.tsu.caps i) ∧ b.regs = s.blk.regs)) ∧
    (∀ w v, w < 16 → s.blk.domOn 19 = true → v.testBit 0 = true → s.blk.rb (Reg.TSU_WIN_CTRL w) 0 = false →
      let o := s.blk.winTime (s.blk.reg (Reg.TSU_WIN_OPEN_SEC w)) (s.blk.rfld (Reg.TSU_WIN_OPEN_NS w) 0 30) (fld v 13 3)
      let c := s.blk.winTime (s.blk.reg (Reg.TSU_WIN_CLOSE_SEC w)) (s.blk.rfld (Reg.TSU_WIN_CLOSE_NS w) 0 30) (fld v 10 3)
      o < c → s.blk.stamp 0 + 8000 ≤ c → fld v 16 16 = 0 ∨ c - o ≤ fld v 16 16 * 8000000 → Yields (.windowArm w v) s (fun b =>
        tget {} b.tsu.wins w = { armed := true, opn := o, cls := c, inside := false } ∧ b.rb (Reg.TSU_WIN_CTRL w) 0 = true)) ∧
    (∀ w, s.blk.steady → w < 16 → (tget {} s.blk.tsu.wins w).armed = true → Yields (.windowClose w) s (fun b =>
      let y := tget {} s.blk.tsu.wins w
      let per := s.blk.rfld (Reg.TSU_WIN_CTRL w) 16 16 * 8000000
      (per = 0 → tget {} b.tsu.wins w = { y with armed := false } ∧ b.rb (Reg.TSU_WIN_CTRL w) 0 = false) ∧
      (per ≠ 0 → tget {} b.tsu.wins w = { y with opn := y.opn + per, cls := y.cls + per, inside := false }) ∧
      (s.blk.rb (Reg.TSU_WIN_CTRL w) 6 = false → y.inside = false → b.rb Reg.TSU_WIN_EVT w = true ∧ (b.frec srcTSU).pend = true)))

/-! ## The wellhead (spec/12_wellhead.md) -/

/-- R329 to R345: MEASUREMENT_UPDATE enters each offset, or for a word clock its measured family, in the candidate's windows;
CANDIDATE_LOST empties them; QUALITY_FRAME, QUALITY_STALE, ANNOUNCE and CHANNEL_STATUS leave their candidate's quality; RESELECT and
FAMILY_WRITE select; FAMILY_SWITCH follows the selected candidate's family, and FAMILY_RELEASE releases the plies. -/
def Obligations.WellheadReferences : Prop :=
  (∀ (s : State) (c : Nat) (off : Int), c < 4 ∨ (6 < c ∧ c < 11) → Yields (.measurementUpdate [(c, off)]) s (fun b =>
    (b.cand c).present = true ∧ (b.cand c).hist = (off - s.blk.wlh.eXo) :: (s.blk.cand c).hist.take 255 ∧
    (b.cand c).y1 = off - s.blk.wlh.eXo ∧ (b.cand c).fam = none ∧
    (s.blk.rank c ≠ 0xFF → (s.blk.cand c).st = 1 → (b.cand c).st = 2) ∧ (s.blk.rank c = 0xFF → (b.cand c).st = 0))) ∧
  (∀ (s : State) (c : Nat) (rate : Int), 4 ≤ c → c ≤ 6 →
    (∀ f nom, famOfRate rate.toNat = some (f, nom) → Yields (.measurementUpdate [(c, rate)]) s (fun b =>
      (b.cand c).present = true ∧ (b.cand c).fam = some f ∧ (b.cand c).hist.length = min 255 (s.blk.cand c).hist.length + 1)) ∧
    (famOfRate rate.toNat = none → Yields (.measurementUpdate [(c, rate)]) s (fun b =>
      (b.cand c).present = false ∧ (b.cand c).fam = none ∧ (b.cand c).hist = [] ∧ (b.cand c).st ≤ 1))) ∧
  (∀ (s : State) (c : Nat), c < 11 → Yields (.candidateLost c) s (fun b => (b.cand c).present = false ∧ (b.cand c).hist = [] ∧
    (b.cand c).st = (if 2 ≤ (s.blk.cand c).st then 1 else (s.blk.cand c).st) ∧
    ((s.blk.cand c).st = 3 → (b.frec srcWLH).pend = true ∧ b.rb Reg.WLH_INT 1 = true))) ∧
  (∀ (s : State) (n : Nat) (f : Bytes), n < 4 → f.length = 6 →
    let q := s.blk.ql n
    (u8 f 0 = 0x51 → u8 f 1 = (if n < 2 then 4 + n else 5 + n) → u8 f 2 < 16 → u8 f 3 < 2 →
      u8 f 5 = ((((u8 f 0 ^^^ u8 f 1) ^^^ u8 f 2) ^^^ u8 f 3) ^^^ u8 f 4) → Yields (.qualityFrame n f 0) s (fun b =>
        (b.ql n).good = q.good + 1 ∧ (b.ql n).lastLevel = u8 f 2 ∧ (b.ql n).prevLevel = (if q.good = 0 then 15 else q.lastLevel) ∧
        (b.ql n).seq = u8 f 4 ∧ (q.good = 0 ∨ u8 f 4 ≠ q.seq → (b.ql n).stale = false) ∧
        b.rfld (Reg.WLH_QL_CNT n) 0 16 = min 65535 (s.blk.rfld (Reg.WLH_QL_CNT n) 0 16 + 1))) ∧
    (u8 f 0 ≠ 0x51 → Yields (.qualityFrame n f 0) s (fun b => b.ql n = { q with badCode := 1 } ∧ (b.frec srcWLH).pend = true ∧
      b.rfld (Reg.WLH_QL_CNT n) 16 16 = min 65535 (s.blk.rfld (Reg.WLH_QL_CNT n) 16 16 + 1)))) ∧
  (∀ (s : State) (c : Nat), Yields (.qualityStale c) s (fun b => (∀ n, qlOf c = some n → (b.ql n).stale = true) ∧
    (qlOf c = none → c < 10 → (b.cand c).stale = true))) ∧
  (∀ (s : State) (c cls acc : Nat), c < 4 ∨ c = 9 → Yields (.announce c cls acc) s (fun b => (b.cand c).stale = false ∧
    (b.cand c).level = announceLevel cls acc ∧ (cls = 6 → 0x17 ≤ acc → acc ≤ 0x22 → (b.cand c).level = 0) ∧
    (cls = 255 → (b.cand c).level = 15) ∧ (b.cand c).st = (s.blk.cand c).st)) ∧
  (∀ (s : State) (byte4 : Nat), Yields (.channelStatus byte4 true) s (fun b => (b.cand 6).stale = false ∧
      (b.cand 6).level = [11, 3, 6, 15].getD (byte4 % 4) 15) ∧
    Yields (.channelStatus byte4 false) s (fun b => b.like s.blk)) ∧
  (∀ (s : State) (v c : Nat), s.blk.domOn 19 = true → s.blk.wlh.sel = none →
    (v.testBit 6 = true → fld v 2 1 = s.blk.rfld Reg.WLH_CTRL 2 1 → c < 11 → (s.blk.cand c).st = 3 → s.blk.candLevel c ≤ 14 →
      s.blk.candFam c = none → (∀ i, i < 11 → i ≠ c → (s.blk.cand i).st ≠ 3) → Yields (.reselect v) s (fun b =>
        b.wlh.sel = some c ∧ b.wlh.family = s.blk.wlh.family)) ∧
    ((∀ i, i < 11 → (s.blk.cand i).st ≠ 3) → fld v 2 1 ≠ s.blk.rfld Reg.WLH_CTRL 2 1 → Yields (.familyWrite v) s (fun b =>
      b.wlh.sel = none ∧ b.rfld Reg.WLH_CTRL 2 1 = fld v 2 1 ∧ b.wlh.family = fld v 2 1))) ∧
  (∀ (s : State) (f : Nat),
    let may := s.blk.wlh.sel.bind s.blk.candFam = some f ∧ s.blk.rb Reg.WLH_CTRL 1 = true ∧ f ≠ s.blk.wlh.family ∧ f ≤ 1
    (may → Yields (.familySwitch f) s (fun b => b.wlh.family = f ∧ b.wlh.famSwitch = true ∧
      (∀ p ∈ s.blk.domPlies [0, 1], bit (tget 0 b.muted p) muFamily = true) ∧ b.stg.force = s.blk.stg.force ∧
      b.loom.edits = s.blk.loom.edits.map (fun e => { e with due := famConv s.blk.blk s.blk.fBlk (if f = 1 then 11025 else 12000) e.due }))) ∧
    (¬may → Yields (.familySwitch f) s (fun b => b.like s.blk))) ∧
  (∀ s : State, s.blk.steady → s.blk.wlh.famSwitch = true → Yields .familyRelease s (fun b => b.wlh.famSwitch = false ∧
    b.wlh.family = s.blk.wlh.family ∧ b.mem = s.blk.mem ∧ ∀ p, bit (tget 0 b.muted p) muFamily = false))

/-- R326, R339, R346, R349 to R353: DPLL_UPDATE moves between the DPLL's states, its output within its limits whatever it is (a free value:
log entry 13); HOLDOVER_UPDATE, XO_ESTIMATE_UPDATE, XO_LOST, XO_RETURN, PLL_UNLOCK and PLL_LOCK_RELEASE complete; and WCKO_EDGE gives
the edges of a word-clock output, those of an input source at the instants predicted from its last edges. -/
def Obligations.WellheadClock : Prop :=
  (∀ (s : State) (err : Int), let w := s.blk.wlh
    (w.st = 0 → Yields (.dpllUpdate err) s (fun b => b.wlh.y = yClamp w.y (-w.eXo) ∧ b.wlh.st = (if w.sel.isSome then 1 else 0) ∧
      (w.sel.isSome = true → b.wlh.cur = w.sel))) ∧
    (w.st = 1 ∨ w.st = 2 → w.sel.isSome = true → w.sel = w.cur → w.y.natAbs ≤ 655360000 → Yields (.dpllUpdate err) s (fun b =>
      b.wlh.y.natAbs ≤ 655360000 ∧ (b.wlh.y - w.y).natAbs ≤ 6553 ∧
      (w.st = 1 → 65536 ≤ err.natAbs → b.wlh.st = 1 ∧ b.wlh.lockMs = 0) ∧
      (w.st = 1 → err.natAbs < 65536 → 4000 ≤ w.lockMs + 1 → b.wlh.st = 2 ∧ b.rb Reg.WLH_INT 8 = true) ∧
      (w.st = 2 → b.wlh.st = 2))) ∧
    (w.st = 2 → w.sel = none → Yields (.dpllUpdate err) s (fun b => b.wlh.st = 3 ∧ b.wlh.holdK = 0 ∧ b.wlh.holdE = 0 ∧
      (b.frec srcWLH).pend = true)) ∧
    (w.st = 3 → Yields (.dpllUpdate err) s (fun b => b.wlh.y = yClamp w.y w.holdY ∧ b.wlh.st = (if w.sel.isSome then 1 else 3) ∧
      b.mem = s.blk.mem)) ∧
    (w.st = 3 → Yields .holdoverUpdate s (fun b =>
      let e := w.holdE + w.holdU + (toS 32 (s.blk.reg Reg.WLH_AGING)).natAbs * (w.holdK + 1) * 10 +
        (toS 32 (s.blk.reg Reg.WLH_TEMPCO)).natAbs * (toS 16 (s.blk.rfld Reg.WLH_XO_TEMP 0 16) - w.holdT0).natAbs * 8640
      let x := w.holdExpired || decide (s.blk.reg Reg.WLH_HOLD_BUDGET * (65536 * 864000) < e)
      b.wlh = { w with holdK := w.holdK + 1, holdE := e, holdExpired := x })) ∧
    (256 ≤ w.estSecs → w.xoLost = false → ∀ off, Yields (.xoEstimateUpdate off) s (fun b => b.wlh.eXoSet = true ∧ b.wlh.estSecs = 0 ∧
      (w.eXoSet = false → b.wlh.eXo = off) ∧ (w.eXoSet = true → (b.wlh.eXo - off).natAbs ≤ (w.eXo - off).natAbs) ∧ b.regs = s.blk.regs)) ∧
    (w.xoLost = false → Yields .xoLost s (fun b => b.wlh = { w with xoLost := true } ∧ b.rb Reg.WLH_INT 7 = true ∧
      (b.frec srcWLH).pend = true)) ∧
    Yields .xoReturn s (fun b => b.like { s.blk with wlh := { w with xoLost := false } }) ∧
    Yields .pllUnlock s (fun b => b.wlh = { w with pllLock := false, unlockMute := true } ∧ b.rb Reg.WLH_INT 6 = true ∧
      ∀ p ∈ s.blk.domPlies [0, 1], bit (tget 0 b.muted p) muPll = true) ∧
    (s.blk.steady → Yields .pllLockRelease s (fun b => b.wlh = { w with pllLock := true, unlockMute := false } ∧
      ∀ p, bit (tget 0 b.muted p) muPll = false))) ∧
  (∀ (s : State) (n k dt tap : Nat), n < 4 →
    let c := Reg.WLH_WCKO_CTRL n
    let src := s.blk.rfld c 28 3
    let x := s.blk.wcko n
    let rise := !s.blk.rb c 26
    (src ≤ 2 → s.blk.rb c 31 = true → s.blk.steady → ∀ e r, x.sets = e :: r →
      let ev : Int := (tickInstant (s.blk.wckoRate src) k * 8 / 2 ^ 32 : Nat)
      r = [] ∨ (e.tsu : Int) + 8000 ≤ ev + e.ofs → Yields (.wckoEdge n k dt tap false) s (fun b =>
        (b.wcko n).events = x.events + 1 ∧ (b.wcko n).sets = [e] ∧ b.regs = s.blk.regs ∧
        (k % (e.div + 1) = 0 → .edge (pinWcko n) rise (ev + e.ofs) ∈ b.out ∧ ∃ wid : Nat, .edge (pinWcko n) (!rise) (ev + e.ofs + wid) ∈ b.out ∧
          (s.blk.rb c 27 = true → wid = s.blk.rfld c 0 8 * 512)))) ∧
    (src ≤ 2 → s.blk.rb c 31 = false → Yields (.wckoEdge n k dt tap false) s (fun b => b.like s.blk)) ∧
    (2 < src → s.blk.steady → Yields (.wckoEdge n k dt tap true) s (fun b => b.wcko n = { x with
      idle := true, stamps := [], reach := none, level := s.blk.rb c 26 } ∧ b.regs = s.blk.regs)) ∧
    (2 < src → s.blk.steady →
      let s1 := s.blk.runTicks dt
      let t := s1.clkStamp tap
      let l := (t :: x.stamps).take 16
      let p := l.headD 0 - l.getLastD 0
      let q := l.length - 1
      Yields (.wckoEdge n k dt tap false) s (fun b =>
        (b.wcko n).stamps = l ∧ (b.wcko n).idle = (x.idle && decide (l.length < 2)) ∧
        (b.wcko n).events = x.events + s.blk.rfld c 31 1 ∧ b.regs = s.blk.regs ∧
        ∀ e r0 m, s.blk.rb c 31 = true → x.sets = [e] → x.reach = some r0 → 2 ≤ l.length → p ≠ 0 → r0 < m → 0 ≤ m →
          m ≤ (x.events : Int) + -(((e.ofs - 1600) * q) / (p : Int)) → m % (e.div + 1 : Nat) = 0 →
          .edge (pinWcko n) rise (t + (((m - x.events) * p + e.ofs * q) / (q : Int)) + ((s1.stamp 0 : Int) - s1.clkStamp 0)) ∈ b.out)))

/-! ## Sluices and rills (spec/03_lanes_domains_sluices.md, spec/13_rills.md) -/

/-- R96, R101 to R106, R109: SLUICE_TICK completes: a locked sluice delivers the reconstruction with its ramp, or falls out of lock by range,
slip, resync or a stop of its destination; SLUICE_SOURCE_TIMEOUT, SLUICE_LOCK, SLUICE_HOLD_EXIT, SLUICE_RANGE_EXIT and RESYNC move it
between its states; X_SKEIN_STOP stops X ticks. What the filter and the estimator's loop give are free values of their inputs: log entry
4. R356 to R368: RILL_FRAME takes a slave rill from LOST to SEEK, from SEEK to RUN at the eighth good frame, and a master rill to its next
tick; RILL_LOST loses a silent rill; REARM releases a held one; and MASK_WRITE waits for MASK_APPLY. -/
def Obligations.SluicesAndRills : Prop :=
  ((∀ (s : State) (n smp lateS lateD : Nat), n < 256 → s.blk.steady → let x := s.blk.slu n
     x.st ≠ .off → (x.dst = 2 → smp ≤ s.blk.loom.xTick) →
     let b0 := s.blk.toTick x.dst smp
     let t := b0.tickStamp x.dst smp
     let x1 := { x with stamps := b0.edgeStamp x.dst smp lateD :: x.stamps.take 1 }
     let m := (b0.setSlu n x1).sluMeasure x1 lateS
     let y := if x.fixed then x1 else { x1 with ratio := m.1, phase := m.2 }
     let ok := x.fixed = true ∨ (x.dstStopped = false ∧ x.resync = false ∧ b0.ratioOut x m.1 = false ∧ -16384 ≤ m.2 ∧ m.2 ≤ 16384)
     (x.st = .locked → ok → Yields (.sluiceTick n smp lateS lateD) s (fun b =>
       b.slu n = { y with ramp := min 32 (x.ramp + 1), valid := b0.sluWord y t } ∧ b.regs = s.blk.regs ∧ b.mem = s.blk.mem ∧
       (∀ k, k ≠ n → b.slu k = s.blk.slu k) ∧ ∃ w : Int,
         (32 ≤ x.ramp → w = b0.sluWord y t) ∧ (x.ramp < 32 → (32 * w - b0.sluWord y t * (x.ramp + 1 : Nat)).natAbs < 32) ∧
         b.lane (0x1F00 + n) smp = BitVec.ofInt 64 (if b.silent (0x1F00 + n) then 0 else w))) ∧
     (x.fixed = false → x.dstStopped = false → x.st = .locked ∨ x.st = .acquire → b0.ratioOut x m.1 = true →
       Yields (.sluiceTick n smp lateS lateD) s (fun b => (b.slu n).st = .range ∧ b.rb Reg.SLU_INT 3 = true ∧ (b.frec srcSLU).pend = true)) ∧
     (x.fixed = false → x.dstStopped = false → x.st = .locked → b0.ratioOut x m.1 = false → 16384 < m.2 ∨ m.2 < -16384 →
       Yields (.sluiceTick n smp lateS lateD) s (fun b => (b.slu n).st = .acquire ∧ b.rb Reg.SLU_INT 1 = true ∧
         b.rfld (Reg.SLU_CNT n) 0 16 = min 65535 (s.blk.rfld (Reg.SLU_CNT n) 0 16 + 1))) ∧
     (x.fixed = false → x.dstStopped = true → Yields (.sluiceTick n smp lateS lateD) s (fun b =>
       (b.slu n).st = .acquire ∧ (b.slu n).dstStopped = false ∧ b.regs = s.blk.regs))) ∧
   (∀ (s : State) (n : Nat), let x := s.blk.slu n
     x.dstStopped = false → x.fixed = false →
     (x.st = .acquire ∨ x.st = .locked → Yields (.sluiceSourceTimeout n) s (fun b => (b.slu n).st = .hold ∧
       b.rb Reg.SLU_INT 2 = true ∧ (b.frec srcSLU).pend = true ∧ ∀ k, k ≠ n → b.slu k = s.blk.slu k)) ∧
     (x.st = .acquire → Yields (.sluiceLock n) s (fun b =>
       b.slu n = { x with st := .locked, ramp := 0, fade := 0, since := s.blk.clkStamp 0 } ∧
       b.rb Reg.SLU_INT 0 = true ∧ ∀ k, k ≠ n → b.slu k = s.blk.slu k)) ∧
     (x.st = .hold → Yields (.sluiceHoldExit n) s (fun b => b.like (s.blk.setSlu n { x with st := .acquire, since := s.blk.clkStamp 0 }))) ∧
     (x.st = .range → Yields (.sluiceRangeExit n) s (fun b => b.like (s.blk.setSlu n { x with st := .acquire, since := s.blk.clkStamp 0 })))) ∧
   (∀ (s : State) (i v : Nat), s.blk.domOn 11 = true → i < 8 → Yields (.resync i v) s (fun b => b.regs = s.blk.regs ∧ ∀ n, b.slu n =
     if 32 * i ≤ n ∧ n < 32 * i + 32 ∧ v.testBit (n - 32 * i) = true ∧ ((s.blk.slu n).st = .locked ∨ (s.blk.slu n).st = .range)
     then { s.blk.slu n with resync := true } else s.blk.slu n)) ∧
   (∀ s : State, s.blk.domn.xEn = true → s.blk.domn.xKind = 1 → s.blk.loom.xStopped = false → Yields .xSkeinStop s (fun b =>
     b.loom = { s.blk.loom with xStopped := true } ∧ ∀ n, b.slu n =
       if (s.blk.slu n).dst = 2 ∧ (s.blk.slu n).st ≠ .off then { s.blk.slu n with dstStopped := true } else s.blk.slu n))) ∧
  ((∀ (s : State) (n : Nat) (left right next : List Bool) (e : WsEdges), s.blk.steady → let x := s.blk.rill n
     let bck := left.length + right.length
     (x.role = 1 → x.st = 3 → Yields (.rillFrame n left right next e) s (fun b => (b.rill n).st = 1 ∧ (b.rill n).good = 0)) ∧
     (x.role = 1 → x.st = 1 → x.good = 7 → x.edge.isSome = true → x.badCount bck = false → x.offRate e.dt = false →
       Yields (.rillFrame n left right next e) s (fun b => (b.rill n).st = 2 ∧ (b.rill n).good = 0 ∧
         (b.rill n).edge = x.edge.map (· + e.dt))) ∧
     (x.role = 1 → x.st = 1 → x.badCount bck = true → Yields (.rillFrame n left right next e) s (fun b =>
       (b.rill n).st = 1 ∧ (b.rill n).good = 0)) ∧
     (x.role = 0 → x.dom ≠ 2 → s.blk.rillX n = false → x.edge.isSome = true → Yields (.rillFrame n left right next e) s (fun b =>
       (b.rill n).inNext = max x.inNext (s.blk.tick x.dom) + 1 ∧ (b.rill n).st = x.st)) ∧
     (x.role = 1 → x.st = 2 → x.rate ≠ 0 → n < 48 → Yields (.rillLost n) s (fun b => (b.rill n).st = 3 ∧ b.rb Reg.RIL_INT 0 = true ∧
       b.rfld (Reg.RIL_CNT n) 0 16 = min 65535 (s.blk.rfld (Reg.RIL_CNT n) 0 16 + 1) ∧ (b.frec srcRIL).pend = true ∧
       (s.blk.drives = true → .pin (pinRill n 0) false ∈ b.out) ∧ (s.blk.rillX n = true → b.loom.xStopped = true)))) ∧
   (∀ (s : State) (n v : Nat), n < 48 → s.blk.domOn 17 = true → v.testBit 0 = true → (s.blk.rill n).st = 4 → Yields (.rearm n v) s (fun b =>
     b.like (s.blk.setRill n { s.blk.rill n with st := 1, good := 0 }))) ∧
   (∀ (s : State) (h v : Nat), h < 6 → s.blk.domOn 17 = true →
     (s.blk.uniform h = true ∨ v % 2 ^ 16 = 0xFFFF → Yields (.maskWrite h v) s (fun b => b.reg (Reg.RIL_HANK_MASK h) = v % 2 ^ 16 ∧
       h ∈ b.ril.pend ∧ b.reg (Reg.RIL_HANK_MASK_ACTIVE h) = s.blk.reg (Reg.RIL_HANK_MASK_ACTIVE h) ∧ b.ril.rills = s.blk.ril.rills)) ∧
     (s.blk.uniform h = false → v % 2 ^ 16 ≠ 0xFFFF → Yields (.maskWrite h v) s (fun b => b.ril = s.blk.ril ∧
       b.reg (Reg.RIL_HANK_MASK h) = s.blk.reg (Reg.RIL_HANK_MASK h) ∧ b.rb Reg.RIL_INT 4 = true ∧ (b.frec srcRIL).pend = true))) ∧
   (∀ (s : State) (h : Nat), s.blk.steady → h < 6 → h ∈ s.blk.ril.pend → Yields (.maskApply h) s (fun b =>
     b.reg (Reg.RIL_HANK_MASK_ACTIVE h) = s.blk.reg (Reg.RIL_HANK_MASK h) ∧ h ∉ b.ril.pend ∧ b.ril.rills = s.blk.ril.rills ∧
     b.mem = s.blk.mem)))

/-! ## Jets (spec/14_jets.md) -/

/-- R378, R379, R383 to R386: BANK_START, BANK_STOP, START_SEQUENCE and STOP_SEQUENCE complete with a bank's start and stop and their steps,
JET_RESTART, RETRY and RETRY_CLEAR with a restart and the retries, and CUT, CUT_END and SHORT with what a cut does to the carrier periods
it limits. -/
def Obligations.JetStates : Prop :=
  (∀ (s : State) (k v : Nat), k < 4 → s.blk.domOn 18 = true → let x := s.blk.bank k
    (v.testBit 0 = true → x.cfg = true → x.st = 0 → Yields (.bankStart k v) s (fun b =>
      b.like (s.blk.setBank k { x with startAt := some (s.blk.blk + 1) }))) ∧
    (v.testBit 1 = true → x.st = 1 ∨ x.st = 2 → Yields (.bankStop k v) s (fun b =>
      b.like (s.blk.setBank k { x with stopAt := some (s.blk.blk + 1) })))) ∧
  (∀ (s : State) (k t : Nat), s.blk.steady → s.blk.jet.hardAt = none → let x := s.blk.bank k
    (x.st = 0 → x.cfg = true → x.stopAt = none → x.startAt = some t → (∀ u ∈ s.blk.startTicks k, t ≤ u) → t ≤ (s.blk.toBlk t).blk →
      Yields (.startSequence k) s (fun b =>
        let st := if t + 1 ≤ b.blk then 2 else 1
        (b.bank k).st = st ∧ (b.bank k).startAt = none ∧ b.rb Reg.JET_INT 5 = true ∧
        ∀ n ∈ jetsOf k, (s.blk.jetOf n).cfg.en = true → (s.blk.jetOf n).st = 0 → (b.jetOf n).st = st ∧ (b.jetOf n).seqAt = t ∧
          (b.jetOf n).lvl = 0 ∧ (b.jetOf n).errs = [] ∧ (b.jetOf n).cfg = (s.blk.jetOf n).cfg)) ∧
    (x.st = 2 → x.stopAt = some t → (∀ u ∈ s.blk.stopTicks k, t ≤ u) → t ≤ (s.blk.toBlk t).blk →
      (∃ n ∈ jetsOf k, (s.blk.jetOf n).st = 2 ∧ (s.blk.jetOf n).stopAt = none ∧ (s.blk.jetOf n).offAt = none) →
      Yields (.stopSequence k) s (fun b => (b.bank k).st = 3 ∧ (b.bank k).stopAt = none ∧ b.rb Reg.JET_INT 5 = true ∧
        ∀ n ∈ jetsOf k, (s.blk.jetOf n).st = 2 → (s.blk.jetOf n).stopAt = none → (s.blk.jetOf n).offAt = none →
          b.jetOf n = { s.blk.jetOf n with st := 3, stopCnt := 0 }))) ∧
  (∀ (s : State) (n : Nat), n < 32 → let x := s.blk.jetOf n
    let cool := s.blk.stageT n ≤ (s.blk.prot n).tFold ∧ s.blk.live? (2 * n) = true ∧ s.blk.live? (2 * n + 1) = true
    (∀ v, s.blk.domOn 18 = true → v.testBit 0 = true → x.st = 4 ∨ (x.st = 5 ∧ cool) → Yields (.jetRestart n v) s (fun b =>
      b.jetOf n = { x with retries := 0, st := 0, reason := 0, startAt := some (s.blk.blk + 1) } ∧ OnlyJet n s.blk b ∧ b.regs = s.blk.regs)) ∧
    (s.blk.steady → (s.blk.bank (n / 8)).retry ≠ 0 → x.retries < s.blk.rfld (Reg.JET_BANK_CFG (n / 8)) 24 8 →
      (x.st = 4 ∨ (x.st = 5 ∧ cool) → Yields (.retry n) s (fun b =>
        b.jetOf n = { x with retries := x.retries + 1, st := 0, reason := 0, startAt := some (b.blk + 1) } ∧ OnlyJet n s.blk b ∧
        b.regs = s.blk.regs)) ∧
      (x.st = 5 → ¬cool → Yields (.retry n) s (fun b =>
        b.jetOf n = { x with retries := x.retries + 1, stoppedAt := b.stamp 0 } ∧ OnlyJet n s.blk b ∧ b.regs = s.blk.regs))) ∧
    (s.blk.steady → x.st = 2 → Yields (.retryClear n) s (fun b => b.jetOf n = { x with retries := 0 } ∧ OnlyJet n s.blk b ∧
      b.regs = s.blk.regs))) ∧
  (∀ (s : State) (n cause : Nat), n < 32 → let x := s.blk.jetOf n
    let p := s.blk.period (n / 8)
    let run := if x.limNext = p then x.limCnt + 1 else 1
    let cut := setFld x.cut (cause % 2) 1 1
    (x.modulating = false → Yields (.cut n cause) s (fun b => b.like (s.blk.setJet n { x with cut := cut }))) ∧
    (x.modulating = true → x.cut = 0 → x.limNext ≠ p + 1 →
      (run < 8 → Yields (.cut n cause) s (fun b => b.jetOf n = { x with cut := cut, limNext := p + 1, limCnt := run } ∧
        b.rfld (Reg.JET_CNT n) 0 16 = min 65535 (s.blk.rfld (Reg.JET_CNT n) 0 16 + 1) ∧ b.rb Reg.JET_INT 0 = true ∧ OnlyJet n s.blk b ∧
        (s.blk.drives = true → .pin (pinJetLeg n 0) false ∈ b.out ∧ .pin (pinJetLeg n 1) false ∈ b.out))) ∧
      (8 ≤ run → Yields (.cut n cause) s (fun b => (b.jetOf n).st = 4 ∧ (b.jetOf n).lvl = 0 ∧ b.rb Reg.JET_INT 6 = true ∧
        (b.frec srcJET).pend = true ∧ (s.blk.drives = true → .pin (pinJetEn n) false ∈ b.out) ∧ OnlyJet n s.blk b))) ∧
    (s.blk.steady → x.modulating = false ∨ p < x.limNext → Yields (.cutEnd n cause) s (fun b =>
      b.jetOf n = { x with cut := setFld x.cut (cause % 2) 1 0 } ∧ OnlyJet n s.blk b ∧ b.regs = s.blk.regs)) ∧
    (s.blk.steady → x.modulating = true → x.cut ≠ 0 → x.limCnt < 8 → Yields (.short n) s (fun b => (b.jetOf n).st = 4 ∧ (b.jetOf n).limCnt = 8 ∧
      (b.jetOf n).cut = x.cut ∧ b.rfld (Reg.JET_CNT n) 0 16 = min 65535 (s.blk.rfld (Reg.JET_CNT n) 0 16 + (8 - x.limCnt)) ∧
      b.rfld (Reg.JET_CNT n) 16 8 = min 255 (s.blk.rfld (Reg.JET_CNT n) 16 8 + 1) ∧ b.rb Reg.JET_INT 0 = true ∧
      b.rb Reg.JET_INT 6 = true ∧ (b.frec srcJET).pend = true ∧ OnlyJet n s.blk b)))

/-- R373, R375 to R377, R380 to R382: JET_SAMPLE completes with its jet's level and gain and the legs of its carrier periods;
THERMAL_UPDATE with the protection chain's gains and models; PILOT_MEASURE, STAGE_TEMP_WRITE and TEMP_STALE with the temperatures; and
SENSE_LOST, BUS_LOST, SENSE_LIVE and SENSE_DELIVERY with the sense inputs. The quotient by a time constant of 0 is a free value: log entry
46. -/
def Obligations.JetSignals : Prop :=
  (∀ (s : State) (n smp : Nat), let bk := s.blk.bank (n / 8)
    let x := s.blk.jetOf n
    let p := s.blk.prot n
    let sag := sagGain p (s.blk.busV x.cfg.busv)
    let gt := sag * x.gCoil * x.gFold
    let mul := if bk.dom = 0 then s.blk.domn.fMult else 1
    let at' := 1000000 / ((p.attack : Rat) * (s.blk.rate bk.dom : Nat))
    let rl := 1000 / ((p.release : Rat) * (s.blk.rate bk.dom : Nat))
    s.blk.steady → bk.cfg = true → s.blk.bankStill (n / 8) → x.st = 2 → x.cut = 0 → (∀ e, x.sent = some e → e < smp) →
    Yields (.jetSample n smp) s (fun b =>
      let y := b.jetOf n
      let ramp := x.seqAt + 2 ≤ b.blk
      y.st = 2 ∧ y.gSag = sag ∧ y.sent = some smp ∧ (x.fresh = true → y.g = gt) ∧
      (x.fresh = false → gt < x.g → y.g = x.g + (if p.attack = 0 then 1 else ratMin 1 at') * (gt - x.g)) ∧
      (x.fresh = false → ¬gt < x.g → y.g = x.g + (if p.release = 0 then 1 else ratMin 1 rl) * (gt - x.g)) ∧
      y.lvl = (if ramp then lvlNext (!b.laneMuted (jetLane n)) x.lvl else x.lvl) ∧
      y.vPrev = (y.lvl : Rat) / 32 * (y.g * ((b.outLane (jetLane n) smp : Rat) / 2 ^ 31) +
        (if ramp then pilotAt p (s.blk.rate bk.dom) x.rampT else 0)) ∧
      (s.blk.drives = true → ∀ j, j < bk.k / mul → ∃ w : Int,
        .legs n ((smp + 3) * bk.k / mul + j) (((bk.n : Int) - ((bk.n : Int) / 2 + w)) / 2)
          (((bk.n : Int) - ((bk.n : Int) / 2 + w)) / 2 + ((bk.n : Int) / 2 + w)) (((bk.n : Int) - ((bk.n : Int) / 2 - w)) / 2)
          (((bk.n : Int) - ((bk.n : Int) / 2 - w)) / 2 + ((bk.n : Int) / 2 - w)) ∈ b.out) ∧
      OnlyJet n s.blk b ∧ b.mem = s.blk.mem)) ∧
  (∀ (s : State) (t : Nat), s.blk.steady → (∀ k, k < 4 → s.blk.bankStill k) → Yields (.thermalUpdate t) s (fun b =>
    (∀ n, n < 32 → (s.blk.jetOf n).cfg.en = true → let x := s.blk.jetOf n
      let p := s.blk.prot n
      let y := b.jetOf n
      let temp := s.blk.stageT n
      let i2 : Rat := if x.iCnt = 0 then 0 else (x.iSum : Rat) / x.iCnt / 2 ^ 62 * ((x.cfg.iFs : Rat) / 100) * ((x.cfg.iFs : Rat) / 100)
      let pw : Rat := i2 * ((p.reNom : Rat) / 1000 * (1 + 393 / 100000 * (x.tCoil - 25)))
      let amb : Rat := (toS 16 (s.blk.reg (Reg.JET_AMB n)) : Rat) / 10
      y.iSum = 0 ∧ y.iCnt = 0 ∧
      (p.rthCoil = 0 → y.gCoil = 1) ∧
      (p.rthCoil ≠ 0 → y.gCoil = ratMin 1 (ratMax (1 / 16) (1 - (y.tEst p - (p.tCoilMax : Rat) / 10 + 20) * 15 / 320))) ∧
      y.tMag = x.tMag + ratQuot ((pw * p.rthMag / 1000 - (x.tMag - amb)) / s.blk.fBlk) ((p.tauMag : Rat) / 10) ∧
      y.tCoil = x.tCoil + ratQuot ((pw * p.rthCoil / 1000 - (x.tCoil - y.tMag)) / s.blk.fBlk) ((p.tauCoil : Rat) / 1000) ∧
      (temp ≤ p.tFold → y.gFold = if x.stale then 1 / 2 else 1) ∧
      ((p.tFold : Int) < temp → (p.tTrip : Int) ≤ temp → y.gFold = 1 / 4 ∧
        (x.stale = false → x.st = 2 → x.tripPend = 0 → y.tripPend = 1 ∧ y.stopAt = some (b.blk + 1)))) ∧
    (∀ n, n < 32 → (s.blk.jetOf n).cfg.en = false → b.jetOf n = s.blk.jetOf n) ∧ ∀ k, b.bank k = s.blk.bank k)) ∧
  (∀ (s : State) (n : Nat) (vr vi ir ii : Int), let x := s.blk.jetOf n
    let i2 := ir * ir + ii * ii
    (s.blk.prot n).pilot ≠ 0 → x.modulating = true → x.cfg.iFs ≠ 0 →
    (2 ^ 62 ≤ i2 * 1000000 → Yields (.pilotMeasure n vr vi ir ii) s (fun b =>
      let r := ((vr * ir + vi * ii : Int) : Rat) / i2 * ((x.cfg.vFs : Rat) / 10) / ((x.cfg.iFs : Rat) / 100)
      b.like (s.blk.setJet n { x with re := some r, reLast := r }))) ∧
    (i2 * 1000000 < 2 ^ 62 → Yields (.pilotMeasure n vr vi ir ii) s (fun b => b.like (s.blk.setJet n { x with re := none })))) ∧
  (∀ (s : State) (m n v : Nat), n < 32 → let x := s.blk.jetOf n
    (13 ≤ m → s.blk.domOn 18 = true → Yields (.stageTempWrite m n v) s (fun b => b.reg (Reg.JET_STAGE_T n) = v % 2 ^ 16 ∧
      (b.jetOf n).stale = false ∧ (b.jetOf n).wroteAt = s.blk.stamp 0 ∧ OnlyJet n s.blk b ∧
      (x.st = 2 → x.tripPend = 0 → ((s.blk.prot n).tTrip : Int) ≤ toS 16 (v % 2 ^ 16) → (b.jetOf n).tripPend = 1))) ∧
    (s.blk.steady → x.stale = false → Yields (.tempStale n) s (fun b => b.jetOf n = { x with stale := true } ∧ b.rb Reg.JET_INT 8 = true ∧
      (b.frec srcJET).pend = true ∧ OnlyJet n s.blk b))) ∧
  (∀ (s : State) (i : Nat), s.blk.live? i = true → i < 64 → Yields (.senseLost i) s (fun b => b.live? i = false ∧
    b.rb Reg.SNS_INT 0 = true ∧ (b.frec srcSNS).pend = true ∧ (∀ j, j ≠ i → b.live? j = s.blk.live? j) ∧
    ((s.blk.jetOf (i / 2)).st = 2 → (s.blk.jetOf (i / 2)).tripPend = 0 → (s.blk.jetOf (i / 2)).stale = true →
      (b.jetOf (i / 2)).tripPend = 2))) ∧
  (∀ (s : State) (k : Nat), s.blk.live? (64 + k) = true → k < 8 → Yields (.busLost k) s (fun b => b.live? (64 + k) = false ∧
    b.rb Reg.SNS_INT 1 = true ∧ (b.frec srcSNS).pend = true ∧ b.busV k = 0 ∧ b.jet.jets = s.blk.jet.jets)) ∧
  (∀ (s : State) (i : Nat), i < 72 → Yields (.senseLive i) s (fun b => b.live? i = true ∧ b.like (s.blk.setLive i true))) ∧
  (∀ (s : State) (i smp v : Nat), s.blk.steady → i < 72 → Yields (.senseDelivery i smp v) s (fun b =>
    let w := if s.blk.live? i then toS 32 v else 0
    tget 0 b.jet.meas i = w ∧
    (i < 64 → i % 2 = 0 → b.jetOf (i / 2) = { s.blk.jetOf (i / 2) with
      iSum := (s.blk.jetOf (i / 2)).iSum + w.natAbs * w.natAbs, iCnt := (s.blk.jetOf (i / 2)).iCnt + 1 } ∧ b.regs = s.blk.regs) ∧
    (64 ≤ i → b.reg (Reg.SNS_BUS (i - 64)) = ofS 16 (w * s.blk.rfld (Reg.SNS_BUS_FS (i - 64)) 0 16 / 2 ^ 31) ∧
      b.jet.jets = s.blk.jet.jets) ∧
    ∀ dom, (s.blk.stg.force.bind (fun d => d.laneDom? (senseLane i))) = some dom →
      b.lane (senseLane i) smp = BitVec.ofInt 64 (if b.silent (senseLane i) then 0 else w)))

/-! ## The pair (spec/15_pairing.md) -/

/-- R391 to R397, R400, R406, R409 to R411, R431: a frame that comes on a lane that is down does nothing, one that breaks a rule is counted
and logged and does nothing else; and IDLE, LEASE_REQUEST, LEASE_GRANT, LEASE_RESIGN, DIGEST, STATE, SYNC, MBX_FRAME, DRAFT_FRAME_DATA,
PROPOSE, ANSWER and DECIDE complete with what each frame that is taken leaves. A draft no longer VALID when the twin agrees fails with
0x92: the model's choice, log entry 22. -/
def Obligations.PairFrames : Prop :=
  (∀ (s : State) (l : Nat) (f : Bytes), s.blk.sys.owed = [] → ∀ c ∈ gwCmds,
    ((s.blk.gwLane l).up = false → Yields (c l f) s (fun b => b.like s.blk)) ∧
    ((s.blk.gwLane l).up = true → l < 2 → s.blk.gwCode f ≠ 0 → Yields (c l f) s (fun b => b.par = s.blk.par ∧
      b.rfld (Reg.PAR_LANE_CNT l) 0 16 = min 65535 (s.blk.rfld (Reg.PAR_LANE_CNT l) 0 16 + 1) ∧
      b.reg Reg.PAR_VIOL = l * 65536 + s.blk.gwCode f * 256 + gwType f ∧ b.rb Reg.PAR_INT 1 = true ∧ (b.frec srcPAR).pend = true ∧
      b.mem = s.blk.mem ∧ b.stg = s.blk.stg))) ∧
  (∀ (s : State) (l : Nat) (f : Bytes), GwTakes s.blk 7 none l f → let x := s.blk.gwLane l
    ((∀ g ∈ x.unacked, g.seq ≠ u16 f 4) → Yields (.idle l f) s (fun b => b.like s.blk)) ∧
    ∀ pre g post, x.unacked = pre ++ g :: post → (∀ h ∈ pre, h.seq ≠ u16 f 4) → g.seq = u16 f 4 → Yields (.idle l f) s (fun b =>
      (b.gwLane l).resends = 0 ∧ (x.unacked.length ≤ 32 → b.gwLane l = { x with unacked := post, resends := 0 }) ∧
      (b.gwLane l).unacked.map (fun h => (h.seq, h.type, h.payload)) = post.map (fun h => (h.seq, h.type, h.payload)) ∧
      ∀ k, k ≠ l → b.gwLane k = s.blk.gwLane k)) ∧
  (∀ (s : State) (l : Nat) (f : Bytes), let v := u64 (gwPay f) 4
    let e := v + s.blk.lease
    (GwTakes s.blk 1 (some 0) l f → s.blk.par.st = 4 ∨ (s.blk.bothWait = true ∧ s.blk.preferred = false ∧ s.blk.parReady = true) →
      Yields (.leaseRequest l f) s (fun b => b.par.g = max s.blk.par.g e ∧ b.par.sentGrant = true ∧ b.par.st = s.blk.par.st ∧
        ((s.blk.gwLane 0).up = true → LeaseLeft s.blk b 0 s.blk.blk 1 e 0))) ∧
    (GwTakes s.blk 1 (some 1) l f → s.blk.par.st = 1 ∨ s.blk.par.st = 2 ∨ s.blk.par.st = 3 → Yields (.leaseGrant l f) s (fun b =>
      b.par.e = max s.blk.par.e v ∧ b.par.gotGrant = true ∧ b.par.st = s.blk.par.st)) ∧
    (GwTakes s.blk 1 (some 2) l f → s.blk.par.st = 4 → Yields (.leaseResign l f) s (fun b => b.par.twinResign = some v ∧
      b.par.st = 4 ∧ b.par.g = s.blk.par.g))) ∧
  (∀ (s : State) (l : Nat) (f : Bytes), let p := gwPay f
    (GwTakes s.blk 2 none l f → Yields (.digest l f) s (fun b => ∃ d, b.par.twin.digests = d :: s.blk.par.twin.digests.take 7 ∧
      d.blk = u64 p 0 ∧ (d.fault = true ↔ u32 p 8 = 1) ∧ ∀ i, i < 512 → tget 0 d.digs i = u32 p (16 + 4 * i))) ∧
    (GwTakes s.blk 3 none l f → Yields (.state l f) s (fun b =>
      let w := b.par.twin
      w.seen = true ∧ w.serial = u64 p 0 ∧ w.role = u8 p 8 ∧ (w.ready = true ↔ u8 p 9 = 1) ∧ (w.side = true ↔ u8 p 10 = 1) ∧
      w.level = u8 p 11 ∧ w.wlh = u8 p 12 ∧ w.fmap = u64 p 16 ∧ w.lease = u64 p 24 ∧ w.digests = s.blk.par.twin.digests ∧
      b.par.st = s.blk.par.st ∧
      ∀ i q, i < 128 → s.blk.par.st = 4 → mirrorRecs 128 (p.drop 64) = some [(2, i, q)] → b.reg (Reg.FLW_RX_OFS i) = u32 q 0)) ∧
    (∀ tap, GwTakes s.blk 6 none l f → Yields (.sync l f tap) s (fun b => b.par.twin.syncTx = stampOf p 0 ∧
      b.par.twin.syncRx = s.blk.stamp tap ∧ ∀ th : Int,
        2 * th = ((s.blk.stamp tap : Int) - stampOf p 0) - ((stampOf p 32 : Int) - stampOf p 16) →
        b.reg Reg.PAR_TWIN_OFS = ofS 32 (satS 32 th)))) ∧
  (∀ (s : State) (l : Nat) (f : Bytes), GwTakes s.blk 4 none l f → let p := gwPay f
    let m := u8 p 0
    let n := u8 p 1
    (m < 20 → s.blk.mbxState m ≠ 1 → Yields (.mbxFrame l f) s (fun b => b.mbxState m = 1 ∧ b.mbxLen m = n ∧
      (∀ i, i < 16 → b.reg (Reg.MBX_DATA m i) = u32 ((p.drop 4).take (4 * n)) (4 * i)) ∧
      ∀ e, mbxReceiver m = some e → b.rb (Reg.MBX_DB e) m = true)) ∧
    (m < 20 → s.blk.mbxState m = 1 → Yields (.mbxFrame l f) s (fun b => b.regs = s.blk.regs ∧
      ((s.blk.gwLane 1).up = true → LastQueued b 1 4 (leBytes 1 (m + 4) ++ leBytes 1 0xFF ++ leBytes 2 0 ++ List.replicate 64 0)))) ∧
    (20 ≤ m → s.blk.mbxState m = 1 → Yields (.mbxFrame l f) s (fun b => b.mbxState m = (if n = 0 then 2 else 3) ∧
      ∀ e, mbxSender m = some e → b.rb (Reg.MBX_EVT e) m = true))) ∧
  (∀ (s : State) (l : Nat) (f : Bytes), s.blk.srcRefused .pair = 0 → s.blk.severed = false → let p := gwPay f
    let bs := p.drop 20
    let g := s.blk.stg
    GwTakes s.blk 5 (some 0) l f → u64 p 4 ≠ 0 →
    (u32 p 16 = 0 → g.st = .empty → g.owner = .none → s.blk.par.proposed = none → bs.length = 4092 → s.blk.sys.memErr = [] →
      s.blk.cst.st = 2 → Yields (.draftFrameData l f) s (fun b => b.stg.st = .loading ∧ b.stg.owner = .pair ∧ b.stg.force = g.force ∧
        b.rdBytes s.blk.stagingBase 4092 = bs)) ∧
    (g.st = .loading → g.owner = .pair → bs.length < 4092 → Yields (.draftFrameData l f) s (fun b => b.stg.st = .validating ∧
      b.stg.owner = .pair ∧ b.stg.eff = none ∧ b.reg Reg.SYS_DFT_LEN = u32 p 16 + bs.length ∧ b.stg.force = g.force))) ∧
  (∀ (s : State) (l : Nat) (f : Bytes), s.blk.sys.owed = [] → let p := gwPay f
    let g := s.blk.stg
    let v := u64 p 4
    (GwTakes s.blk 5 (some 1) l f → v ≠ 0 → let code := s.blk.proposeCode v (u64 p 16)
      Yields (.propose l f) s (fun b =>
        b.stg = (if code = 0 then { g with st := .armed, armedAt := u64 p 16, err := 0 } else g) ∧
        (code = 0 → b.par.agreed = true ∧ b.par.proposed = none ∧ b.crl.held = true) ∧
        ((s.blk.gwLane 1).up = true → LastQueued b 1 5 (draftPay 2 v (leBytes 4 (code % 256)))))) ∧
    (GwTakes s.blk 5 (some 2) l f → ∀ n d, s.blk.par.proposed = some n → g.eff = some d → d.serial = v → Yields (.answer l f) s (fun b =>
      b.par.proposed = none ∧
      (u8 p 16 = 0 → g.st = .valid → b.stg = { g with st := .armed, armedAt := n, err := 0 } ∧ b.par.agreed = true) ∧
      (u8 p 16 = 0 → g.st ≠ .valid → b.stg = { g with err := 0x92, errInst := 0, errTag := 0, errOfs := 0 } ∧
        b.rb Reg.SYS_DFT_INT 1 = true) ∧
      (u8 p 16 ≠ 0 → b.stg = { g with err := u8 p 16, errInst := 0, errTag := 0, errOfs := 0 } ∧ b.rb Reg.SYS_DFT_INT 1 = true))) ∧
    (GwTakes s.blk 5 (some 3) l f → ∀ d, v ≠ 0 → s.blk.par.agreed = true → g.st = .armed → g.eff = some d → d.serial = v →
      s.blk.blk < g.armedAt → Yields (.decide l f) s (fun b =>
        (u8 p 16 = 1 → b.par.twinGo = some true ∧ b.stg = g) ∧
        (u8 p 16 ≠ 1 → b.stg = { g with st := .valid, err := 0x91, errInst := 0, errTag := 0, errOfs := 0 } ∧
          b.par.agreed = false ∧ b.rb Reg.SYS_DFT_INT 4 = true))))

/-- R390, R396, R406, R407: LANE_UP completes with an empty lane; LANE_DOWN hands its unacknowledged frames to the other, or the link is down;
RETRANSMIT resends at 10 us; GWEAST_IDLE_SEND sends an IDLE frame; and DIGEST_SEND the digests of a block whose passes have ended. -/
def Obligations.PairLanes : Prop :=
  (∀ (s : State) (l : Nat), l < 2 → let x := s.blk.gwLane l
    let y := s.blk.gwLane (1 - l)
    (x.up = false → s.blk.domOn 16 = true → Yields (.laneUp l) s (fun b => b.like (s.blk.setGwLane l { up := true }))) ∧
    (x.up = true → y.up = true → Yields (.laneDown l) s (fun b => b.gwLane l = {} ∧ b.regs = s.blk.regs ∧
      (b.gwLane (1 - l)).unacked.map (fun f => (f.type, f.payload)) = (y.unacked ++ x.unacked).map (fun f => (f.type, f.payload)) ∧
      b.par.twin = s.blk.par.twin ∧ b.par.downAt = s.blk.par.downAt)) ∧
    (x.up = true → y.up = false → Yields (.laneDown l) s (fun b => b.gwLane l = {} ∧ b.gwUp = false ∧ b.par.twin.seen = false ∧
      b.par.downAt = s.blk.now ∧ b.rb Reg.PAR_INT 0 = true ∧ (b.frec srcPAR).pend = true)) ∧
    (s.blk.steady → x.up = true → x.unacked ≠ [] → x.resends < 16 → Yields (.retransmit l) s (fun b =>
      b.gwLane l = { x with
        resends := x.resends + 1, unacked := (x.unacked.take 32).map (fun f => { f with sentAt := b.pclk }) ++ x.unacked.drop 32 } ∧
      (x.unacked.head?.elim 0 (·.sentAt)) + 10000 ≤ b.pclk ∧
      b.rfld (Reg.PAR_LANE_CNT l) 16 16 = min 65535 (s.blk.rfld (Reg.PAR_LANE_CNT l) 16 16 + min 32 x.unacked.length) ∧
      ∀ f ∈ x.unacked.take 32, .gweast l f.type (gwBytes f.type 1 f.seq x.rxSeq (s.blk.gwPid f.type f.payload) b.blk f.payload) ∈ b.out)) ∧
    (s.blk.steady → x.up = true → x.unacked ≠ [] → 16 ≤ x.resends → Yields (.retransmit l) s (fun b => b.gwLane l = {})) ∧
    (x.up = true → Yields (.gweastIdleSend l) s (fun b => b.like s.blk ∧
      .gweast l 7 (gwBytes 7 0 0 x.rxSeq (s.blk.reg Reg.PAR_ID) s.blk.blk []) ∈ b.out))) ∧
  (∀ (s : State) (n : Nat), s.blk.par.st ≠ 0 → (∀ x ∈ s.blk.par.sent, x.blk ≠ n) →
    (∀ dom, dom < 2 → s.blk.served dom = true → (n + 1) * s.blk.spb dom ≤ tget 0 s.blk.loom.ended dom) →
      Yields (.digestSend n) s (fun b => ∃ d, b.par.sent = d :: s.blk.par.sent.take 7 ∧
    d.blk = n ∧ (d.fault = true ↔ ∃ t, s.blk.dFault = some t ∧ tickInstant s.blk.fBlk n ≤ t) ∧ tget [] b.par.running n = [] ∧
    (∀ p, s.blk.rb (Reg.PAR_DIG_MASK (p / 32)) (p % 32) = true → tget 0 d.digs p = 0) ∧
    (∀ p v, (p, v) ∈ tget [] s.blk.par.running n → (∀ w, (p, w) ∈ tget [] s.blk.par.running n → w = v) →
      s.blk.rb (Reg.PAR_DIG_MASK (p / 32)) (p % 32) = false → tget 0 d.digs p = v ^^^ 0xFFFFFFFF) ∧
    ((s.blk.gwLane 0).up = true → .gweast 0 2 (gwBytes 2 0 0 (s.blk.gwLane 0).rxSeq (s.blk.reg Reg.PAR_ID) s.blk.blk
      (leBytes 8 n ++ leBytes 4 (b2n d.fault) ++ leBytes 4 0 ++ (below 512).flatMap (fun i => leBytes 4 (tget 0 d.digs i)))) ∈ b.out)))

/-- R397, R398, R400, R401, R404, R407, R408: SHUTTLE_TICK completes with the transitions of the state machine at a block tick, the REQUEST
of a holder whose lease runs and the verdict on the digests of two blocks before; and HANDOVER and TAKE complete. -/
def Obligations.PairShuttle : Prop :=
  (∀ (s : State) (t tap : Nat) (peer : Bool), s.blk.steady → (s.blk.toBlk t).blk = t → (∀ k, s.blk.par.tickAt = some k → k < t) →
    s.blk.sys.owed = [] →
    let p := s.blk.par
    let go := fun (P : Block → Prop) => ∃ u, exec (.shuttleTick t peer tap) s = .next u ∧ u.pending = s.pending ∧ u.sems = s.sems ∧
      u.blk.par.tickAt = some t ∧ u.blk.par.peer = peer ∧ P u.blk
    (s.blk.paired = false → go (fun b => b.par.st = 0)) ∧
    (s.blk.paired = true → p.takeReq = true → go (fun b => b.par.st = 3)) ∧
    (s.blk.paired = true → p.takeReq = false →
      (p.st = 0 → go (fun b => b.par.st = 1 ∧ b.rb Reg.PAR_INT 10 = true)) ∧
      (p.st = 1 → s.blk.twinDrives = true → go (fun b => b.par.st = 4 ∧ b.par.g = 0)) ∧
      (p.st = 1 → s.blk.gwUp = true → p.twin.seen = true → p.twin.role = 1 → p.twin.side ≠ s.blk.sys.side → s.blk.preferred = true →
        p.gotGrant = true → go (fun b => b.par.st = 2)) ∧
      (p.st = 1 → s.blk.gwUp = false → p.twin.seen = false → p.downAt + 2 * secFrac ≤ (s.blk.toBlk t).now → s.blk.preferred = true →
        s.blk.rb Reg.PAR_CFG 3 = true → peer = false → go (fun b => b.par.st = 3)) ∧
      (p.st = 2 → p.resign = none → p.e ≤ t + 1 → go (fun b => b.par.st = 5 ∧ b.rb Reg.PAR_INT 3 = true ∧ (b.frec srcPAR).pend = true)) ∧
      (p.st = 2 → p.resign = none → t + 1 < p.e → digestOf p.sent (t - 2) = none → go (fun b => b.par.st = 2 ∧ b.par.e = p.e ∧
        ((s.blk.gwLane 0).up = true → LeaseLeft s.blk b 0 t 0 t 0))) ∧
      (∀ f, p.st = 2 → p.resign = some f → f ≤ t → go (fun b => b.par.st = 4 ∧ b.par.g = max p.g (f + s.blk.lease))) ∧
      (p.st = 3 → s.blk.gwUp = true → p.twin.seen = true → p.twin.role = 3 → go (fun b =>
        b.par.st = (if s.blk.preferred then 3 else 4) ∧ b.rb Reg.PAR_INT 7 = true)) ∧
      (p.st = 3 → p.twin.role ≠ 3 → p.gotGrant = true → go (fun b => b.par.st = 2)) ∧
      (∀ f, p.st = 4 → p.twinResign = some f → f ≤ t → s.blk.severed = false → s.blk.mode = 2 → go (fun b => b.par.st = 2 ∧
        b.par.e = f + s.blk.lease)) ∧
      (p.st = 4 → p.twinResign = none → p.g ≠ 0 → p.g + 1 ≤ t → s.blk.parReady = true → s.blk.rb Reg.PAR_CFG 2 = false →
        go (fun b => b.par.st = 3 ∧ b.rb Reg.PAR_INT 4 = true)) ∧
      (p.st = 4 → p.twinResign = none → t < p.g + 1 → go (fun b => b.par.st = 4 ∧ b.par.g = p.g)) ∧
      (p.st = 5 → s.blk.twinDrives = true → go (fun b => b.par.st = 4 ∧ b.par.g = 0)) ∧
      (∀ m w, p.st ≠ 0 → 2 ≤ t → digestOf p.sent (t - 2) = some m →
        (digestOf p.twin.digests (t - 2) = none → go (fun b =>
          b.rfld Reg.PAR_DIG_CNT 0 16 = min 65535 (s.blk.rfld Reg.PAR_DIG_CNT 0 16 + 1))) ∧
        (digestOf p.twin.digests (t - 2) = some w → (∀ q, q < 512 → tget 0 m.digs q = tget 0 w.digs q) → go (fun b =>
          b.reg Reg.PAR_DIG_CNT = s.blk.reg Reg.PAR_DIG_CNT)) ∧
        ∀ q, digestOf p.twin.digests (t - 2) = some w → q < 512 → tget 0 m.digs q ≠ tget 0 w.digs q →
          (∀ r, r < q → tget 0 m.digs r = tget 0 w.digs r) → go (fun b =>
            b.rfld Reg.PAR_DIG_CNT 16 16 = min 65535 (s.blk.rfld Reg.PAR_DIG_CNT 16 16 + 1) ∧ b.reg Reg.PAR_DIG_LAST = q ∧
            b.reg Reg.PAR_DIG_LAST_BLK = (t - 2) % 2 ^ 32)))) ∧
  (∀ s : State, s.blk.domOn 16 = true →
    (s.blk.par.st = 2 → s.blk.twinReady = true → s.blk.par.resign = none → Yields .handover s (fun b =>
      b.par = { s.blk.par with resign := some s.blk.resignTick } ∧ ((s.blk.gwLane 0).up = true →
        LeaseLeft s.blk b 0 s.blk.blk 2 s.blk.resignTick (s.blk.resignTick + s.blk.pairCfg.lease)))) ∧
    (s.blk.par.st = 2 → s.blk.twinReady = false → Yields .handover s (fun b => b.par = s.blk.par ∧ b.rb Reg.PAR_INT 9 = true)) ∧
    (s.blk.par.st = 1 ∨ s.blk.par.st = 4 ∨ s.blk.par.st = 5 → s.blk.gwUp = false → Yields .take s (fun b =>
      b.like (s.blk.setPar (fun p => { p with takeReq := true })))))

/-! ## Services (spec/16_control_ports.md) -/

/-- R434 to R438 (ECP_REQUEST completes on the datagrams below, TWIN_TIMEOUT where a relayed request has no answer): a datagram that is
damaged is logged; a duplicate is answered again; a request of a known service joins those that wait, whatever it asks, BUSY answers the
seventeenth, and one of no service is refused; at the moment firmware begins it, by the port's own service command, a request above its
level, or with a bad field, is refused as a violation; and a relayed request without an answer is answered TWIN. -/
def Obligations.Requests : Prop :=
  (∀ (s : State) (p : Nat) (v6 : Bool) (peer sport : Nat) (d : Bytes), 2 ≤ p → p ≤ 6 → s.blk.sys.firmware = true →
    s.blk.par.st = 0 ∨ s.blk.par.st = 2 ∨ s.blk.par.st = 3 → 20 ≤ d.length → u16 d 0 = 0x5045 →
    let r : Req := { port := p, v6 := v6, peer := peer, sport := sport, tag := u32 d 4, op := u16 d 8, twin := bit (u16 d 14) 0,
                     odd := decide (u16 d 14 / 2 ≠ 0) || decide (u16 d 10 ≠ 0), pay := (d.drop 16).take (d.length - 20) }
    let good := u32 (d.drop (d.length - 4)) 0 = crc32c (d.take (d.length - 4))
    let cnt := Reg.MBX_ECP_CNT (p - 2)
    let many := 16 ≤ (s.blk.sys.waiting.filter (fun w => w.port == p)).length
    (¬good → Yields (.ecpRequest p v6 peer sport true d) s (fun b => b.sys.waiting = s.blk.sys.waiting ∧ b.rb Reg.MBX_INT 0 = true ∧
      b.rfld cnt 0 16 = min 65535 (s.blk.rfld cnt 0 16 + 1) ∧ (b.frec srcMBX).pend = true ∧ b.stg = s.blk.stg)) ∧
    (good → u8 d 3 = 0 → u8 d 2 = 1 → u16 d 12 % 4 = 0 → u16 d 12 ≤ 1024 → u16 d 12 = d.length - 20 →
      (∀ a, (tget [] s.blk.sys.stored p).find? (fun a => a.peer == peer && a.sport == sport && a.tag == r.tag &&
          decide (s.blk.pclk < a.at' + 2000000000)) = some a → Yields (.ecpRequest p v6 peer sport true d) s (fun b =>
        b.sys.waiting = s.blk.sys.waiting ∧ (s.blk.portUp (ethPort p) = true → .ecp p peer sport a.bytes ∈ b.out))) ∧
      (tget [] s.blk.sys.stored p = [] →
        ((svcNeed r.op).isSome = true → ¬many → Yields (.ecpRequest p v6 peer sport true d) s (fun b =>
            b.sys.waiting = s.blk.sys.waiting ++ [r] ∧ b.rfld cnt 16 16 = min 65535 (s.blk.rfld cnt 16 16 + 1) ∧
            OnlyRegs [cnt] { s.blk with sys := b.sys } b)) ∧
        ((svcNeed r.op).isSome = true → many → Yields (.ecpRequest p v6 peer sport true d) s (fun b =>
            b.sys.waiting = s.blk.sys.waiting ∧ b.sys.stored = s.blk.sys.stored ∧ Answered r stBUSY [] b)) ∧
        (svcNeed r.op = none → Yields (.ecpRequest p v6 peer sport true d) s (fun b => b.sys.waiting = s.blk.sys.waiting ∧
          Answered r stOPCODE [] b ∧ b.rb Reg.MBX_INT 0 = true ∧ (b.frec srcMBX).pend = true))))) ∧
  (∀ (s : State) (p : Nat) (r : Req) (c : Nat → Instr), IsSvc r.op c → s.blk.sys.waiting.find? (fun q => q.port == p) = some r →
    s.blk.beginRefused r ≠ 0 → r.box = none → (r.op ∈ [0x20, 0x21, 0x22] → semFor s = true) →
    ∃ t, exec (c p) s = .next t ∧ Served r s (s.blk.beginRefused r) [] t ∧ t.blk.rb Reg.MBX_INT 0 = true ∧
      (t.blk.frec srcMBX).pend = true ∧ t.blk.stg = s.blk.stg ∧ t.blk.loom = s.blk.loom ∧ t.blk.jet = s.blk.jet ∧
      t.blk.tsu = s.blk.tsu ∧ t.blk.crl = s.blk.crl ∧ t.blk.mem = s.blk.mem) ∧
  (∀ (s : State) (y : Relay), s.blk.steady → s.blk.sys.relays = [y] → y.dead = false → Yields .twinTimeout s (fun b =>
    b.sys.relays = [{ y with dead := true }] ∧ Answered y.req stTWIN [] b ∧ b.sys.waiting = s.blk.sys.waiting ∧
    y.at' + 100000000 ≤ b.pclk ∧ (y.req.box = none → b.regs = s.blk.regs)))

/-- R439: the services that read and acknowledge: IDENT, STATUS, REG_READ, REG_WRITE, METER_READ, FAULT_ACK and TIME_READ complete with the
answer and the effect of each, for the oldest request of the port that passes its checks. -/
def Obligations.ReadServices : Prop :=
  (∀ (s : State) (p : Nat) (r : Req),
    (Begins s.blk 0x01 p r → (∃ t, exec (.ident p) s = .next t ∧ Served r s 0 ((s.taken r).blk.identBytes) t ∧
      t.blk.stg = s.blk.stg ∧ (r.box = none → t.blk.regs = s.blk.regs ∧ t.blk.flt = s.blk.flt))) ∧
    (Begins s.blk 0x02 p r → (∃ t, exec (.status p) s = .next t ∧ Served r s 0 ((s.taken r).blk.statusBytes) t ∧
      t.blk.stg = s.blk.stg ∧ (r.box = none → t.blk.regs = s.blk.regs ∧ t.blk.flt = s.blk.flt))) ∧
    (Begins s.blk 0x30 p r → (∃ t, exec (.timeRead p) s = .next t ∧ Served r s 0 (leBytes 8 s.blk.tsu.sec ++ leBytes 4 s.blk.tsu.ns ++
      leBytes 4 s.blk.wlhStatView ++ leBytes 4 (s.blk.view Reg.PAR_TWIN_OFS)) t ∧
      t.blk.stg = s.blk.stg ∧ (r.box = none → t.blk.regs = s.blk.regs ∧ t.blk.flt = s.blk.flt))) ∧
    (Begins s.blk 0x03 p r → (∃ t, exec (.regRead p) s = .next t ∧ t.pending = s.pending ∧ (
      Answered r 0 ((s.taken r).readAll ((below (u32 r.pay 0)).map (fun i => (u32 r.pay (4 + 4 * i), 4)))).1 t.blk ∧ Taken r s.blk t.blk ∧
      ∀ a, u32 r.pay 0 = 1 → u32 r.pay 4 = a → CanRead 13 a s.blk → PlainRead a → t.sems = s.sems ∧
        Answered r 0 (leBytes 4 ((s.taken r).blk.view a)) t.blk ∧
        (r.box = none → ∀ c, c ≠ a → t.blk.reg c = s.blk.reg c)))) ∧
    (∀ a w, Begins s.blk 0x04 p r → u32 r.pay 0 = 1 → u32 r.pay 4 = a → CanWrite 13 a s.blk → PlainWrite a → regRow a = some w →
      r.box = none → (∃ t, exec (.regWrite p) s = .next t ∧ Served r s 0 [] t ∧ (let b := t.blk; (∀ c, c ≠ a → b.reg c = s.blk.reg c) ∧
        b.stg = s.blk.stg ∧
        let v := u32 r.pay 8
        ∀ i, i < 32 → b.rb a i = (if w.w1s.testBit i && v.testBit i then true
          else if w.w1c.testBit i && v.testBit i then false
          else if w.rw.testBit i then v.testBit i else s.blk.rb a i)))) ∧
    (∀ m, Begins s.blk 0x05 p r → s.blk.domOn 11 = true → u16 r.pay 0 = m → m < 512 → u16 r.pay 2 = 1 → (∃ t, exec (.meterRead p) s = .next t ∧
      t.pending = s.pending ∧ (
      Answered r 0 (leBytes 2 ((s.taken r).blk.view (Reg.LOM_MTR_PK m)) ++ leBytes 2 ((s.taken r).blk.view (Reg.LOM_MTR_RMS m))) t.blk ∧
      Taken r s.blk t.blk ∧ t.sems = s.sems ∧ (tget {} t.blk.loom.meters m).pk = 0 ∧
      ∀ k, k ≠ m → tget {} t.blk.loom.meters k = tget {} s.blk.loom.meters k))) ∧
    (∀ k, Begins s.blk 0x06 p r → u8 r.pay 0 = k → k < 32 →
      (k ≠ 20 → s.blk.islandOff (fltReg k) = false → r.box = none → (∃ t, exec (.faultAck p) s = .next t ∧ Served r s 0 [] t ∧
        (let b := t.blk; b.frec k = recAck (s.blk.frec k) ∧
        (∀ j, j ≠ k → b.frec j = s.blk.frec j) ∧ b.regs = s.blk.regs))) ∧
      (k = 20 → r.box = none → (∃ t, exec (.faultAck p) s = .next t ∧ Served r s 0 [] t ∧ (let b := t.blk; b.flt = s.blk.flt ∧
        b.regs = s.blk.regs))) ∧
      (∀ m, k = 20 → r.box = some m → m < 8 → s.blk.sys.msgs = [] → s.blk.mbxState (8 + m) ≠ 1 → (∃ t, exec (.faultAck p) s = .next t ∧
        Served r s 0 [] t ∧ (let b := t.blk;
        b.mbxState (8 + m) = 1 ∧ b.mbxLen (8 + m) = 8 ∧ b.rb (Reg.MBX_DB 2) (8 + m) = true ∧
        ∀ i, i < 16 → b.reg (Reg.MBX_DATA (8 + m) i) = u32 (mbxMsg r.op (r.tag % 65536) 0 false []) (4 * i))))))

/-- R439, R131 to R134: the edit services EDIT_COEF, EDIT_CARD and EDIT_RELEASE complete: they queue what the edit registers would, or
answer why not. -/
def Obligations.EditServices : Prop :=
  ∀ (s : State) (p : Nat) (r : Req) (d : Draft), semFor s = true → s.blk.stg.force = some d →
    let hold := u8 r.pay 8 % 2 == 1
    let kept := s.blk.rb Reg.LOM_EDIT_CTRL 0 = false ∨ hold = true
    (Begins s.blk 0x20 p r → s.blk.domOn 11 = true →
      (s.blk.editsQueued + u32 r.pay 12 ≤ 256 →
        (∀ j, j < u32 r.pay 12 → u32 r.pay (16 + 8 * j) < (if s.blk.loom.coefBank.wide then 16384 else 8192)) →
        (∃ t, exec (.editCoef p) s = .next t ∧ Served r s 0 [] t ∧ (let b := t.blk; ∃ old new, b.loom.edits = old ++ new ∧
          old.length = s.blk.loom.edits.length ∧
          (kept → old = s.blk.loom.edits) ∧ new.map (fun e => (e.card, e.entry, e.val, e.held)) = (below (u32 r.pay 12)).map (fun j =>
            (false, coefEntry s.blk.loom.coefBank (u32 r.pay (16 + 8 * j)), u32 r.pay (20 + 8 * j), hold))))) ∧
      (256 ≤ s.blk.editsQueued → u32 r.pay 12 = 1 → u32 r.pay 16 < 8192 → (∃ t, exec (.editCoef p) s = .next t ∧ Served r s (stREFUSED 5) [] t ∧
        (let b := t.blk;
        b.loom.edits.length = s.blk.loom.edits.length ∧ (b.frec srcLOM).pend = true)))) ∧
    (Begins s.blk 0x21 p r → s.blk.domOn 11 = true → r.pay.length = 28 → u8 r.pay 9 < 3 → u16 r.pay 10 < 16384 →
      let img := leNat (slice 12 16 r.pay)
      let bad := ((s.taken r).blk.editSetup (u64 r.pay 0) (u8 r.pay 8)).cardEditBad (u8 r.pay 9) (u16 r.pay 10) img
      (bad = false → s.blk.editsQueued < 256 → (∃ t, exec (.editCard p) s = .next t ∧ Served r s 0 [] t ∧
        (let b := t.blk; ∃ old e, b.loom.edits = old ++ [e] ∧
        old.length = s.blk.loom.edits.length ∧ (kept → old = s.blk.loom.edits) ∧ e.card = true ∧ e.dom = u8 r.pay 9 ∧
        e.pos = u16 r.pay 10 ∧ e.val = img ∧ e.held = hold))) ∧
      (bad = true → (∃ t, exec (.editCard p) s = .next t ∧ Served r s (stREFUSED 4) [] t ∧
        (let b := t.blk; b.loom.edits.length = s.blk.loom.edits.length ∧
        (b.frec srcLOM).pend = true)))) ∧
    (Begins s.blk 0x22 p r → s.blk.domOn 11 = true → (∃ t, exec (.editRelease p) s = .next t ∧ Served r s 0 [] t ∧
      (let b := t.blk; b.rb Reg.LOM_EDIT_CTRL 0 = false ∧
      (s.blk.rb Reg.LOM_EDIT_CTRL 0 = true → ∀ e ∈ b.loom.edits, e.held = false) ∧
      b.loom.edits.length = s.blk.loom.edits.length))) ∧
    (s.blk.domOn 11 = false → (Begins s.blk 0x20 p r → (∃ t, exec (.editCoef p) s = .next t ∧ Served r s stSTATE [] t ∧
      (let b := t.blk; b.loom = s.blk.loom))) ∧
      (Begins s.blk 0x21 p r → (∃ t, exec (.editCard p) s = .next t ∧ Served r s stSTATE [] t ∧ (let b := t.blk; b.loom = s.blk.loom))) ∧
      (Begins s.blk 0x22 p r → (∃ t, exec (.editRelease p) s = .next t ∧ Served r s stSTATE [] t ∧ (let b := t.blk; b.loom = s.blk.loom))))

/-- R439: the services that act complete: TIME_STEP, TIME_SLEW, JET_CMD, RILL_REARM, PAIR_CMD, REPACK and MODE. -/
def Obligations.ActServices : Prop :=
  ∀ (s : State) (p : Nat) (r : Req),
    let i := u8 r.pay 1
    (Begins s.blk 0x31 p r → s.blk.tsu.step = none →
      let by' := toS 32 (u32 r.pay 0) * 1000000000 + toS 32 (u32 r.pay 8)
      (by'.natAbs ≤ s.blk.reg Reg.TSU_JUMP_LIM ∨ u8 r.pay 12 = 1 → (∃ t, exec (.timeStep p) s = .next t ∧ Served r s 0 [] t ∧ (let b := t.blk;
        b.tsu = { s.blk.tsu with step := some (by', s.blk.tsu.ticks + 16) }))) ∧
      (s.blk.reg Reg.TSU_JUMP_LIM < by'.natAbs → u8 r.pay 12 = 0 → (∃ t, exec (.timeStep p) s = .next t ∧ Served r s (stREFUSED 1) [] t ∧
        (let b := t.blk; b.tsu = s.blk.tsu ∧
        (b.frec srcTSU).pend = true)))) ∧
    (Begins s.blk 0x32 p r → (toS 32 (u32 r.pay 0)).natAbs ≤ 0x2000000 → (∃ t, exec (.timeSlew p) s = .next t ∧ Served r s 0 [] t ∧
      (let b := t.blk;
      b.tsu.slewFrac = toS 32 (u32 r.pay 0) ∧ b.tsu.slewCnt = u32 r.pay 4 ∧ b.tsu.ns = s.blk.tsu.ns ∧ b.tsu.sec = s.blk.tsu.sec))) ∧
    (Begins s.blk 0x41 p r → s.blk.domOn 18 = true →
      (u8 r.pay 0 = 0 → i < 32 → (s.blk.jetOf i).st = 4 → (∃ t, exec (.jetCmd p) s = .next t ∧ Served r s 0 [] t ∧ (let b := t.blk;
        b.jetOf i = { s.blk.jetOf i with retries := 0, st := 0, reason := 0, startAt := some (s.blk.blk + 1) } ∧ OnlyJet i s.blk b))) ∧
      (u8 r.pay 0 = 1 → i < 4 → (s.blk.bank i).cfg = true → (s.blk.bank i).st = 0 → (∃ t, exec (.jetCmd p) s = .next t ∧ Served r s 0 [] t ∧
        (let b := t.blk;
        b.jet = (s.blk.setBank i { s.blk.bank i with startAt := some (s.blk.blk + 1) }).jet))) ∧
      (u8 r.pay 0 = 2 → i < 4 → (s.blk.bank i).st = 2 → (∃ t, exec (.jetCmd p) s = .next t ∧ Served r s 0 [] t ∧ (let b := t.blk;
        b.jet = (s.blk.setBank i { s.blk.bank i with stopAt := some (s.blk.blk + 1) }).jet)))) ∧
    (Begins s.blk 0x42 p r → s.blk.domOn 17 = true → u8 r.pay 0 < 48 → (s.blk.rill (u8 r.pay 0)).st = 4 →
      (∃ t, exec (.rillRearm p) s = .next t ∧ Served r s 0 [] t ∧ (let b := t.blk;
      b.ril = (s.blk.setRill (u8 r.pay 0) { s.blk.rill (u8 r.pay 0) with st := 1, good := 0 }).ril))) ∧
    (Begins s.blk 0x50 p r → r.box = none →
      (u8 r.pay 0 = 0 → s.blk.par.st = 2 → s.blk.twinReady = true → s.blk.par.resign = none → (∃ t, exec (.pairCmd p) s = .next t ∧
        Served r s 0 [] t ∧ (let b := t.blk;
        b.par = { s.blk.par with resign := some s.blk.resignTick }))) ∧
      (u8 r.pay 0 = 1 → s.blk.par.st = 4 → s.blk.gwUp = false → (∃ t, exec (.pairCmd p) s = .next t ∧ Served r s 0 [] t ∧
        (let b := t.blk; b.par = { s.blk.par with takeReq := true }))) ∧
      (u8 r.pay 0 = 1 → s.blk.gwUp = true → (∃ t, exec (.pairCmd p) s = .next t ∧ Served r s stSTATE [] t ∧
        (let b := t.blk; b.par = s.blk.par)))) ∧
    (∀ d, Begins s.blk 0x51 p r → s.blk.stg.force = some d → (∃ t, exec (.repack p) s = .next t ∧ Served r s 0 [] t ∧ (let b := t.blk;
      b.crl.computed = (placeAll d s.blk.crl.fmap s.blk.share s.blk.fB).1 ∧ b.crl.trigger = 2 ∧ b.crl.pinned = [] ∧ b.crl.retry = []))) ∧
    (Begins s.blk 0x60 p r →
      (u8 r.pay 0 = 1 → s.blk.mode = 2 → s.blk.severed = false → s.blk.par.st = 0 → s.blk.stg.st ≠ .settling →
        (∃ t, exec (.mode p) s = .next t ∧ Served r s 0 [] t ∧ (let b := t.blk;
        b.mode = 4 ∧ b.rfld Reg.PWR_MODE 4 3 = 1 ∧ b.sys.leaving = .asked ∧ b.sys.leaveAt = s.blk.blk + 1))) ∧
      (u8 r.pay 0 = 2 → s.blk.mode = 2 → (∃ t, exec (.mode p) s = .next t ∧ Served r s stSTATE [] t ∧ (let b := t.blk; b.mode = 2 ∧
        b.rb Reg.PWR_INT 1 = true ∧
        (b.frec srcPWR).pend = true))))

/-! ## The matrix, the basins and the semaphores (spec/17_matrix_basins.md) -/

/-- R448: reads of any width acquire a free semaphore or name its holder; a write of 0 by the holder releases it; any other write has no
effect and is recorded; SYS_SEM_HELD shows the held ones. -/
def Obligations.Semaphores : Prop :=
  (∀ (s : State) (m i k n : Nat), i < 64 → 1 ≤ n → k + n ≤ 4 → CanRead m (Reg.SYS_SEM i) s.blk →
    let h := tget 0 s.sems i
    let v := if h = 0 then 0 else 0x80000000 + (h - 1)
    let after := fun (t : State) => (∀ j, tget 0 t.sems j = if j = i ∧ h = 0 then m + 1 else tget 0 s.sems j) ∧ t.blk.like s.blk
    (∃ t, exec (.semaphoreRead m i) s = .next t ∧ t.pending = s.pending ∧ (after t ∧ .read (regBase + Reg.SYS_SEM i) 4 v ∈ t.blk.out)) ∧
    (h ≤ 16 → (∃ t, exec (.rcRead m (Reg.SYS_SEM i + k) n) s = .next t ∧ t.pending = s.pending ∧ (after t ∧
      .read (regBase + Reg.SYS_SEM i + k) n (v / 256 ^ k % 256 ^ n) ∈ t.blk.out)))) ∧
  (∀ (s : State) (m i v : Nat), i < 64 → v < 2 ^ 32 → CanWrite m (Reg.SYS_SEM i) s.blk →
    (v = 0 ∧ tget 0 s.sems i = m + 1 → (∃ t, exec (.semaphoreRelease m i v) s = .next t ∧ t.pending = s.pending ∧ (
      (∀ j, tget 0 t.sems j = if j = i then 0 else tget 0 s.sems j) ∧ t.blk.like s.blk))) ∧
    (¬(v = 0 ∧ tget 0 s.sems i = m + 1) → (∃ t, exec (.semaphoreRelease m i v) s = .next t ∧ t.pending = s.pending ∧ (
      t.sems = s.sems ∧ MtxRecorded mtxSEM m (regBase + Reg.SYS_SEM i) true s.blk t.blk)))) ∧
  (∀ (s : State) (m : Nat), CanRead m Reg.SYS_SEM_HELD_LO s.blk →
    (∃ t, exec (.rcRead m Reg.SYS_SEM_HELD_LO 4) s = .next t ∧ t.pending = s.pending ∧ (t.sems = s.sems ∧ ∃ v,
      .read (regBase + Reg.SYS_SEM_HELD_LO) 4 v ∈ t.blk.out ∧ ∀ i, i < 32 → v.testBit i = decide (tget 0 s.sems i ≠ 0)))) ∧
  (∀ (s : State) (m : Nat), CanRead m Reg.SYS_SEM_HELD_HI s.blk →
    (∃ t, exec (.rcRead m Reg.SYS_SEM_HELD_HI 4) s = .next t ∧ t.pending = s.pending ∧ (t.sems = s.sems ∧ ∃ v,
      .read (regBase + Reg.SYS_SEM_HELD_HI) 4 v ∈ t.blk.out ∧ ∀ i, i < 32 → v.testBit i = decide (tget 0 s.sems (32 + i) ≠ 0))))

/-- R454, R453: a write through the bit-set or bit-clear alias by firmware changes exactly the enabled bytes of the word, to old | data or old
& ~data; every other byte of memory and everything else stays. No basin word is in error. R455: the write-back of a corrected word takes
it out of error and changes no byte of memory. R446: only a distaff sets REMAP, nothing but a device reset clears it, and any other writer
is recorded. -/
def Obligations.BasinsAndRemap : Prop :=
  (∀ (s : State) (m n ofs data st : Nat) (set : Bool), m = 13 ∨ m = 14 → n < 8 → ofs < 0x100000 → ofs % 8 = 0 → s.blk.sys.memErr = [] →
     Yields (if set then .bitSetWrite m n ofs data st else .bitClearWrite m n ofs data st) s (fun b =>
       let w := basinBase n + ofs
       (∀ i, i < 8 → b.rd8 (w + i) =
         (let old := s.blk.rd8 (w + i)
          let d := BitVec.ofNat 8 (data / 256 ^ i)
          if st.testBit i then (if set then old ||| d else old &&& ~~~d) else old)) ∧
       (∀ a, a < w ∨ w + 8 ≤ a → b.rd8 a = s.blk.rd8 a) ∧ b.like { s.blk with mem := b.mem })) ∧
  (∀ (s : State) (n ofs : Nat), n < 8 → ofs < 0x100000 → tget 0 s.blk.sys.memErr ((basinBase n + ofs) / 8) = 1 →
     Yields (.eccWriteback n ofs) s (fun b => (∀ w,
       tget 0 b.sys.memErr w = if w = (basinBase n + ofs) / 8 then 0 else tget 0 s.blk.sys.memErr w) ∧
       b.mem = s.blk.mem ∧ b.regs = s.blk.regs ∧ b.flt = s.blk.flt)) ∧
  (∀ (s : State) (m v : Nat), CanWrite m Reg.SYS_REMAP s.blk →
     (m = 13 ∨ m = 14 → Yields (.remap m v) s (fun b => OnlyRegs [Reg.SYS_REMAP] s.blk b ∧
       b.reg Reg.SYS_REMAP = if v.testBit 0 then 1 else s.blk.reg Reg.SYS_REMAP)) ∧
     (m ≠ 13 → m ≠ 14 → Yields (.remap m v) s (fun b => MtxRecorded mtxDENIED m (regBase + Reg.SYS_REMAP) true s.blk b)))

/-- R443, R444: MATRIX_BURST completes: a free port with no burst waiting grants the least master number among those that arrive, that
master's oldest burst, and holds it until its last beat; a burst of a memory target runs as many beats as asked, a write leaves its bytes and
a read answers them, and after its last beat the port is free. -/
def Obligations.MatrixGrants : Prop :=
  (∀ (s : State) (t : Nat) (u v : Burst), tget {} s.blk.sys.ports t = {} → s.blk.remapped = false → 0x200000 ≤ u.addr → 0x200000 ≤ v.addr →
    targetOf u.addr = t → targetOf v.addr = t → u.total ≠ 0 → v.total ≠ 0 → u.total ≤ (4096 - u.addr % 4096) / 32 →
    v.total ≤ (4096 - v.addr % 4096) / 32 → u.master < v.master →
    ∃ r, exec (.matrixBurst t [v, u] 0 []) s = .next r ∧ r.pending = s.pending ∧ r.sems = s.sems ∧
      (tget {} r.blk.sys.ports t).cur = some u ∧ (tget {} r.blk.sys.ports t).queue = [v] ∧ r.blk.mem = s.blk.mem ∧ r.blk.regs = s.blk.regs) ∧
  (∀ (s : State) (t : Nat) (u : Burst) (p : MPort), p = tget {} s.blk.sys.ports t → p.cur = some u → p.done + 1 < u.total →
    targetOf u.addr ≠ 19 → targetOf u.addr ≠ 20 →
    ∃ r, exec (.matrixBurst t [] 1 []) s = .next r ∧ r.pending = s.pending ∧ r.sems = s.sems ∧
      (tget {} r.blk.sys.ports t).cur = some u ∧ (tget {} r.blk.sys.ports t).done = p.done + 1) ∧
  (∀ (s : State) (a : Nat) (bs : Bytes), tget {} s.blk.sys.ports 0 = {} → tget {} s.blk.sys.ports 1 = {} → s.blk.sys.memErr = [] →
    0x11000000 ≤ a → a + 32 ≤ 0x111F0000 → a % 32 = 0 → bs.length = 32 →
    (∃ r, exec (.matrixBurst 1 [{ master := 13, addr := a, write := true, len := 0, beats := [(bs, 0xFFFFFFFF)] }] 1 []) s = .next r ∧
      r.pending = s.pending ∧ r.sems = s.sems ∧ r.blk.rdBytes a 32 = bs ∧ (∀ q, q < a ∨ a + 32 ≤ q → r.blk.rd8 q = s.blk.rd8 q) ∧
      tget {} r.blk.sys.ports 1 = {}) ∧
    ∃ r, exec (.matrixBurst 1 [{ master := 13, addr := a, write := false, len := 32, beats := [] }] 1 []) s = .next r ∧
      r.pending = s.pending ∧ r.sems = s.sems ∧ .read a 32 (leNat (s.blk.rdBytes a 32)) ∈ r.blk.out ∧ r.blk.mem = s.blk.mem ∧
      tget {} r.blk.sys.ports 1 = {})

/-! ## Faults (spec/19_faults.md) -/

/-- R487, R488: an error opens a record or is merged into it, and of two in one cycle the lower code opens it; ACK completes: it clears PEND
and MERGE and stops the timer, and keeps the rest. -/
def Obligations.FaultRecords : Prop :=
  (∀ (b : Block) (k code cls spec unit : Nat),
    let r := b.frec k
    let q := (b.raise k code cls spec unit).frec k
    (r.pend = false → q.pend = true ∧ q.code = code ∧ q.spec = spec ∧ q.cls = cls ∧ q.blk = b.blk % 2 ^ 32 ∧ q.merge = 0 ∧
      q.timer = true ∧ q.grace = b.reg (graceReg k) % 2 ^ 16) ∧
    (r.pend = true → q.pend = true ∧ q.merge = min 255 (r.merge + 1) ∧ q.blk = r.blk ∧ q.cls = max r.cls cls ∧ q.timer = r.timer ∧
      q.grace = r.grace ∧ (b.cycle = none ∨ r.code ≤ code → q.code = r.code ∧ q.spec = r.spec)) ∧
    (∀ code' spec', b.cycle = some [] → r.pend = false → code' < code →
      let z := ((b.raise k code cls spec unit).raise k code' cls spec' unit).frec k
      z.pend = true ∧ z.code = code' ∧ z.spec = spec' ∧ z.merge = 1) ∧
    ∀ j, j ≠ k → (b.raise k code cls spec unit).frec j = b.frec j) ∧
  (∀ (s : State) (k : Nat), k < 32 → k ≠ 20 → s.blk.islandOff (fltReg k) = false → Yields (.ack k) s (fun b =>
    (b.frec k).pend = false ∧ (b.frec k).merge = 0 ∧ (b.frec k).timer = false ∧ (b.frec k).code = (s.blk.frec k).code ∧
    (b.frec k).cls = (s.blk.frec k).cls ∧ (b.frec k).blk = (s.blk.frec k).blk ∧ (∀ j, j ≠ k → b.frec j = s.blk.frec j) ∧
    b.like { s.blk with flt := b.flt, escAcked := b.escAcked }))

/-- R490, R491: GRACE_EXPIRY completes where the timer of a record runs and GRACE us have passed: the timer stops and the record stays
pending; errors without an escalation cause nothing else, and OVERLOAD of the loom mutes every ply that the loom writes in its domain. R491:
ESCALATION_MUTE_RELEASE completes: the mute by an escalation of a source whose record has been acknowledged is released at the next
block tick. -/
def Obligations.GraceAndEscalation : Prop :=
  (∀ (s : State) (k : Nat), s.blk.steady → s.blk.domOn 19 = true → k < 32 → (s.blk.frec k).timer = true →
    (∀ e ∈ (s.blk.frec k).held, (s.escalate k e).isNone = true) →
    ∃ t, exec (.graceExpiry k) s = .next t ∧ t.pending = s.pending ∧ t.sems = s.sems ∧ (t.blk.frec k).timer = false ∧
      (t.blk.frec k).pend = (s.blk.frec k).pend ∧ (t.blk.frec k).code = (s.blk.frec k).code ∧
      (s.blk.frec k).at' + 1000 * (s.blk.frec k).grace ≤ t.blk.pclk ∧
      t.blk.like { s.blk with flt := t.blk.flt, tsu := t.blk.tsu }) ∧
  (∀ (s : State) (dom : Nat), s.blk.steady → s.blk.domOn 19 = true → s.blk.rb Reg.SYS_FCTL 8 = false →
    (s.blk.frec srcLOM).timer = true → (s.blk.frec srcLOM).held = [⟨6, dom⟩] →
    ∃ t, exec (.graceExpiry srcLOM) s = .next t ∧ t.pending = s.pending ∧ t.sems = s.sems ∧ (t.blk.frec srcLOM).timer = false ∧
      (∀ p ∈ s.blk.loomPlies dom, bit (tget 0 t.blk.muted p) (muEsc srcLOM) = true) ∧
      (∀ p, p ∉ s.blk.loomPlies dom → tget 0 t.blk.muted p = tget 0 s.blk.muted p) ∧ t.blk.stg = s.blk.stg ∧ t.blk.regs = s.blk.regs) ∧
  (∀ (s : State) (k p : Nat), s.blk.steady → (k, p) ∈ s.blk.escAcked →
     Yields .escalationMuteRelease s (fun b => bit (tget 0 b.muted p) (muEsc k) = false ∧ b.escAcked = [] ∧
       (∀ j q, (j, q) ∉ s.blk.escAcked → bit (tget 0 b.muted q) (muEsc j) = bit (tget 0 s.blk.muted q) (muEsc j)) ∧
       s.blk.tsu.ticks ≤ b.tsu.ticks ∧ b.regs = s.blk.regs ∧ b.stg = s.blk.stg ∧ b.mem = s.blk.mem ∧ b.flt = s.blk.flt)) ∧
  (∀ (s : State) (k p : Nat), k < 32 → k ≠ 20 → s.blk.islandOff (fltReg k) = false → bit (tget 0 s.blk.muted p) (muEsc k) = true →
     Yields (.ack k) s (fun b => (k, p) ∈ b.escAcked))

/-- R495, R494: SEVER_KEY completes: the key from a distaff, or from the host at full, severs the device; any other write has no effect. R496:
ERR_N as it is logged after any command is low exactly while one of its conditions holds; ERRN_RELEASE completes: 20 us after the last record
of class I or S opened it goes high, if nothing else holds it. -/
def Obligations.SeverAndErrN : Prop :=
  (∀ (s : State) (m v : Nat),
     (v = 0x53455645 → m = 13 ∨ m = 14 ∨ (m = 15 ∧ s.blk.level 0 = 3) → s.blk.severed = false →
       Yields (.severKey m v) s (fun b => b.severed = true ∧ b.rfld Reg.SYS_SEVER 8 6 = srcSYS ∧ b.rfld Reg.SYS_SEVER 0 8 = 2 ∧
         (b.frec srcSYS).pend = true ∧ 3 ≤ (b.frec srcSYS).cls ∧
         (∀ d, d < 20 → d ∉ [0, 1, 2, 14, 15, 16] → b.domOn d = false) ∧
         (∀ n, n < 32 → (s.blk.jetOf n).cfg.en = true → .pin (pinJetEn n) false ∈ b.out))) ∧
     (¬(v = 0x53455645 ∧ (m = 13 ∨ m = 14 ∨ (m = 15 ∧ s.blk.level 0 = 3))) → Yields (.severKey m v) s (fun b => b.like s.blk))) ∧
  (∀ (c : Instr) (s : State), ∃ t, exec c s = .next t ∧ t.blk.sys.errLow =
     (t.blk.errPulse.any (fun x => decide (t.blk.pclk < x + 20000)) || t.blk.flt.any (fun e => e.2.pend && decide (2 ≤ e.2.cls)) ||
       t.blk.rb Reg.SYS_FCTL 0 || t.blk.severed || decide (t.blk.rfld Reg.PWR_BOOT 0 4 = 6))) ∧
  (∀ (s : State) (x : Nat), s.blk.steady → s.blk.errPulse = some x → (∀ e ∈ s.blk.flt, e.2.pend = true → e.2.cls < 2) →
     s.blk.rb Reg.SYS_FCTL 0 = false → s.blk.severed = false → s.blk.rfld Reg.PWR_BOOT 0 4 ≠ 6 → s.blk.sys.errLow = true →
     Yields .errnRelease s (fun b => b.errPulse = none ∧ x + 20000 ≤ b.pclk ∧ b.sys.errLow = false ∧ .pin pinErrN true ∈ b.out ∧
       b.like { s.blk with errPulse := none, tsu := b.tsu }))

/-! ## Control ports, mailboxes and the host (spec/16_control_ports.md) -/

/-- R415: an accepted write of MBX_PRIV (PRIV_WRITE) sets each field that is at or below its port's ceiling and keeps every other; a host that is not at
full changes no level. R504: the strap MGMT_DRAFT_EN takes its new level. -/
def Obligations.Levels : Prop :=
  (∀ (s : State) (m v : Nat), CanWrite m Reg.MBX_PRIV s.blk → m ∈ [13, 14, 15] →
     (m ≠ 15 ∨ s.blk.level 0 = 3 → Yields (.privWrite m v) s (fun b => OnlyRegs [Reg.MBX_PRIV] s.blk b ∧
       ∀ p, p < 8 → b.level p = if fld v (2 * p) 2 ≤ levelCeil p then fld v (2 * p) 2 else s.blk.level p)) ∧
     (m = 15 → s.blk.level 0 ≠ 3 → Yields (.privWrite m v) s (fun b => b.reg Reg.MBX_PRIV = s.blk.reg Reg.MBX_PRIV ∧
       (b.frec srcMBX).pend = true ∧ b.rb Reg.MBX_INT 0 = true))) ∧
  (∀ (s : State) (lvl : Bool), Yields (.mgmtDraftEnChange lvl) s (fun b => b.sys.draftEn = lvl ∧
     b.like (s.blk.setSys (fun y => { y with draftEn := lvl }))))

/-- R429, R430, R431: GO with LEN from 8 to 16 on a mailbox of this device that is not BUSY makes it BUSY and rings the doorbell BELL of
its receiver; GO outside 8 to 16, or while BUSY, sets REFUSED and changes no state; TAKE of a BUSY mailbox makes it TAKEN and tells its
sender; doorbell bits set on request. -/
def Obligations.Mailboxes : Prop :=
  (∀ (s : State) (n v e : Nat), n < 32 → mbxReceiver n = some e → sendMaster n = 13 ∨ sendMaster n = 14 →
    CanWrite (sendMaster n) (Reg.MBX_CTRL n) s.blk → v < 2 ^ 13 → fld v 5 3 = 0 → s.blk.mbxState n ≠ 1 →
    (8 ≤ fld v 0 5 ∧ fld v 0 5 ≤ 16 → Yields (.mailboxGo (sendMaster n) n v) s (fun b => b.mbxState n = 1 ∧ b.mbxLen n = fld v 0 5 ∧
      b.rb (Reg.MBX_DB e) (fld v 8 5) = true ∧ OnlyRegs [Reg.MBX_CTRL n, Reg.MBX_DB e] s.blk b)) ∧
    (¬(8 ≤ fld v 0 5 ∧ fld v 0 5 ≤ 16) → Yields (.mailboxGo (sendMaster n) n v) s (fun b => b.mbxState n = s.blk.mbxState n ∧
      b.rb (Reg.MBX_CTRL n) 24 = true ∧ OnlyRegs [Reg.MBX_CTRL n] s.blk b))) ∧
  (∀ (s : State) (n e : Nat), 8 ≤ n → n < 16 → mbxSender n = some e → CanWrite 15 (Reg.MBX_CTRL n) s.blk → s.blk.mbxState n = 1 →
    s.blk.sys.msgs = [] →
    Yields (.mailboxTake 15 n) s (fun b => b.mbxState n = 2 ∧ b.rb (Reg.MBX_EVT e) n = true ∧
      OnlyRegs [Reg.MBX_CTRL n, Reg.MBX_EVT e] s.blk b)) ∧
  (∀ (s : State) (m e v : Nat), m = 13 ∨ m = 14 → e < 3 → v < 2 ^ 32 → CanWrite m (Reg.MBX_DB_SET e) s.blk →
    Yields (.doorbellSet m e v) s (fun b => b.reg (Reg.MBX_DB e) = s.blk.reg (Reg.MBX_DB e) ||| v ∧ OnlyRegs [Reg.MBX_DB e] s.blk b))

/-- R422 to R424: HOST_RESET completes: it frees the host's semaphores and raises HOST_RESET; so do HOST_LINK_UP, which shows the link's speed
and width, VECTOR_REARM, which re-arms exactly the vectors named that nothing drives, and VECTOR_UNMASK, which sends what is pending. R426:
RING_TAIL_WRITE, RING_DISABLE and RING_CONFIG_WRITE complete: the tail takes what is written; a ring that is disabled stops, with HEAD and
TAIL 0; BASE and SIZE are written only while the ring is disabled, SIZE only as a power of two from 16 to 4096. R426: RX_DESCRIPTOR and
TX_DESCRIPTOR complete: an entry of a receive ring takes the frame at the head of its queue, and one of a transmit ring gives its frame to
its queue. -/
def Obligations.HostPortAndRings : Prop :=
  ((∀ (s : State) (why : Nat), ∃ t, exec (.hostReset why) s = .next t ∧ t.pending = s.pending ∧ (∀ e ∈ t.sems, e.2 ≠ 16) ∧
     (∀ e ∈ s.sems, e.2 ≠ 16 → e ∈ t.sems) ∧ t.blk.rb Reg.HST_INT 2 = true ∧ (t.blk.frec srcHST).pend = true ∧ t.blk.mem = s.blk.mem ∧
     t.blk.stg = s.blk.stg) ∧
   (∀ (s : State) (speed width : Nat), s.blk.domOn 15 = true → 1 ≤ speed → speed ≤ 4 → width ∈ [1, 2, 4] →
     Yields (.hostLinkUp speed width) s (fun b => b.rb Reg.HST_STAT 0 = true ∧ b.rfld Reg.HST_STAT 2 3 = speed ∧
       b.rfld Reg.HST_STAT 5 3 = width ∧ b.rb Reg.HST_INT 0 = true ∧ OnlyRegs [Reg.HST_STAT, Reg.HST_INT] s.blk b)) ∧
   (∀ (s : State) (m i v : Nat), m = 13 ∨ m = 14 → i < 2 → v < 2 ^ 32 → CanWrite m (Reg.HST_IACK_LO + 4 * i) s.blk → s.blk.driven = [] →
     Yields (.vectorRearm m i v) s (fun b => b.like s.blk ∧
       b.sys.disarmed = s.blk.sys.disarmed.filter (fun w => !(decide (32 * i ≤ w) && decide (w < 32 * i + 32) && v.testBit (w - 32 * i))))) ∧
   (∀ (s : State) (v : Nat), v < 64 → s.blk.domOn 15 = true → s.blk.rb Reg.HST_STAT 8 = true → s.blk.sys.pba = [v] → s.blk.driven = [] →
     Yields (.vectorUnmask (some v)) s (fun b => .msix v ∈ b.out ∧ b.sys.pba = [] ∧ tget 0 b.sys.msix (4 * v + 3) = 1 ∧
       b.regs = s.blk.regs ∧ b.mem = s.blk.mem))) ∧
  (∀ (s : State) (m p v : Nat) (tx : Bool), m = 13 ∨ m = 14 → p < 5 → s.blk.islandOff (ringReg tx p 0) = false → v < 2 ^ 32 →
     Yields (.ringTailWrite m tx p v) s (fun b => b.reg (ringReg tx p 0x10) = v % 4096 ∧ OnlyRegs [ringReg tx p 0x10] s.blk b) ∧
     Yields (.ringDisable m tx p) s (fun b => b.ringEn tx p = false ∧ b.reg (ringReg tx p 0xC) = 0 ∧ b.reg (ringReg tx p 0x10) = 0 ∧
       b.mem = s.blk.mem ∧ ∀ r, r ∉ [ringReg tx p 0x14, ringReg tx p 0xC, ringReg tx p 0x10] → b.reg r = s.blk.reg r) ∧
     (s.blk.ringEn tx p = true → Yields (.ringConfigWrite m tx p 2 v) s (fun b => b.like s.blk)) ∧
     (s.blk.ringEn tx p = false → v ∈ [16, 32, 64, 128, 256, 512, 1024, 2048, 4096] →
       Yields (.ringConfigWrite m tx p 2 v) s (fun b => b.reg (ringReg tx p 8) = v ∧ OnlyRegs [ringReg tx p 8] s.blk b))) ∧
  ((∀ (s : State) (p q h : Nat) (f : RxFrame) (rest : List RxFrame), p < 5 → s.blk.rxq p q = f :: rest → s.blk.ringHead false p = some h →
     s.blk.rxDest p q = 2 → s.blk.cst.st = 2 → s.blk.sys.memErr = [] →
     let a := s.blk.ringDesc false p h
     let d := s.blk.rdBytes a 32
     let len := u16 d 8
     let n := f.bytes.length
     s.blk.inCistern a = true → s.blk.inCistern (a + 10) = true → s.blk.inCistern (u64 d 0) = true →
     (∀ x ∈ s.blk.pieces (a + 10) (List.replicate 22 0) ++ s.blk.pieces (u64 d 0) (f.bytes.take len), s.blk.mayWrite 2 x.1 = true) →
     u64 d 0 + len ≤ a ∨ a + 32 ≤ u64 d 0 → Yields (.rxDescriptor p q) s (fun b =>
       b.rxq p q = rest ∧ b.reg (ringReg false p 0xC) = (h + 1) % max 1 (s.blk.reg (ringReg false p 8)) % 2 ^ 32 ∧
       b.rb Reg.HST_RING_EVT p = true ∧ b.rdBytes (u64 d 0) (min len n) = f.bytes.take len ∧
       bit (b.rdLE (a + 10) 2) 0 = true ∧ bit (b.rdLE (a + 10) 2) 4 = decide (len < n) ∧ b.rdLE (a + 12) 2 = n % 65536 ∧
       b.rdLE a 10 = s.blk.rdLE a 10)) ∧
   (∀ (s : State) (p n h : Nat), p < 5 → s.blk.txInFlight p = false → s.blk.ringHead true p = some h → s.blk.sys.memErr = [] →
     let a := s.blk.ringDesc true p h
     let d := s.blk.rdBytes a 32
     let len := u16 d 8
     let q := fld (u16 d 10) 2 2
     s.blk.inCistern a = true → s.blk.inCistern (u64 d 0) = true → q < 3 → (p = 4 → q ≠ 2) → 60 ≤ len →
     len + 4 ≤ s.blk.rfld (portBase p) 16 14 → s.blk.portUp p = true → s.blk.txRoom p (hostQueue p + q) (len + 4) = true →
     Yields (.txDescriptor p n) s (fun b => b.mem = s.blk.mem ∧ b.regs = s.blk.regs ∧
       b.txq p (hostQueue p + q) = s.blk.txq p (hostQueue p + q) ++
       [{ bytes := s.blk.rdBytes (u64 d 0) len, present := min len n, whole := decide (len ≤ n), host := some (p, h),
          stampReq := bit (u16 d 10) 1 }])))

/-! ## Power, resets and boot (spec/18_power_boot.md) -/

/-- R465 to R468, R470: REQUEST_STANDBY, REQUEST_DORMANT, REQUEST_ACTIVE, LEAVING_BLOCK_TICK, LEAVE_QUIESCE and RESUME_START complete: a mode
request is accepted or refused; the leaving sequence mutes, stops and switches off; STANDBY, DORMANT and ACTIVE are entered. -/
def Obligations.PowerModes : Prop :=
  (∀ s : State, let m := s.blk.mode
    let asked := fun (x : Nat) (b : Block) => b.mode = 4 ∧ b.rfld Reg.PWR_MODE 4 3 = x ∧ b.sys.leaving = .asked ∧
      b.sys.leaveAt = s.blk.blk + 1 ∧ b.jet = s.blk.jet ∧ b.stg = s.blk.stg
    let refused := fun (b : Block) => b.mode = m ∧ b.rb Reg.PWR_INT 1 = true ∧ (b.frec srcPWR).pend = true ∧ b.sys = { s.blk.sys with
        errLow := b.sys.errLow, shutHigh := b.sys.shutHigh, disarmed := b.sys.disarmed, pba := b.sys.pba }
    (m = 2 → s.blk.severed = false → s.blk.par.st = 0 → s.blk.stg.st ≠ .settling →
      Yields .requestStandby s (asked 1) ∧ Yields .requestDormant s (asked 0)) ∧
    (m = 1 → s.blk.severed = false → Yields .requestDormant s (fun b => b.mode = 0 ∧ (∀ d, 1 ≤ d → d ≤ 19 → b.domOn d = false) ∧
      .pin pinPmicReq false ∈ b.out ∧ b.sys.coarse = s.blk.tsu.sec * 32768 + s.blk.tsu.ns * 32768 / 1000000000 ∧
      b.stg.flash = s.blk.stg.flash ∧ b.rb Reg.PWR_INT 0 = true)) ∧
    (m = 1 → s.blk.severed = false → Yields .requestActive s (fun b => b.mode = 3 ∧ b.rfld Reg.PWR_MODE 4 3 = 2 ∧
      (s.blk.cst.st = 4 → b.cst.st = 2))) ∧
    (m ≠ 2 → Yields .requestStandby s refused) ∧ (m ≠ 1 → Yields .requestActive s refused) ∧
    (m ≠ 1 → m ≠ 2 → Yields .requestDormant s refused)) ∧
  (∀ s : State, s.blk.steady → s.blk.sys.leaving = .asked → Yields .leavingBlockTick s (fun b => b.sys.leaving = .muted ∧
    (∀ d, s.blk.stg.force = some d → ∀ r ∈ d.plies, bit (tget 0 b.muted r.ply) muLeave = true) ∧
    (s.blk.stg.st = .armed → b.stg = { s.blk.stg with st := .valid, err := 0x82, errInst := 0, errTag := 0, errOfs := 0 }) ∧
    b.stg.force = s.blk.stg.force)) ∧
  (∀ (s : State) (n : Nat), s.blk.steady → s.blk.sys.leaving = .muted → (∀ k, k < 4 → s.blk.bankStill k) →
    (∀ j, j < 32 → (s.blk.jetOf j).modulating = false) → s.blk.rfld Reg.PWR_MODE 4 3 ≠ 0 → Yields (.leaveQuiesce n) s (fun b =>
      b.mode = 1 ∧ b.sys.leaving = .none ∧ b.loom.stopped = true ∧ b.loom.passes = [] ∧ (∀ k, k < 64 → (b.spn k).run = false) ∧
      (∀ d ∈ [3, 4, 5, 6, 7, 8, 9, 10, 11, 17, 18], b.domOn d = false) ∧ (s.blk.cst.st = 2 → b.cst.st = 4) ∧
      b.stg.force = s.blk.stg.force)) ∧
  (∀ (s : State) (n : Nat), s.blk.mode = 3 →
    (s.blk.stg.force = none → Yields (.resumeStart n) s (fun b => b.mode = 2 ∧ b.loom = { s.blk.loom with stopped := false })) ∧
    ∀ d, s.blk.stg.force = some d → s.blk.cst.st = 2 → (s.blk.domNeeds d).all s.blk.domOn = true → Yields (.resumeStart n) s (fun b =>
      b.mode = 2 ∧ b.loom.stopped = false ∧ b.stg.force = some d ∧ ∀ p, bit (tget 0 b.muted p) muLeave = false))

/-- R458 to R462, R470 to R473, R483: WAKE_WINDOW, DOMAIN_WAKE_DONE, DOMAIN_SWITCH_OFF, WAKE_BUDGET_WRITE, WAKE_EVENT, LATCHED_WAKE, PMIC_ACK,
ACK_TIMEOUT, PMIC_LOST and WAKE_RESET complete: the windows of the wake governor and its budget, domains that come up and go off (a bobbin
woken for its test goes off again), wake events, and the PMIC's handshake and its loss. -/
def Obligations.WakeAndPmic : Prop :=
  (∀ (s : State) (ns : Nat), let pend := (below 20).filter (fun d => s.blk.rb Reg.PWR_DOM_PEND d)
    let budget := s.blk.rfld Reg.PWR_WAKE_BUDGET 0 16
    Yields (.wakeWindow ns) s (fun b => ∃ go wait, pend = go ++ wait ∧ (go.map wakeCharge).sum ≤ budget ∧
      (∀ d r, wait = d :: r → budget < (go.map wakeCharge).sum + wakeCharge d) ∧
      (∀ d, d < 20 → (b.rb Reg.PWR_DOM_PEND d = true ↔ d ∈ wait)) ∧ (∀ d ∈ go, tget 0 b.sys.waking d = b.pclk + wakeNs d) ∧
      b.sys.deferred = wait ∧ b.rfld Reg.PWR_WAKE_DEFER 0 16 = min 65535 (s.blk.rfld Reg.PWR_WAKE_DEFER 0 16 +
        (wait.filter (fun d => !s.blk.sys.deferred.contains d)).length) ∧ b.reg Reg.PWR_DOM_ON = s.blk.reg Reg.PWR_DOM_ON)) ∧
  (∀ (s : State) (d : Nat), d < 20 →
    (tget 0 s.blk.sys.waking d ≠ 0 → Yields (.domainWakeDone d) s (fun b =>
      b.domOn d = !(decide (3 ≤ d) && d != 12 && d != 18 && d != 19 && s.blk.sys.testing.contains (d - 3)) ∧ tget 0 b.sys.waking d = 0 ∧
      ∀ e, e < 32 → e ≠ d → b.domOn e = s.blk.domOn e)) ∧
    (tget 0 s.blk.sys.offing d ≠ 0 → Yields (.domainSwitchOff d) s (fun b => tget 0 b.sys.offing d = 0 ∧ d ∉ b.sys.later ∧
      (d ≠ 0 → (d ∈ s.blk.sys.later → b.rb Reg.PWR_DOM_PEND d = true) ∧ ∀ k ∈ domSrcs d, b.frec k = {} ∧
        ∀ a, blkBase (srcBlk k).1 (srcBlk k).2 ≤ a → a < blkBase (srcBlk k).1 (srcBlk k).2 + 0x10000 → b.reg a = (regReset a).toNat)))) ∧
  (∀ (s : State) (m v : Nat), CanWrite m Reg.PWR_WAKE_BUDGET s.blk → v < 2 ^ 32 →
    (m = 13 ∨ m = 14 → 400 ≤ v % 65536 → Yields (.wakeBudgetWrite m v) s (fun b => b.reg Reg.PWR_WAKE_BUDGET = v % 65536 ∧
      OnlyRegs [Reg.PWR_WAKE_BUDGET] s.blk b)) ∧
    (m = 13 ∨ m = 14 → v % 65536 < 400 → Yields (.wakeBudgetWrite m v) s (fun b => b.like s.blk)) ∧
    (m ≠ 13 → m ≠ 14 → Yields (.wakeBudgetWrite m v) s (fun b => MtxRecorded mtxDENIED m (regBase + Reg.PWR_WAKE_BUDGET) true s.blk b))) ∧
  (∀ (s : State) (i : Nat), i < 4 ∨ (8 ≤ i ∧ i < 16) → Yields (.wakeEvent i) s (fun b => b.rb Reg.PWR_WAKE_SRC i = true ∧
    (s.blk.rb Reg.PWR_WAKE_EN i = true → s.blk.mode = 0 → s.blk.sys.dormAt + 1000000 ≤ s.blk.pclk → s.blk.rb Reg.PWR_AON_STAT 1 = false →
      s.blk.sys.pmicLost = false → b.rb Reg.PWR_AON_STAT 1 = true ∧ b.sys.reqAt = s.blk.pclk ∧ b.sys.ackAt = none ∧
        .pin pinPmicReq true ∈ b.out) ∧
    (s.blk.rb Reg.PWR_WAKE_EN i = true → s.blk.mode = 0 → s.blk.pclk < s.blk.sys.dormAt + 1000000 → b.sys.latched = true ∧
      b.reg Reg.PWR_AON_STAT = s.blk.reg Reg.PWR_AON_STAT) ∧
    (s.blk.rb Reg.PWR_WAKE_EN i = false → OnlyRegs [Reg.PWR_WAKE_SRC] { s.blk with sys := b.sys } b))) ∧
  (∀ s : State, s.blk.mode = 0 → s.blk.sys.latched = true → s.blk.rb Reg.PWR_AON_STAT 1 = false → s.blk.sys.pmicLost = false →
    Yields .latchedWake s (fun b => b.rb Reg.PWR_AON_STAT 1 = true ∧ b.sys.latched = false ∧ .pin pinPmicReq true ∈ b.out)) ∧
  (∀ s : State, s.blk.rb Reg.PWR_AON_STAT 1 = true →
    Yields .pmicAck s (fun b => b.rb Reg.PWR_AON_STAT 2 = true ∧ (s.blk.sys.ackAt = none → s.blk.sys.pmicLost = false →
      b.sys.ackAt = some s.blk.pclk)) ∧
    (s.blk.mode = 0 → s.blk.sys.ackAt = none → Yields .ackTimeout s (fun b => b.rb Reg.PWR_AON_STAT 1 = false ∧ b.rb Reg.PWR_INT 5 = true ∧
      (b.frec srcPWR).pend = true ∧ .pin pinPmicReq false ∈ b.out ∧ b.mode = 0)) ∧
    Yields .pmicLost s (fun b => b.sys.pmicLost = true ∧ b.severed = true ∧ (∀ d, 1 ≤ d → d ≤ 19 → b.domOn d = false) ∧
      (b.frec srcPWR).pend = true ∧ b.reg Reg.SYS_SEVER = (if s.blk.severed then s.blk.reg Reg.SYS_SEVER else 2 ^ 31 + 256 * srcPWR + 3) ∧
      ∀ n, n < 32 → s.blk.severed = false → (s.blk.jetOf n).cfg.en = true → .pin (pinJetEn n) false ∈ b.out)) ∧
  (∀ (s : State) (a : Nat), s.blk.sys.ackAt = some a → s.blk.mode = 0 → Yields .wakeReset s (fun b => b.mode = 5 ∧
    b.rfld Reg.PWR_MODE 4 3 = 2 ∧ b.rb Reg.PWR_RST_CAUSE 3 = true ∧ b.sys.wakeBoot = true ∧ b.sys.ackAt = none ∧
    ∀ d, d = 1 ∨ d = 2 → s.blk.domOn d = false → tget 0 s.blk.sys.waking d = 0 → tget 0 s.blk.sys.offing d = 0 → d ∉ s.blk.sys.later →
      s.blk.sys.pmicLost = false → b.rb Reg.PWR_DOM_PEND d = true))

/-- R474 to R477: COARSE_TIME_WRITE, COARSE_TIME_READ, XT_LOST, XT_RETURN, WDOG_KICK, WDOG, POWER_ON_RESET, DEV_RESET and BLOCK_RESET complete:
the coarse time, the crystal's loss and return, the watchdog, and what each kind of reset leaves. -/
def Obligations.ResetsAndWatchdog : Prop :=
  (∀ (s : State) (m v d : Nat), m = 13 ∨ m = 14 → s.blk.domOn 0 = true → Yields (.coarseTimeWrite m v d) s (fun b =>
    b.like { s.blk with sys := { s.blk.sys with
      coarse := (v % 65536 * 2 ^ 32 + s.blk.sys.coarseLo) * 32768 + s.blk.sys.coarseSub % 32768 } })) ∧
  (∀ (s : State) (d : Nat), let c := (s.blk.sys.coarse + d) % 2 ^ 63
    Yields (.coarseTimeRead d) s (fun b => b.sys.coarse = c ∧ b.reg Reg.PWR_AON_SUB = c % 32768 ∧
      b.reg Reg.PWR_AON_SEC_LO = c / 32768 % 2 ^ 32 ∧ b.reg Reg.PWR_AON_SEC_HI = c / 32768 / 2 ^ 32 ∧
      .read (regBase + Reg.PWR_AON_SUB) 4 (c % 32768) ∈ b.out)) ∧
  (∀ s : State, (s.blk.rb Reg.PWR_AON_STAT 0 = false → Yields .xtLost s (fun b => b.rb Reg.PWR_AON_STAT 0 = true ∧
      b.rb Reg.PWR_INT 3 = true ∧ (b.frec srcPWR).pend = true ∧ b.sys.coarse = s.blk.sys.coarse)) ∧
    Yields .xtReturn s (fun b => b.rb Reg.PWR_AON_STAT 0 = false ∧ OnlyRegs [Reg.PWR_AON_STAT] s.blk b)) ∧
  (∀ (s : State) (m v : Nat), m = 13 ∨ m = 14 → s.blk.domOn 0 = true → Yields (.wdogKick m v) s (fun b =>
    b.like { s.blk with sys := { s.blk.sys with wdogAt := s.blk.pclk } })) ∧
  (∀ s : State, s.blk.steady → s.blk.rb Reg.PWR_WDOG 31 = true →
    ∃ t, exec .wdog s = .next t ∧ t.pending = s.pending ∧ t.blk.rb Reg.PWR_INT 4 = true ∧ t.blk.rb Reg.PWR_RST_CAUSE 4 = true ∧
      (t.blk.frec srcPWR).pend = true ∧ t.blk.sys.wdogAt = t.blk.pclk ∧ t.blk.sys.waiting = [] ∧
    t.sems = s.sems.filter (fun e => e.2 != 14 && e.2 != 15) ∧ t.blk.loom = s.blk.loom ∧ t.blk.jet = s.blk.jet ∧
    s.blk.sys.wdogAt + 1000000 * s.blk.rfld Reg.PWR_WDOG 0 16 ≤ t.blk.pclk) ∧
  (∀ s : State, ∃ t, exec .powerOnReset s = .next t ∧ t.pending = s.pending ∧ t.sems = [] ∧ t.blk.mem = [] ∧
    t.blk.stg = { flash := s.blk.stg.flash } ∧
    t.blk.reg Reg.PWR_AON_STAT = 3 ∧ (∀ a, a ≠ Reg.PWR_AON_STAT → t.blk.reg a = (regReset a).toNat) ∧
    .pin pinPmicReq true ∈ t.blk.out ∧ t.blk.flt = [] ∧ t.blk.sys.coarse = 0) ∧
  (∀ (s : State) (pin : Bool), (s.blk.severed = true → (∃ t, exec (.devReset pin) s = .next t ∧ t.pending = s.pending ∧ (t.sems = s.sems ∧
    t.blk.like s.blk))) ∧
    (s.blk.severed = false → (∃ t, exec (.devReset pin) s = .next t ∧ t.pending = s.pending ∧ (t.sems = [] ∧ t.blk.mem = [] ∧
      t.blk.stg = { flash := s.blk.stg.flash } ∧
      t.blk.reg Reg.PWR_RST_CAUSE = (if pin then 2 else 4) ∧ t.blk.mode = 5 ∧ t.blk.flt = [] ∧ t.blk.sys.coarse = s.blk.sys.coarse ∧
      ∀ a, a ∉ [Reg.PWR_AON_STAT, Reg.PWR_RST_CAUSE, Reg.PWR_MODE, Reg.PWR_DOM_PEND] → t.blk.reg a = (regReset a).toNat)))) ∧
  (∀ (s : State) (m v : Nat), m = 13 ∨ m = 14 → s.blk.domOn 0 = true →
    (2 ≤ v % 64 → v % 64 < 32 → (∃ t, exec (.blockReset m v) s = .next t ∧ t.pending = s.pending ∧ (t.blk.frec (v % 64) = {} ∧
      (∀ e ∈ t.sems, e ∈ s.sems) ∧ t.blk.stg.force = s.blk.stg.force))) ∧
    (v % 64 ∈ [3, 20, 23, 30] → (s.blk.regs.map (·.1)).Nodup → (∃ t, exec (.blockReset m v) s = .next t ∧ t.pending = s.pending ∧
      (t.sems = s.sems ∧ t.blk.mem = s.blk.mem ∧
      ∀ a r i, a / 65536 * 65536 = blkBase (srcBlk (v % 64)).1 (srcBlk (v % 64)).2 → regRow a = some r → i < 32 →
        t.blk.rb a i = (if r.rws.testBit i then s.blk.rb a i else (regReset a).getLsbD i)))) ∧
    (v % 64 = 32 ∨ v % 64 = 33 → (∃ t, exec (.blockReset m v) s = .next t ∧ t.pending = s.pending ∧ (
      t.sems = s.sems.filter (fun e => e.2 != v % 64 - 18) ∧ (v % 64 = 32 → t.blk.sys.waiting = [] ∧ t.blk.sys.owed = [])))) ∧
    (v % 64 < 2 ∨ 33 < v % 64 → (∃ t, exec (.blockReset m v) s = .next t ∧ t.pending = s.pending ∧ (t.sems = s.sems ∧ t.blk.like s.blk))))

/-- R478 to R483: IMAGE_READ_DONE, BOOT_GO, TWIN_BOOT_PROPOSE and FIRMWARE_START complete: an image that passes starts distaff 0; one that fails,
or does not come, goes on to the next source; the host's and the twin's images; and what firmware does first. -/
def Obligations.Boot : Prop :=
  (∀ (s : State) (ok : Bool), s.blk.steady → s.blk.bootSt = btREADING → s.blk.sys.memErr = [] →
    let i := s.blk.rfld Reg.PWR_BOOT 7 1
    let img := s.blk.flashBytes (imageBase i) (imageLen (s.blk.flashBytes (imageBase i) 256))
    (ok = true → Yields (.imageReadDone ok) s (fun b => imageErr img = 0 → b.bootSt = btDONE ∧ b.sys.distaff0 = true ∧
      b.reg Reg.SYS_REMAP = 1 ∧ b.rdBytes sramBase img.length = img ∧ b.stg = s.blk.stg)) ∧
    (ok = false ∨ imageErr img ≠ 0 → Yields (.imageReadDone ok) s (fun b => b.sys.distaff0 = s.blk.sys.distaff0 ∧
      b.rfld Reg.PWR_BOOT 8 3 = (if ok then imageErr img else 5) ∧
      b.bootSt = (if i = 0 then btREADING else if s.blk.sys.bootSrc.toNat = 3 then btHOST else btFAILED) ∧
      (i = 0 → b.rfld Reg.PWR_BOOT 7 1 = 1)))) ∧
  (∀ (s : State) (m v : Nat), CanWrite m Reg.PWR_BOOT_GO s.blk → v < 2 ^ 32 → s.blk.bootSt = btHOST →
    let e := imageErr (s.blk.sramImage (some (min 0x1F0000 (s.blk.reg Reg.PWR_BOOT_LEN))))
    (13 ≤ m → v.testBit 0 = true → Yields (.bootGo m v) s (fun b => (e = 0 → b.bootSt = btDONE ∧ b.sys.distaff0 = true ∧
      b.reg Reg.SYS_REMAP = 1) ∧ (e ≠ 0 → b.bootSt = btHOST ∧ b.rfld Reg.PWR_BOOT 8 3 = e ∧ b.sys.distaff0 = s.blk.sys.distaff0))) ∧
    (13 ≤ m → v.testBit 0 = false → Yields (.bootGo m v) s (fun b => b.like s.blk))) ∧
  (∀ s : State, s.blk.bootSt = btTWIN → (s.blk.gwLane 1).up = true → Yields .twinBootPropose s (fun b =>
    LastQueued b 1 5 (draftPay 1 0 (leBytes 8 0)) ∧ b.regs = s.blk.regs)) ∧
  (∀ (s : State) (bad : Nat) (spns : List Nat) (fit : NodeFit), s.blk.bootSt = btDONE → s.blk.sys.distaff0 = true →
    s.blk.sys.firmware = false → s.blk.mode = 5 → Yields (.firmwareStart bad spns fit) s (fun b =>
      b.sys.firmware = true ∧ b.sys.testing = below 8 ∧ b.reg Reg.BSN_TEST = 256 + bad % 256 ∧ b.sys.wdogAt = s.blk.pclk ∧ b.mode = 5 ∧
      (∀ x ∈ spns, x < 64 → x ∈ b.crl.fmap) ∧
      (s.blk.domOn 12 = false → b.cst.fwCfg = some (if fit.cfg % 4 = 3 then 0 else fit.cfg % 16) ∧ b.cst.second = fit.second % 3) ∧
      b.rfld Reg.PWR_WAKE_BUDGET 0 16 = (if 400 ≤ fit.budget then fit.budget % 65536 else s.blk.rfld Reg.PWR_WAKE_BUDGET 0 16)))
end

