-- ==== Sys2Proof/Laws/Tab.lean ====
section
/-! SUPPORT. Sparse tables: a read after a write, a write of another key, and the canonical form, which every operation keeps. -/

namespace Sys2Proof.Machine

variable {β : Type}

@[simp] theorem tget_nil (d : β) (q : Nat) : tget d [] q = d := rfl

theorem tget_tins (d : β) (k : Nat) (v : β) (t : Tab β) (q : Nat) :
    tget d (tins k v t) q = if k = q ∧ ∀ a ∈ t, a.1 = k → False then v else if k = q then tget d (tins k v t) q else tget d t q := by
  induction t with
  | nil => by_cases h : k = q <;> simp [tins, tget, h]
  | cons a r ih =>
    obtain ⟨x, w⟩ := a
    by_cases h : k = q
    · subst h
      by_cases hr : ∀ a ∈ (x, w) :: r, a.1 = k → False
      · have hx : x ≠ k := fun e => hr (x, w) (by simp) e
        have hr' : ∀ a ∈ r, a.1 = k → False := fun a m => hr a (by simp [m])
        rw [if_pos ⟨rfl, hr⟩]
        by_cases hk : k < x
        · simp [tins, hk, tget]
        · have e : tins k v ((x, w) :: r) = (x, w) :: tins k v r := by simp [tins, hk]
          rw [e]; simp only [tget, hx, if_false]
          rw [ih, if_pos ⟨rfl, hr'⟩]
      · rw [if_neg (fun c => hr c.2), if_pos rfl]
    · rw [if_neg (fun c => h c.1), if_neg h]
      by_cases hk : k < x
      · simp [tins, hk, tget, h]
      · have e : tins k v ((x, w) :: r) = (x, w) :: tins k v r := by simp [tins, hk]
        have e2 : tget d (tins k v r) q = tget d r q := by rw [ih, if_neg (fun c => h c.1), if_neg h]
        rw [e]; simp only [tget, e2]

theorem tget_tdel_same (d : β) (k : Nat) (t : Tab β) : tget d (tdel k t) k = d := by
  induction t with
  | nil => rfl
  | cons a r ih =>
    obtain ⟨x, w⟩ := a
    by_cases h : x = k
    · simp [tdel, h, ih]
    · simp [tdel, tget, h, ih]

theorem tget_tdel_ne (d : β) (k q : Nat) (t : Tab β) (h : q ≠ k) : tget d (tdel k t) q = tget d t q := by
  induction t with
  | nil => rfl
  | cons a r ih =>
    obtain ⟨x, w⟩ := a
    by_cases hx : x = k
    · have : ¬ x = q := fun e => h (e.symm.trans hx)
      simp [tdel, hx, ih, tget]
      intro e; exact absurd e.symm h
    · simp [tdel, hx, tget, ih]

theorem key_tdel (k : Nat) (t : Tab β) : ∀ a ∈ tdel k t, a.1 = k → False := by
  induction t with
  | nil => simp [tdel]
  | cons a r ih =>
    by_cases h : a.1 = k
    · simpa [tdel, h] using ih
    · intro c hc e
      simp [tdel, h] at hc
      rcases hc with rfl | hc
      · exact h e
      · exact ih c hc e

/-- A read after a write of the same key gives the value written. -/
@[simp] theorem tget_tput_same [DecidableEq β] (d : β) (k : Nat) (v : β) (t : Tab β) : tget d (tput d k v t) k = v := by
  unfold tput
  split
  · next h => rw [tget_tdel_same, h]
  · rw [tget_tins, if_pos ⟨rfl, key_tdel k t⟩]

/-- A write leaves every other key alone. -/
theorem tget_tput_ne [DecidableEq β] (d e : β) (k q : Nat) (v : β) (t : Tab β) (h : q ≠ k) :
    tget e (tput d k v t) q = tget e t q := by
  unfold tput
  split
  · exact tget_tdel_ne e k q t h
  · rw [tget_tins, if_neg (fun c => h c.1.symm), if_neg (fun c => h c.symm), tget_tdel_ne e k q t h]

theorem tget_tput [DecidableEq β] (d : β) (k q : Nat) (v : β) (t : Tab β) :
    tget d (tput d k v t) q = if q = k then v else tget d t q := by
  by_cases h : q = k
  · subst h; simp
  · rw [tget_tput_ne d d k q v t h, if_neg h]

/-- A table in canonical form: each key below those after it, no entry holding the default. -/
theorem tabWf_cons [DecidableEq β] (d : β) (a : Nat × β) (r : Tab β) :
    tabWf d (a :: r) = true ↔ a.2 ≠ d ∧ (∀ c ∈ r, a.1 < c.1) ∧ tabWf d r = true := by
  induction r generalizing a with
  | nil => simp [tabWf]
  | cons b r ih =>
    constructor
    · intro h
      simp [tabWf] at h
      obtain ⟨⟨h1, h2⟩, h3⟩ := h
      refine ⟨h1, ?_, h3⟩
      intro c hc
      rcases List.mem_cons.1 hc with rfl | hc
      · exact h2
      · exact Nat.lt_trans h2 (((ih b).1 h3).2.1 c hc)
    · rintro ⟨h1, h2, h3⟩
      simp [tabWf]
      exact ⟨⟨h1, h2 b (by simp)⟩, h3⟩

theorem mem_tdel (k : Nat) (t : Tab β) (a : Nat × β) : a ∈ tdel k t ↔ a ∈ t ∧ a.1 ≠ k := by
  induction t with
  | nil => simp [tdel]
  | cons c r ih =>
    by_cases h : c.1 = k
    · simp [tdel, h, ih]
      intro hn e; exact absurd (e ▸ h) hn
    · simp [tdel, h, ih]
      constructor
      · rintro (rfl | ⟨m, hn⟩)
        · exact ⟨Or.inl rfl, h⟩
        · exact ⟨Or.inr m, hn⟩
      · rintro ⟨rfl | m, hn⟩
        · exact Or.inl rfl
        · exact Or.inr ⟨m, hn⟩

theorem mem_tins (k : Nat) (v : β) (t : Tab β) (a : Nat × β) : a ∈ tins k v t ↔ a = (k, v) ∨ a ∈ t := by
  induction t with
  | nil => simp [tins]
  | cons c r ih =>
    by_cases h : k < c.1
    · simp [tins, h]
    · simp [tins, h, ih]
      constructor
      · rintro (m | m | m)
        · exact Or.inr (Or.inl m)
        · exact Or.inl m
        · exact Or.inr (Or.inr m)
      · rintro (m | m | m)
        · exact Or.inr (Or.inl m)
        · exact Or.inl m
        · exact Or.inr (Or.inr m)

theorem tabWf_filter [DecidableEq β] (d : β) (p : Nat × β → Bool) (t : Tab β) (h : tabWf d t = true) : tabWf d (t.filter p) = true := by
  induction t with
  | nil => rfl
  | cons a r ih =>
    obtain ⟨h1, h2, h3⟩ := (tabWf_cons d a r).1 h
    by_cases hp : p a
    · simp only [List.filter_cons, hp, if_true]
      refine (tabWf_cons d a _).2 ⟨h1, ?_, ih h3⟩
      intro c hc; exact h2 c (List.mem_filter.1 hc).1
    · simp only [List.filter_cons, hp]
      exact ih h3

theorem tabWf_tdel [DecidableEq β] (d : β) (k : Nat) (t : Tab β) (h : tabWf d t = true) : tabWf d (tdel k t) = true := by
  induction t with
  | nil => rfl
  | cons a r ih =>
    obtain ⟨h1, h2, h3⟩ := (tabWf_cons d a r).1 h
    by_cases hk : a.1 = k
    · simpa [tdel, hk] using ih h3
    · simp only [tdel, hk, if_false]
      exact (tabWf_cons d a _).2 ⟨h1, fun c hc => h2 c ((mem_tdel k r c).1 hc).1, ih h3⟩

theorem tabWf_tins [DecidableEq β] (d : β) (k : Nat) (v : β) (t : Tab β) (hv : v ≠ d) (hk : ∀ a ∈ t, a.1 ≠ k)
    (h : tabWf d t = true) : tabWf d (tins k v t) = true := by
  induction t with
  | nil => simp [tins, tabWf, hv]
  | cons a r ih =>
    obtain ⟨h1, h2, h3⟩ := (tabWf_cons d a r).1 h
    by_cases hlt : k < a.1
    · simp only [tins, hlt, if_true]
      refine (tabWf_cons d _ _).2 ⟨hv, ?_, h⟩
      intro c hc
      rcases List.mem_cons.1 hc with rfl | hc
      · exact hlt
      · exact Nat.lt_trans hlt (h2 c hc)
    · simp only [tins, hlt, if_false]
      refine (tabWf_cons d _ _).2 ⟨h1, ?_, ih (fun c hc => hk c (by simp [hc])) h3⟩
      intro c hc
      rcases (mem_tins k v r c).1 hc with rfl | hc
      · have := hk a (by simp); simp only; omega
      · exact h2 c hc

/-- A write keeps the canonical form. -/
theorem tabWf_tput [DecidableEq β] (d : β) (k : Nat) (v : β) (t : Tab β) (h : tabWf d t = true) : tabWf d (tput d k v t) = true := by
  unfold tput
  split
  · exact tabWf_tdel d k t h
  · next hv => exact tabWf_tins d k v _ hv (fun a m => ((mem_tdel k t a).1 m).2) (tabWf_tdel d k t h)

/-- What a write leaves in a table: the entry written, or an entry that was there. -/
theorem mem_tput [DecidableEq β] (d : β) (k : Nat) (v : β) (t : Tab β) (a : Nat × β) (h : a ∈ tput d k v t) : a = (k, v) ∨ a ∈ t := by
  unfold tput at h
  split at h
  · exact Or.inr ((mem_tdel k t a).1 h).1
  · rcases (mem_tins k v _ a).1 h with h | h
    · exact Or.inl h
    · exact Or.inr ((mem_tdel k t a).1 h).1

end Sys2Proof.Machine
end

