-- ==== Sys2Proof/Laws/State.lean ====
section
/-! SUPPORT. One lemma per update of the block: every field it leaves as it was, and the field that it sets. -/

namespace Sys2Proof.Machine

variable (b : Block)

@[simp] theorem Block.setReg_frame (a v : Nat) :
    (b.setReg a v).out = b.out ∧ (b.setReg a v).free = b.free ∧ (b.setReg a v).flt = b.flt ∧
    (b.setReg a v).errPulse = b.errPulse ∧ (b.setReg a v).mem = b.mem ∧ (b.setReg a v).muted = b.muted ∧
    (b.setReg a v).muteFrom = b.muteFrom ∧ (b.setReg a v).stg = b.stg ∧ (b.setReg a v).loom = b.loom ∧
    (b.setReg a v).sluices = b.sluices ∧ (b.setReg a v).spns = b.spns ∧ (b.setReg a v).crl = b.crl ∧ (b.setReg a v).cst = b.cst ∧
    (b.setReg a v).net = b.net ∧ (b.setReg a v).tsu = b.tsu ∧ (b.setReg a v).wlh = b.wlh ∧ (b.setReg a v).par = b.par ∧
    (b.setReg a v).ril = b.ril ∧ (b.setReg a v).jet = b.jet ∧ (b.setReg a v).sys = b.sys ∧ (b.setReg a v).dFault = b.dFault ∧
    (b.setReg a v).cycle = b.cycle ∧ (b.setReg a v).escAcked = b.escAcked :=
  ⟨rfl, rfl, rfl, rfl, rfl, rfl, rfl, rfl, rfl, rfl, rfl, rfl, rfl, rfl, rfl, rfl, rfl, rfl, rfl, rfl, rfl, rfl, rfl⟩

@[simp] theorem Block.setRfld_frame (a lo n v : Nat) :
    (b.setRfld a lo n v).out = b.out ∧ (b.setRfld a lo n v).free = b.free ∧ (b.setRfld a lo n v).flt = b.flt ∧
    (b.setRfld a lo n v).errPulse = b.errPulse ∧ (b.setRfld a lo n v).mem = b.mem ∧ (b.setRfld a lo n v).muted = b.muted ∧
    (b.setRfld a lo n v).muteFrom = b.muteFrom ∧ (b.setRfld a lo n v).stg = b.stg ∧ (b.setRfld a lo n v).loom = b.loom ∧
    (b.setRfld a lo n v).sluices = b.sluices ∧ (b.setRfld a lo n v).spns = b.spns ∧ (b.setRfld a lo n v).crl = b.crl ∧
    (b.setRfld a lo n v).cst = b.cst ∧ (b.setRfld a lo n v).net = b.net ∧ (b.setRfld a lo n v).tsu = b.tsu ∧
    (b.setRfld a lo n v).wlh = b.wlh ∧ (b.setRfld a lo n v).par = b.par ∧ (b.setRfld a lo n v).ril = b.ril ∧
    (b.setRfld a lo n v).jet = b.jet ∧ (b.setRfld a lo n v).sys = b.sys ∧ (b.setRfld a lo n v).dFault = b.dFault ∧
    (b.setRfld a lo n v).cycle = b.cycle ∧ (b.setRfld a lo n v).escAcked = b.escAcked :=
  ⟨rfl, rfl, rfl, rfl, rfl, rfl, rfl, rfl, rfl, rfl, rfl, rfl, rfl, rfl, rfl, rfl, rfl, rfl, rfl, rfl, rfl, rfl, rfl⟩

@[simp] theorem Block.orReg_frame (a m : Nat) :
    (b.orReg a m).out = b.out ∧ (b.orReg a m).free = b.free ∧ (b.orReg a m).flt = b.flt ∧ (b.orReg a m).errPulse = b.errPulse ∧
    (b.orReg a m).mem = b.mem ∧ (b.orReg a m).muted = b.muted ∧ (b.orReg a m).muteFrom = b.muteFrom ∧ (b.orReg a m).stg = b.stg ∧
    (b.orReg a m).loom = b.loom ∧ (b.orReg a m).sluices = b.sluices ∧ (b.orReg a m).spns = b.spns ∧ (b.orReg a m).crl = b.crl ∧
    (b.orReg a m).cst = b.cst ∧ (b.orReg a m).net = b.net ∧ (b.orReg a m).tsu = b.tsu ∧ (b.orReg a m).wlh = b.wlh ∧
    (b.orReg a m).par = b.par ∧ (b.orReg a m).ril = b.ril ∧ (b.orReg a m).jet = b.jet ∧ (b.orReg a m).sys = b.sys ∧
    (b.orReg a m).dFault = b.dFault ∧ (b.orReg a m).cycle = b.cycle ∧ (b.orReg a m).escAcked = b.escAcked :=
  ⟨rfl, rfl, rfl, rfl, rfl, rfl, rfl, rfl, rfl, rfl, rfl, rfl, rfl, rfl, rfl, rfl, rfl, rfl, rfl, rfl, rfl, rfl, rfl⟩

@[simp] theorem Block.setInt_frame (a i : Nat) :
    (b.setInt a i).out = b.out ∧ (b.setInt a i).free = b.free ∧ (b.setInt a i).flt = b.flt ∧
    (b.setInt a i).errPulse = b.errPulse ∧ (b.setInt a i).mem = b.mem ∧ (b.setInt a i).muted = b.muted ∧
    (b.setInt a i).muteFrom = b.muteFrom ∧ (b.setInt a i).stg = b.stg ∧ (b.setInt a i).loom = b.loom ∧
    (b.setInt a i).sluices = b.sluices ∧ (b.setInt a i).spns = b.spns ∧ (b.setInt a i).crl = b.crl ∧ (b.setInt a i).cst = b.cst ∧
    (b.setInt a i).net = b.net ∧ (b.setInt a i).tsu = b.tsu ∧ (b.setInt a i).wlh = b.wlh ∧ (b.setInt a i).par = b.par ∧
    (b.setInt a i).ril = b.ril ∧ (b.setInt a i).jet = b.jet ∧ (b.setInt a i).sys = b.sys ∧ (b.setInt a i).dFault = b.dFault ∧
    (b.setInt a i).cycle = b.cycle ∧ (b.setInt a i).escAcked = b.escAcked :=
  ⟨rfl, rfl, rfl, rfl, rfl, rfl, rfl, rfl, rfl, rfl, rfl, rfl, rfl, rfl, rfl, rfl, rfl, rfl, rfl, rfl, rfl, rfl, rfl⟩

@[simp] theorem Block.clrBit_frame (a i : Nat) :
    (b.clrBit a i).out = b.out ∧ (b.clrBit a i).free = b.free ∧ (b.clrBit a i).flt = b.flt ∧
    (b.clrBit a i).errPulse = b.errPulse ∧ (b.clrBit a i).mem = b.mem ∧ (b.clrBit a i).muted = b.muted ∧
    (b.clrBit a i).muteFrom = b.muteFrom ∧ (b.clrBit a i).stg = b.stg ∧ (b.clrBit a i).loom = b.loom ∧
    (b.clrBit a i).sluices = b.sluices ∧ (b.clrBit a i).spns = b.spns ∧ (b.clrBit a i).crl = b.crl ∧ (b.clrBit a i).cst = b.cst ∧
    (b.clrBit a i).net = b.net ∧ (b.clrBit a i).tsu = b.tsu ∧ (b.clrBit a i).wlh = b.wlh ∧ (b.clrBit a i).par = b.par ∧
    (b.clrBit a i).ril = b.ril ∧ (b.clrBit a i).jet = b.jet ∧ (b.clrBit a i).sys = b.sys ∧ (b.clrBit a i).dFault = b.dFault ∧
    (b.clrBit a i).cycle = b.cycle ∧ (b.clrBit a i).escAcked = b.escAcked :=
  ⟨rfl, rfl, rfl, rfl, rfl, rfl, rfl, rfl, rfl, rfl, rfl, rfl, rfl, rfl, rfl, rfl, rfl, rfl, rfl, rfl, rfl, rfl, rfl⟩

@[simp] theorem Block.count_frame (a lo n k : Nat) :
    (b.count a lo n k).out = b.out ∧ (b.count a lo n k).free = b.free ∧ (b.count a lo n k).flt = b.flt ∧
    (b.count a lo n k).errPulse = b.errPulse ∧ (b.count a lo n k).mem = b.mem ∧ (b.count a lo n k).muted = b.muted ∧
    (b.count a lo n k).muteFrom = b.muteFrom ∧ (b.count a lo n k).stg = b.stg ∧ (b.count a lo n k).loom = b.loom ∧
    (b.count a lo n k).sluices = b.sluices ∧ (b.count a lo n k).spns = b.spns ∧ (b.count a lo n k).crl = b.crl ∧
    (b.count a lo n k).cst = b.cst ∧ (b.count a lo n k).net = b.net ∧ (b.count a lo n k).tsu = b.tsu ∧
    (b.count a lo n k).wlh = b.wlh ∧ (b.count a lo n k).par = b.par ∧ (b.count a lo n k).ril = b.ril ∧
    (b.count a lo n k).jet = b.jet ∧ (b.count a lo n k).sys = b.sys ∧ (b.count a lo n k).dFault = b.dFault ∧
    (b.count a lo n k).cycle = b.cycle ∧ (b.count a lo n k).escAcked = b.escAcked :=
  ⟨rfl, rfl, rfl, rfl, rfl, rfl, rfl, rfl, rfl, rfl, rfl, rfl, rfl, rfl, rfl, rfl, rfl, rfl, rfl, rfl, rfl, rfl, rfl⟩

@[simp] theorem Block.setReg64_frame (lo hi v : Nat) :
    (b.setReg64 lo hi v).out = b.out ∧ (b.setReg64 lo hi v).free = b.free ∧ (b.setReg64 lo hi v).flt = b.flt ∧
    (b.setReg64 lo hi v).errPulse = b.errPulse ∧ (b.setReg64 lo hi v).mem = b.mem ∧ (b.setReg64 lo hi v).muted = b.muted ∧
    (b.setReg64 lo hi v).muteFrom = b.muteFrom ∧ (b.setReg64 lo hi v).stg = b.stg ∧ (b.setReg64 lo hi v).loom = b.loom ∧
    (b.setReg64 lo hi v).sluices = b.sluices ∧ (b.setReg64 lo hi v).spns = b.spns ∧ (b.setReg64 lo hi v).crl = b.crl ∧
    (b.setReg64 lo hi v).cst = b.cst ∧ (b.setReg64 lo hi v).net = b.net ∧ (b.setReg64 lo hi v).tsu = b.tsu ∧
    (b.setReg64 lo hi v).wlh = b.wlh ∧ (b.setReg64 lo hi v).par = b.par ∧ (b.setReg64 lo hi v).ril = b.ril ∧
    (b.setReg64 lo hi v).jet = b.jet ∧ (b.setReg64 lo hi v).sys = b.sys ∧ (b.setReg64 lo hi v).dFault = b.dFault ∧
    (b.setReg64 lo hi v).cycle = b.cycle ∧ (b.setReg64 lo hi v).escAcked = b.escAcked :=
  ⟨rfl, rfl, rfl, rfl, rfl, rfl, rfl, rfl, rfl, rfl, rfl, rfl, rfl, rfl, rfl, rfl, rfl, rfl, rfl, rfl, rfl, rfl, rfl⟩

@[simp] theorem Block.emit_frame (o : Output) :
    (b.emit o).free = b.free ∧ (b.emit o).regs = b.regs ∧ (b.emit o).flt = b.flt ∧ (b.emit o).errPulse = b.errPulse ∧
    (b.emit o).mem = b.mem ∧ (b.emit o).muted = b.muted ∧ (b.emit o).muteFrom = b.muteFrom ∧ (b.emit o).stg = b.stg ∧
    (b.emit o).loom = b.loom ∧ (b.emit o).sluices = b.sluices ∧ (b.emit o).spns = b.spns ∧ (b.emit o).crl = b.crl ∧
    (b.emit o).cst = b.cst ∧ (b.emit o).net = b.net ∧ (b.emit o).tsu = b.tsu ∧ (b.emit o).wlh = b.wlh ∧ (b.emit o).par = b.par ∧
    (b.emit o).ril = b.ril ∧ (b.emit o).jet = b.jet ∧ (b.emit o).sys = b.sys ∧ (b.emit o).dFault = b.dFault ∧
    (b.emit o).cycle = b.cycle ∧ (b.emit o).escAcked = b.escAcked :=
  ⟨rfl, rfl, rfl, rfl, rfl, rfl, rfl, rfl, rfl, rfl, rfl, rfl, rfl, rfl, rfl, rfl, rfl, rfl, rfl, rfl, rfl, rfl, rfl⟩

@[simp] theorem Block.setRec_frame (k : Nat) (r : FltRec) :
    (b.setRec k r).out = b.out ∧ (b.setRec k r).free = b.free ∧ (b.setRec k r).regs = b.regs ∧
    (b.setRec k r).errPulse = b.errPulse ∧ (b.setRec k r).mem = b.mem ∧ (b.setRec k r).muted = b.muted ∧
    (b.setRec k r).muteFrom = b.muteFrom ∧ (b.setRec k r).stg = b.stg ∧ (b.setRec k r).loom = b.loom ∧
    (b.setRec k r).sluices = b.sluices ∧ (b.setRec k r).spns = b.spns ∧ (b.setRec k r).crl = b.crl ∧ (b.setRec k r).cst = b.cst ∧
    (b.setRec k r).net = b.net ∧ (b.setRec k r).tsu = b.tsu ∧ (b.setRec k r).wlh = b.wlh ∧ (b.setRec k r).par = b.par ∧
    (b.setRec k r).ril = b.ril ∧ (b.setRec k r).jet = b.jet ∧ (b.setRec k r).sys = b.sys ∧ (b.setRec k r).dFault = b.dFault ∧
    (b.setRec k r).cycle = b.cycle ∧ (b.setRec k r).escAcked = b.escAcked :=
  ⟨rfl, rfl, rfl, rfl, rfl, rfl, rfl, rfl, rfl, rfl, rfl, rfl, rfl, rfl, rfl, rfl, rfl, rfl, rfl, rfl, rfl, rfl, rfl⟩

@[simp] theorem Block.ack_frame (k : Nat) :
    (b.ack k).out = b.out ∧ (b.ack k).free = b.free ∧ (b.ack k).regs = b.regs ∧ (b.ack k).errPulse = b.errPulse ∧
    (b.ack k).mem = b.mem ∧ (b.ack k).muted = b.muted ∧ (b.ack k).muteFrom = b.muteFrom ∧ (b.ack k).stg = b.stg ∧
    (b.ack k).loom = b.loom ∧ (b.ack k).sluices = b.sluices ∧ (b.ack k).spns = b.spns ∧ (b.ack k).crl = b.crl ∧
    (b.ack k).cst = b.cst ∧ (b.ack k).net = b.net ∧ (b.ack k).tsu = b.tsu ∧ (b.ack k).wlh = b.wlh ∧ (b.ack k).par = b.par ∧
    (b.ack k).ril = b.ril ∧ (b.ack k).jet = b.jet ∧ (b.ack k).sys = b.sys ∧ (b.ack k).dFault = b.dFault ∧
    (b.ack k).cycle = b.cycle :=
  ⟨rfl, rfl, rfl, rfl, rfl, rfl, rfl, rfl, rfl, rfl, rfl, rfl, rfl, rfl, rfl, rfl, rfl, rfl, rfl, rfl, rfl, rfl⟩

@[simp] theorem Block.raise_frame (k code cls spec unit : Nat) :
    (b.raise k code cls spec unit).out = b.out ∧ (b.raise k code cls spec unit).free = b.free ∧
    (b.raise k code cls spec unit).regs = b.regs ∧ (b.raise k code cls spec unit).mem = b.mem ∧
    (b.raise k code cls spec unit).muted = b.muted ∧ (b.raise k code cls spec unit).muteFrom = b.muteFrom ∧
    (b.raise k code cls spec unit).stg = b.stg ∧ (b.raise k code cls spec unit).loom = b.loom ∧
    (b.raise k code cls spec unit).sluices = b.sluices ∧ (b.raise k code cls spec unit).spns = b.spns ∧
    (b.raise k code cls spec unit).crl = b.crl ∧ (b.raise k code cls spec unit).cst = b.cst ∧
    (b.raise k code cls spec unit).net = b.net ∧ (b.raise k code cls spec unit).tsu = b.tsu ∧
    (b.raise k code cls spec unit).wlh = b.wlh ∧ (b.raise k code cls spec unit).par = b.par ∧
    (b.raise k code cls spec unit).ril = b.ril ∧ (b.raise k code cls spec unit).jet = b.jet ∧
    (b.raise k code cls spec unit).sys = b.sys ∧ (b.raise k code cls spec unit).escAcked = b.escAcked :=
  ⟨rfl, rfl, rfl, rfl, rfl, rfl, rfl, rfl, rfl, rfl, rfl, rfl, rfl, rfl, rfl, rfl, rfl, rfl, rfl, rfl⟩

@[simp] theorem Block.mtxFault_frame (code m a : Nat) (w : Bool) :
    (b.mtxFault code m a w).out = b.out ∧ (b.mtxFault code m a w).free = b.free ∧ (b.mtxFault code m a w).mem = b.mem ∧
    (b.mtxFault code m a w).muted = b.muted ∧ (b.mtxFault code m a w).muteFrom = b.muteFrom ∧
    (b.mtxFault code m a w).stg = b.stg ∧ (b.mtxFault code m a w).loom = b.loom ∧ (b.mtxFault code m a w).sluices = b.sluices ∧
    (b.mtxFault code m a w).spns = b.spns ∧ (b.mtxFault code m a w).crl = b.crl ∧ (b.mtxFault code m a w).cst = b.cst ∧
    (b.mtxFault code m a w).net = b.net ∧ (b.mtxFault code m a w).tsu = b.tsu ∧ (b.mtxFault code m a w).wlh = b.wlh ∧
    (b.mtxFault code m a w).par = b.par ∧ (b.mtxFault code m a w).ril = b.ril ∧ (b.mtxFault code m a w).jet = b.jet ∧
    (b.mtxFault code m a w).sys = b.sys ∧ (b.mtxFault code m a w).escAcked = b.escAcked := by
  simp [Block.mtxFault]

@[simp] theorem Block.setMute_frame (c : Nat) (on : Bool) (p : Nat) :
    (b.setMute c on p).out = b.out ∧ (b.setMute c on p).free = b.free ∧ (b.setMute c on p).regs = b.regs ∧
    (b.setMute c on p).flt = b.flt ∧ (b.setMute c on p).errPulse = b.errPulse ∧ (b.setMute c on p).mem = b.mem ∧
    (b.setMute c on p).muteFrom = b.muteFrom ∧ (b.setMute c on p).stg = b.stg ∧ (b.setMute c on p).loom = b.loom ∧
    (b.setMute c on p).sluices = b.sluices ∧ (b.setMute c on p).spns = b.spns ∧ (b.setMute c on p).crl = b.crl ∧
    (b.setMute c on p).cst = b.cst ∧ (b.setMute c on p).net = b.net ∧ (b.setMute c on p).tsu = b.tsu ∧
    (b.setMute c on p).wlh = b.wlh ∧ (b.setMute c on p).par = b.par ∧ (b.setMute c on p).ril = b.ril ∧
    (b.setMute c on p).jet = b.jet ∧ (b.setMute c on p).sys = b.sys ∧ (b.setMute c on p).dFault = b.dFault ∧
    (b.setMute c on p).cycle = b.cycle ∧ (b.setMute c on p).escAcked = b.escAcked :=
  ⟨rfl, rfl, rfl, rfl, rfl, rfl, rfl, rfl, rfl, rfl, rfl, rfl, rfl, rfl, rfl, rfl, rfl, rfl, rfl, rfl, rfl, rfl, rfl⟩

@[simp] theorem Block.setLane_frame (l s : Nat) (v : Int) :
    (b.setLane l s v).out = b.out ∧ (b.setLane l s v).free = b.free ∧ (b.setLane l s v).regs = b.regs ∧
    (b.setLane l s v).flt = b.flt ∧ (b.setLane l s v).errPulse = b.errPulse ∧ (b.setLane l s v).mem = b.mem ∧
    (b.setLane l s v).muted = b.muted ∧ (b.setLane l s v).muteFrom = b.muteFrom ∧ (b.setLane l s v).stg = b.stg ∧
    (b.setLane l s v).sluices = b.sluices ∧ (b.setLane l s v).spns = b.spns ∧ (b.setLane l s v).crl = b.crl ∧
    (b.setLane l s v).cst = b.cst ∧ (b.setLane l s v).net = b.net ∧ (b.setLane l s v).tsu = b.tsu ∧
    (b.setLane l s v).wlh = b.wlh ∧ (b.setLane l s v).par = b.par ∧ (b.setLane l s v).ril = b.ril ∧
    (b.setLane l s v).jet = b.jet ∧ (b.setLane l s v).sys = b.sys ∧ (b.setLane l s v).dFault = b.dFault ∧
    (b.setLane l s v).cycle = b.cycle ∧ (b.setLane l s v).escAcked = b.escAcked :=
  ⟨rfl, rfl, rfl, rfl, rfl, rfl, rfl, rfl, rfl, rfl, rfl, rfl, rfl, rfl, rfl, rfl, rfl, rfl, rfl, rfl, rfl, rfl, rfl⟩

@[simp] theorem Block.hardStopNext_frame  :
    (b.hardStopNext).out = b.out ∧ (b.hardStopNext).free = b.free ∧ (b.hardStopNext).regs = b.regs ∧
    (b.hardStopNext).flt = b.flt ∧ (b.hardStopNext).errPulse = b.errPulse ∧ (b.hardStopNext).mem = b.mem ∧
    (b.hardStopNext).muted = b.muted ∧ (b.hardStopNext).muteFrom = b.muteFrom ∧ (b.hardStopNext).stg = b.stg ∧
    (b.hardStopNext).loom = b.loom ∧ (b.hardStopNext).sluices = b.sluices ∧ (b.hardStopNext).spns = b.spns ∧
    (b.hardStopNext).crl = b.crl ∧ (b.hardStopNext).cst = b.cst ∧ (b.hardStopNext).net = b.net ∧ (b.hardStopNext).tsu = b.tsu ∧
    (b.hardStopNext).wlh = b.wlh ∧ (b.hardStopNext).par = b.par ∧ (b.hardStopNext).ril = b.ril ∧ (b.hardStopNext).sys = b.sys ∧
    (b.hardStopNext).dFault = b.dFault ∧ (b.hardStopNext).cycle = b.cycle ∧ (b.hardStopNext).escAcked = b.escAcked :=
  ⟨rfl, rfl, rfl, rfl, rfl, rfl, rfl, rfl, rfl, rfl, rfl, rfl, rfl, rfl, rfl, rfl, rfl, rfl, rfl, rfl, rfl, rfl, rfl⟩

@[simp] theorem Block.setSys_frame (f : Sys → Sys) :
    (b.setSys f).out = b.out ∧ (b.setSys f).free = b.free ∧ (b.setSys f).regs = b.regs ∧ (b.setSys f).flt = b.flt ∧
    (b.setSys f).errPulse = b.errPulse ∧ (b.setSys f).mem = b.mem ∧ (b.setSys f).muted = b.muted ∧
    (b.setSys f).muteFrom = b.muteFrom ∧ (b.setSys f).stg = b.stg ∧ (b.setSys f).loom = b.loom ∧
    (b.setSys f).sluices = b.sluices ∧ (b.setSys f).spns = b.spns ∧ (b.setSys f).crl = b.crl ∧ (b.setSys f).cst = b.cst ∧
    (b.setSys f).net = b.net ∧ (b.setSys f).tsu = b.tsu ∧ (b.setSys f).wlh = b.wlh ∧ (b.setSys f).par = b.par ∧
    (b.setSys f).ril = b.ril ∧ (b.setSys f).jet = b.jet ∧ (b.setSys f).dFault = b.dFault ∧ (b.setSys f).cycle = b.cycle ∧
    (b.setSys f).escAcked = b.escAcked ∧ (b.setSys f).sys = f b.sys :=
  ⟨rfl, rfl, rfl, rfl, rfl, rfl, rfl, rfl, rfl, rfl, rfl, rfl, rfl, rfl, rfl, rfl, rfl, rfl, rfl, rfl, rfl, rfl, rfl, rfl⟩

@[simp] theorem Block.setPar_frame (f : Par → Par) :
    (b.setPar f).out = b.out ∧ (b.setPar f).free = b.free ∧ (b.setPar f).regs = b.regs ∧ (b.setPar f).flt = b.flt ∧
    (b.setPar f).errPulse = b.errPulse ∧ (b.setPar f).mem = b.mem ∧ (b.setPar f).muted = b.muted ∧
    (b.setPar f).muteFrom = b.muteFrom ∧ (b.setPar f).stg = b.stg ∧ (b.setPar f).loom = b.loom ∧
    (b.setPar f).sluices = b.sluices ∧ (b.setPar f).spns = b.spns ∧ (b.setPar f).crl = b.crl ∧ (b.setPar f).cst = b.cst ∧
    (b.setPar f).net = b.net ∧ (b.setPar f).tsu = b.tsu ∧ (b.setPar f).wlh = b.wlh ∧ (b.setPar f).ril = b.ril ∧
    (b.setPar f).jet = b.jet ∧ (b.setPar f).sys = b.sys ∧ (b.setPar f).dFault = b.dFault ∧ (b.setPar f).cycle = b.cycle ∧
    (b.setPar f).escAcked = b.escAcked ∧ (b.setPar f).par = f b.par :=
  ⟨rfl, rfl, rfl, rfl, rfl, rfl, rfl, rfl, rfl, rfl, rfl, rfl, rfl, rfl, rfl, rfl, rfl, rfl, rfl, rfl, rfl, rfl, rfl, rfl⟩

@[simp] theorem Block.setStg_frame (f : Staging → Staging) :
    (b.setStg f).out = b.out ∧ (b.setStg f).free = b.free ∧ (b.setStg f).regs = b.regs ∧ (b.setStg f).flt = b.flt ∧
    (b.setStg f).errPulse = b.errPulse ∧ (b.setStg f).mem = b.mem ∧ (b.setStg f).muted = b.muted ∧
    (b.setStg f).muteFrom = b.muteFrom ∧ (b.setStg f).loom = b.loom ∧ (b.setStg f).sluices = b.sluices ∧
    (b.setStg f).spns = b.spns ∧ (b.setStg f).crl = b.crl ∧ (b.setStg f).cst = b.cst ∧ (b.setStg f).net = b.net ∧
    (b.setStg f).tsu = b.tsu ∧ (b.setStg f).wlh = b.wlh ∧ (b.setStg f).par = b.par ∧ (b.setStg f).ril = b.ril ∧
    (b.setStg f).jet = b.jet ∧ (b.setStg f).sys = b.sys ∧ (b.setStg f).dFault = b.dFault ∧ (b.setStg f).cycle = b.cycle ∧
    (b.setStg f).escAcked = b.escAcked ∧ (b.setStg f).stg = f b.stg :=
  ⟨rfl, rfl, rfl, rfl, rfl, rfl, rfl, rfl, rfl, rfl, rfl, rfl, rfl, rfl, rfl, rfl, rfl, rfl, rfl, rfl, rfl, rfl, rfl, rfl⟩

@[simp] theorem Block.setCst_frame (f : Cistern → Cistern) :
    (b.setCst f).out = b.out ∧ (b.setCst f).free = b.free ∧ (b.setCst f).regs = b.regs ∧ (b.setCst f).flt = b.flt ∧
    (b.setCst f).errPulse = b.errPulse ∧ (b.setCst f).mem = b.mem ∧ (b.setCst f).muted = b.muted ∧
    (b.setCst f).muteFrom = b.muteFrom ∧ (b.setCst f).stg = b.stg ∧ (b.setCst f).loom = b.loom ∧
    (b.setCst f).sluices = b.sluices ∧ (b.setCst f).spns = b.spns ∧ (b.setCst f).crl = b.crl ∧ (b.setCst f).net = b.net ∧
    (b.setCst f).tsu = b.tsu ∧ (b.setCst f).wlh = b.wlh ∧ (b.setCst f).par = b.par ∧ (b.setCst f).ril = b.ril ∧
    (b.setCst f).jet = b.jet ∧ (b.setCst f).sys = b.sys ∧ (b.setCst f).dFault = b.dFault ∧ (b.setCst f).cycle = b.cycle ∧
    (b.setCst f).escAcked = b.escAcked ∧ (b.setCst f).cst = f b.cst :=
  ⟨rfl, rfl, rfl, rfl, rfl, rfl, rfl, rfl, rfl, rfl, rfl, rfl, rfl, rfl, rfl, rfl, rfl, rfl, rfl, rfl, rfl, rfl, rfl, rfl⟩

@[simp] theorem Block.setCrl_frame (f : Creel → Creel) :
    (b.setCrl f).out = b.out ∧ (b.setCrl f).free = b.free ∧ (b.setCrl f).regs = b.regs ∧ (b.setCrl f).flt = b.flt ∧
    (b.setCrl f).errPulse = b.errPulse ∧ (b.setCrl f).mem = b.mem ∧ (b.setCrl f).muted = b.muted ∧
    (b.setCrl f).muteFrom = b.muteFrom ∧ (b.setCrl f).stg = b.stg ∧ (b.setCrl f).loom = b.loom ∧
    (b.setCrl f).sluices = b.sluices ∧ (b.setCrl f).spns = b.spns ∧ (b.setCrl f).cst = b.cst ∧ (b.setCrl f).net = b.net ∧
    (b.setCrl f).tsu = b.tsu ∧ (b.setCrl f).wlh = b.wlh ∧ (b.setCrl f).par = b.par ∧ (b.setCrl f).ril = b.ril ∧
    (b.setCrl f).jet = b.jet ∧ (b.setCrl f).sys = b.sys ∧ (b.setCrl f).dFault = b.dFault ∧ (b.setCrl f).cycle = b.cycle ∧
    (b.setCrl f).escAcked = b.escAcked ∧ (b.setCrl f).crl = f b.crl :=
  ⟨rfl, rfl, rfl, rfl, rfl, rfl, rfl, rfl, rfl, rfl, rfl, rfl, rfl, rfl, rfl, rfl, rfl, rfl, rfl, rfl, rfl, rfl, rfl, rfl⟩

@[simp] theorem Block.setLoom_frame (f : Loom → Loom) :
    (b.setLoom f).out = b.out ∧ (b.setLoom f).free = b.free ∧ (b.setLoom f).regs = b.regs ∧ (b.setLoom f).flt = b.flt ∧
    (b.setLoom f).errPulse = b.errPulse ∧ (b.setLoom f).mem = b.mem ∧ (b.setLoom f).muted = b.muted ∧
    (b.setLoom f).muteFrom = b.muteFrom ∧ (b.setLoom f).stg = b.stg ∧ (b.setLoom f).sluices = b.sluices ∧
    (b.setLoom f).spns = b.spns ∧ (b.setLoom f).crl = b.crl ∧ (b.setLoom f).cst = b.cst ∧ (b.setLoom f).net = b.net ∧
    (b.setLoom f).tsu = b.tsu ∧ (b.setLoom f).wlh = b.wlh ∧ (b.setLoom f).par = b.par ∧ (b.setLoom f).ril = b.ril ∧
    (b.setLoom f).jet = b.jet ∧ (b.setLoom f).sys = b.sys ∧ (b.setLoom f).dFault = b.dFault ∧ (b.setLoom f).cycle = b.cycle ∧
    (b.setLoom f).escAcked = b.escAcked ∧ (b.setLoom f).loom = f b.loom :=
  ⟨rfl, rfl, rfl, rfl, rfl, rfl, rfl, rfl, rfl, rfl, rfl, rfl, rfl, rfl, rfl, rfl, rfl, rfl, rfl, rfl, rfl, rfl, rfl, rfl⟩

@[simp] theorem Block.setJets_frame (f : Jets → Jets) :
    (b.setJets f).out = b.out ∧ (b.setJets f).free = b.free ∧ (b.setJets f).regs = b.regs ∧ (b.setJets f).flt = b.flt ∧
    (b.setJets f).errPulse = b.errPulse ∧ (b.setJets f).mem = b.mem ∧ (b.setJets f).muted = b.muted ∧
    (b.setJets f).muteFrom = b.muteFrom ∧ (b.setJets f).stg = b.stg ∧ (b.setJets f).loom = b.loom ∧
    (b.setJets f).sluices = b.sluices ∧ (b.setJets f).spns = b.spns ∧ (b.setJets f).crl = b.crl ∧ (b.setJets f).cst = b.cst ∧
    (b.setJets f).net = b.net ∧ (b.setJets f).tsu = b.tsu ∧ (b.setJets f).wlh = b.wlh ∧ (b.setJets f).par = b.par ∧
    (b.setJets f).ril = b.ril ∧ (b.setJets f).sys = b.sys ∧ (b.setJets f).dFault = b.dFault ∧ (b.setJets f).cycle = b.cycle ∧
    (b.setJets f).escAcked = b.escAcked ∧ (b.setJets f).jet = f b.jet :=
  ⟨rfl, rfl, rfl, rfl, rfl, rfl, rfl, rfl, rfl, rfl, rfl, rfl, rfl, rfl, rfl, rfl, rfl, rfl, rfl, rfl, rfl, rfl, rfl, rfl⟩

@[simp] theorem Block.setRil_frame (f : Ril → Ril) :
    (b.setRil f).out = b.out ∧ (b.setRil f).free = b.free ∧ (b.setRil f).regs = b.regs ∧ (b.setRil f).flt = b.flt ∧
    (b.setRil f).errPulse = b.errPulse ∧ (b.setRil f).mem = b.mem ∧ (b.setRil f).muted = b.muted ∧
    (b.setRil f).muteFrom = b.muteFrom ∧ (b.setRil f).stg = b.stg ∧ (b.setRil f).loom = b.loom ∧
    (b.setRil f).sluices = b.sluices ∧ (b.setRil f).spns = b.spns ∧ (b.setRil f).crl = b.crl ∧ (b.setRil f).cst = b.cst ∧
    (b.setRil f).net = b.net ∧ (b.setRil f).tsu = b.tsu ∧ (b.setRil f).wlh = b.wlh ∧ (b.setRil f).par = b.par ∧
    (b.setRil f).jet = b.jet ∧ (b.setRil f).sys = b.sys ∧ (b.setRil f).dFault = b.dFault ∧ (b.setRil f).cycle = b.cycle ∧
    (b.setRil f).escAcked = b.escAcked ∧ (b.setRil f).ril = f b.ril :=
  ⟨rfl, rfl, rfl, rfl, rfl, rfl, rfl, rfl, rfl, rfl, rfl, rfl, rfl, rfl, rfl, rfl, rfl, rfl, rfl, rfl, rfl, rfl, rfl, rfl⟩

@[simp] theorem Block.setTsu_frame (f : Tsu → Tsu) :
    (b.setTsu f).out = b.out ∧ (b.setTsu f).free = b.free ∧ (b.setTsu f).regs = b.regs ∧ (b.setTsu f).flt = b.flt ∧
    (b.setTsu f).errPulse = b.errPulse ∧ (b.setTsu f).mem = b.mem ∧ (b.setTsu f).muted = b.muted ∧
    (b.setTsu f).muteFrom = b.muteFrom ∧ (b.setTsu f).stg = b.stg ∧ (b.setTsu f).loom = b.loom ∧
    (b.setTsu f).sluices = b.sluices ∧ (b.setTsu f).spns = b.spns ∧ (b.setTsu f).crl = b.crl ∧ (b.setTsu f).cst = b.cst ∧
    (b.setTsu f).net = b.net ∧ (b.setTsu f).wlh = b.wlh ∧ (b.setTsu f).par = b.par ∧ (b.setTsu f).ril = b.ril ∧
    (b.setTsu f).jet = b.jet ∧ (b.setTsu f).sys = b.sys ∧ (b.setTsu f).dFault = b.dFault ∧ (b.setTsu f).cycle = b.cycle ∧
    (b.setTsu f).escAcked = b.escAcked ∧ (b.setTsu f).tsu = f b.tsu :=
  ⟨rfl, rfl, rfl, rfl, rfl, rfl, rfl, rfl, rfl, rfl, rfl, rfl, rfl, rfl, rfl, rfl, rfl, rfl, rfl, rfl, rfl, rfl, rfl, rfl⟩

@[simp] theorem Block.setWlh_frame (f : Wlh → Wlh) :
    (b.setWlh f).out = b.out ∧ (b.setWlh f).free = b.free ∧ (b.setWlh f).regs = b.regs ∧ (b.setWlh f).flt = b.flt ∧
    (b.setWlh f).errPulse = b.errPulse ∧ (b.setWlh f).mem = b.mem ∧ (b.setWlh f).muted = b.muted ∧
    (b.setWlh f).muteFrom = b.muteFrom ∧ (b.setWlh f).stg = b.stg ∧ (b.setWlh f).loom = b.loom ∧
    (b.setWlh f).sluices = b.sluices ∧ (b.setWlh f).spns = b.spns ∧ (b.setWlh f).crl = b.crl ∧ (b.setWlh f).cst = b.cst ∧
    (b.setWlh f).net = b.net ∧ (b.setWlh f).tsu = b.tsu ∧ (b.setWlh f).par = b.par ∧ (b.setWlh f).ril = b.ril ∧
    (b.setWlh f).jet = b.jet ∧ (b.setWlh f).sys = b.sys ∧ (b.setWlh f).dFault = b.dFault ∧ (b.setWlh f).cycle = b.cycle ∧
    (b.setWlh f).escAcked = b.escAcked ∧ (b.setWlh f).wlh = f b.wlh :=
  ⟨rfl, rfl, rfl, rfl, rfl, rfl, rfl, rfl, rfl, rfl, rfl, rfl, rfl, rfl, rfl, rfl, rfl, rfl, rfl, rfl, rfl, rfl, rfl, rfl⟩

@[simp] theorem Block.setJet_frame (n : Nat) (x : Jet) :
    (b.setJet n x).out = b.out ∧ (b.setJet n x).free = b.free ∧ (b.setJet n x).regs = b.regs ∧ (b.setJet n x).flt = b.flt ∧
    (b.setJet n x).errPulse = b.errPulse ∧ (b.setJet n x).mem = b.mem ∧ (b.setJet n x).muted = b.muted ∧
    (b.setJet n x).muteFrom = b.muteFrom ∧ (b.setJet n x).stg = b.stg ∧ (b.setJet n x).loom = b.loom ∧
    (b.setJet n x).sluices = b.sluices ∧ (b.setJet n x).spns = b.spns ∧ (b.setJet n x).crl = b.crl ∧ (b.setJet n x).cst = b.cst ∧
    (b.setJet n x).net = b.net ∧ (b.setJet n x).tsu = b.tsu ∧ (b.setJet n x).wlh = b.wlh ∧ (b.setJet n x).par = b.par ∧
    (b.setJet n x).ril = b.ril ∧ (b.setJet n x).sys = b.sys ∧ (b.setJet n x).dFault = b.dFault ∧ (b.setJet n x).cycle = b.cycle ∧
    (b.setJet n x).escAcked = b.escAcked :=
  ⟨rfl, rfl, rfl, rfl, rfl, rfl, rfl, rfl, rfl, rfl, rfl, rfl, rfl, rfl, rfl, rfl, rfl, rfl, rfl, rfl, rfl, rfl, rfl⟩

@[simp] theorem Block.setBank_frame (k : Nat) (x : Bank) :
    (b.setBank k x).out = b.out ∧ (b.setBank k x).free = b.free ∧ (b.setBank k x).regs = b.regs ∧ (b.setBank k x).flt = b.flt ∧
    (b.setBank k x).errPulse = b.errPulse ∧ (b.setBank k x).mem = b.mem ∧ (b.setBank k x).muted = b.muted ∧
    (b.setBank k x).muteFrom = b.muteFrom ∧ (b.setBank k x).stg = b.stg ∧ (b.setBank k x).loom = b.loom ∧
    (b.setBank k x).sluices = b.sluices ∧ (b.setBank k x).spns = b.spns ∧ (b.setBank k x).crl = b.crl ∧
    (b.setBank k x).cst = b.cst ∧ (b.setBank k x).net = b.net ∧ (b.setBank k x).tsu = b.tsu ∧ (b.setBank k x).wlh = b.wlh ∧
    (b.setBank k x).par = b.par ∧ (b.setBank k x).ril = b.ril ∧ (b.setBank k x).sys = b.sys ∧ (b.setBank k x).dFault = b.dFault ∧
    (b.setBank k x).cycle = b.cycle ∧ (b.setBank k x).escAcked = b.escAcked :=
  ⟨rfl, rfl, rfl, rfl, rfl, rfl, rfl, rfl, rfl, rfl, rfl, rfl, rfl, rfl, rfl, rfl, rfl, rfl, rfl, rfl, rfl, rfl, rfl⟩

@[simp] theorem Block.setRill_frame (n : Nat) (x : Rill) :
    (b.setRill n x).out = b.out ∧ (b.setRill n x).free = b.free ∧ (b.setRill n x).regs = b.regs ∧ (b.setRill n x).flt = b.flt ∧
    (b.setRill n x).errPulse = b.errPulse ∧ (b.setRill n x).mem = b.mem ∧ (b.setRill n x).muted = b.muted ∧
    (b.setRill n x).muteFrom = b.muteFrom ∧ (b.setRill n x).stg = b.stg ∧ (b.setRill n x).loom = b.loom ∧
    (b.setRill n x).sluices = b.sluices ∧ (b.setRill n x).spns = b.spns ∧ (b.setRill n x).crl = b.crl ∧
    (b.setRill n x).cst = b.cst ∧ (b.setRill n x).net = b.net ∧ (b.setRill n x).tsu = b.tsu ∧ (b.setRill n x).wlh = b.wlh ∧
    (b.setRill n x).par = b.par ∧ (b.setRill n x).jet = b.jet ∧ (b.setRill n x).sys = b.sys ∧ (b.setRill n x).dFault = b.dFault ∧
    (b.setRill n x).cycle = b.cycle ∧ (b.setRill n x).escAcked = b.escAcked :=
  ⟨rfl, rfl, rfl, rfl, rfl, rfl, rfl, rfl, rfl, rfl, rfl, rfl, rfl, rfl, rfl, rfl, rfl, rfl, rfl, rfl, rfl, rfl, rfl⟩

@[simp] theorem Block.setCand_frame (c : Nat) (x : Cand) :
    (b.setCand c x).out = b.out ∧ (b.setCand c x).free = b.free ∧ (b.setCand c x).regs = b.regs ∧ (b.setCand c x).flt = b.flt ∧
    (b.setCand c x).errPulse = b.errPulse ∧ (b.setCand c x).mem = b.mem ∧ (b.setCand c x).muted = b.muted ∧
    (b.setCand c x).muteFrom = b.muteFrom ∧ (b.setCand c x).stg = b.stg ∧ (b.setCand c x).loom = b.loom ∧
    (b.setCand c x).sluices = b.sluices ∧ (b.setCand c x).spns = b.spns ∧ (b.setCand c x).crl = b.crl ∧
    (b.setCand c x).cst = b.cst ∧ (b.setCand c x).net = b.net ∧ (b.setCand c x).tsu = b.tsu ∧ (b.setCand c x).par = b.par ∧
    (b.setCand c x).ril = b.ril ∧ (b.setCand c x).jet = b.jet ∧ (b.setCand c x).sys = b.sys ∧ (b.setCand c x).dFault = b.dFault ∧
    (b.setCand c x).cycle = b.cycle ∧ (b.setCand c x).escAcked = b.escAcked :=
  ⟨rfl, rfl, rfl, rfl, rfl, rfl, rfl, rfl, rfl, rfl, rfl, rfl, rfl, rfl, rfl, rfl, rfl, rfl, rfl, rfl, rfl, rfl, rfl⟩

@[simp] theorem Block.setQl_frame (n : Nat) (x : Ql) :
    (b.setQl n x).out = b.out ∧ (b.setQl n x).free = b.free ∧ (b.setQl n x).regs = b.regs ∧ (b.setQl n x).flt = b.flt ∧
    (b.setQl n x).errPulse = b.errPulse ∧ (b.setQl n x).mem = b.mem ∧ (b.setQl n x).muted = b.muted ∧
    (b.setQl n x).muteFrom = b.muteFrom ∧ (b.setQl n x).stg = b.stg ∧ (b.setQl n x).loom = b.loom ∧
    (b.setQl n x).sluices = b.sluices ∧ (b.setQl n x).spns = b.spns ∧ (b.setQl n x).crl = b.crl ∧ (b.setQl n x).cst = b.cst ∧
    (b.setQl n x).net = b.net ∧ (b.setQl n x).tsu = b.tsu ∧ (b.setQl n x).par = b.par ∧ (b.setQl n x).ril = b.ril ∧
    (b.setQl n x).jet = b.jet ∧ (b.setQl n x).sys = b.sys ∧ (b.setQl n x).dFault = b.dFault ∧ (b.setQl n x).cycle = b.cycle ∧
    (b.setQl n x).escAcked = b.escAcked :=
  ⟨rfl, rfl, rfl, rfl, rfl, rfl, rfl, rfl, rfl, rfl, rfl, rfl, rfl, rfl, rfl, rfl, rfl, rfl, rfl, rfl, rfl, rfl, rfl⟩

@[simp] theorem Block.setWcko_frame (n : Nat) (x : Wcko) :
    (b.setWcko n x).out = b.out ∧ (b.setWcko n x).free = b.free ∧ (b.setWcko n x).regs = b.regs ∧ (b.setWcko n x).flt = b.flt ∧
    (b.setWcko n x).errPulse = b.errPulse ∧ (b.setWcko n x).mem = b.mem ∧ (b.setWcko n x).muted = b.muted ∧
    (b.setWcko n x).muteFrom = b.muteFrom ∧ (b.setWcko n x).stg = b.stg ∧ (b.setWcko n x).loom = b.loom ∧
    (b.setWcko n x).sluices = b.sluices ∧ (b.setWcko n x).spns = b.spns ∧ (b.setWcko n x).crl = b.crl ∧
    (b.setWcko n x).cst = b.cst ∧ (b.setWcko n x).net = b.net ∧ (b.setWcko n x).tsu = b.tsu ∧ (b.setWcko n x).par = b.par ∧
    (b.setWcko n x).ril = b.ril ∧ (b.setWcko n x).jet = b.jet ∧ (b.setWcko n x).sys = b.sys ∧ (b.setWcko n x).dFault = b.dFault ∧
    (b.setWcko n x).cycle = b.cycle ∧ (b.setWcko n x).escAcked = b.escAcked :=
  ⟨rfl, rfl, rfl, rfl, rfl, rfl, rfl, rfl, rfl, rfl, rfl, rfl, rfl, rfl, rfl, rfl, rfl, rfl, rfl, rfl, rfl, rfl, rfl⟩

@[simp] theorem Block.setRsv_frame (n : Nat) (r : Rsv) :
    (b.setRsv n r).out = b.out ∧ (b.setRsv n r).free = b.free ∧ (b.setRsv n r).regs = b.regs ∧ (b.setRsv n r).flt = b.flt ∧
    (b.setRsv n r).errPulse = b.errPulse ∧ (b.setRsv n r).mem = b.mem ∧ (b.setRsv n r).muted = b.muted ∧
    (b.setRsv n r).muteFrom = b.muteFrom ∧ (b.setRsv n r).stg = b.stg ∧ (b.setRsv n r).loom = b.loom ∧
    (b.setRsv n r).sluices = b.sluices ∧ (b.setRsv n r).spns = b.spns ∧ (b.setRsv n r).crl = b.crl ∧ (b.setRsv n r).net = b.net ∧
    (b.setRsv n r).tsu = b.tsu ∧ (b.setRsv n r).wlh = b.wlh ∧ (b.setRsv n r).par = b.par ∧ (b.setRsv n r).ril = b.ril ∧
    (b.setRsv n r).jet = b.jet ∧ (b.setRsv n r).sys = b.sys ∧ (b.setRsv n r).dFault = b.dFault ∧ (b.setRsv n r).cycle = b.cycle ∧
    (b.setRsv n r).escAcked = b.escAcked :=
  ⟨rfl, rfl, rfl, rfl, rfl, rfl, rfl, rfl, rfl, rfl, rfl, rfl, rfl, rfl, rfl, rfl, rfl, rfl, rfl, rfl, rfl, rfl, rfl⟩

@[simp] theorem Block.setRxs_frame (i : Nat) (x : RxSkein) :
    (b.setRxs i x).out = b.out ∧ (b.setRxs i x).free = b.free ∧ (b.setRxs i x).regs = b.regs ∧ (b.setRxs i x).flt = b.flt ∧
    (b.setRxs i x).errPulse = b.errPulse ∧ (b.setRxs i x).mem = b.mem ∧ (b.setRxs i x).muted = b.muted ∧
    (b.setRxs i x).muteFrom = b.muteFrom ∧ (b.setRxs i x).stg = b.stg ∧ (b.setRxs i x).loom = b.loom ∧
    (b.setRxs i x).sluices = b.sluices ∧ (b.setRxs i x).spns = b.spns ∧ (b.setRxs i x).crl = b.crl ∧ (b.setRxs i x).cst = b.cst ∧
    (b.setRxs i x).tsu = b.tsu ∧ (b.setRxs i x).wlh = b.wlh ∧ (b.setRxs i x).par = b.par ∧ (b.setRxs i x).ril = b.ril ∧
    (b.setRxs i x).jet = b.jet ∧ (b.setRxs i x).sys = b.sys ∧ (b.setRxs i x).dFault = b.dFault ∧ (b.setRxs i x).cycle = b.cycle ∧
    (b.setRxs i x).escAcked = b.escAcked :=
  ⟨rfl, rfl, rfl, rfl, rfl, rfl, rfl, rfl, rfl, rfl, rfl, rfl, rfl, rfl, rfl, rfl, rfl, rfl, rfl, rfl, rfl, rfl, rfl⟩

@[simp] theorem Block.setTxs_frame (j : Nat) (x : TxSkein) :
    (b.setTxs j x).out = b.out ∧ (b.setTxs j x).free = b.free ∧ (b.setTxs j x).regs = b.regs ∧ (b.setTxs j x).flt = b.flt ∧
    (b.setTxs j x).errPulse = b.errPulse ∧ (b.setTxs j x).mem = b.mem ∧ (b.setTxs j x).muted = b.muted ∧
    (b.setTxs j x).muteFrom = b.muteFrom ∧ (b.setTxs j x).stg = b.stg ∧ (b.setTxs j x).loom = b.loom ∧
    (b.setTxs j x).sluices = b.sluices ∧ (b.setTxs j x).spns = b.spns ∧ (b.setTxs j x).crl = b.crl ∧ (b.setTxs j x).cst = b.cst ∧
    (b.setTxs j x).tsu = b.tsu ∧ (b.setTxs j x).wlh = b.wlh ∧ (b.setTxs j x).par = b.par ∧ (b.setTxs j x).ril = b.ril ∧
    (b.setTxs j x).jet = b.jet ∧ (b.setTxs j x).sys = b.sys ∧ (b.setTxs j x).dFault = b.dFault ∧ (b.setTxs j x).cycle = b.cycle ∧
    (b.setTxs j x).escAcked = b.escAcked :=
  ⟨rfl, rfl, rfl, rfl, rfl, rfl, rfl, rfl, rfl, rfl, rfl, rfl, rfl, rfl, rfl, rfl, rfl, rfl, rfl, rfl, rfl, rfl, rfl⟩

@[simp] theorem Block.setSlu_frame (n : Nat) (x : Sluice) :
    (b.setSlu n x).out = b.out ∧ (b.setSlu n x).free = b.free ∧ (b.setSlu n x).regs = b.regs ∧ (b.setSlu n x).flt = b.flt ∧
    (b.setSlu n x).errPulse = b.errPulse ∧ (b.setSlu n x).mem = b.mem ∧ (b.setSlu n x).muted = b.muted ∧
    (b.setSlu n x).muteFrom = b.muteFrom ∧ (b.setSlu n x).stg = b.stg ∧ (b.setSlu n x).loom = b.loom ∧
    (b.setSlu n x).spns = b.spns ∧ (b.setSlu n x).crl = b.crl ∧ (b.setSlu n x).cst = b.cst ∧ (b.setSlu n x).net = b.net ∧
    (b.setSlu n x).tsu = b.tsu ∧ (b.setSlu n x).wlh = b.wlh ∧ (b.setSlu n x).par = b.par ∧ (b.setSlu n x).ril = b.ril ∧
    (b.setSlu n x).jet = b.jet ∧ (b.setSlu n x).sys = b.sys ∧ (b.setSlu n x).dFault = b.dFault ∧ (b.setSlu n x).cycle = b.cycle ∧
    (b.setSlu n x).escAcked = b.escAcked ∧ (b.setSlu n x).sluices = tput {} n x b.sluices :=
  ⟨rfl, rfl, rfl, rfl, rfl, rfl, rfl, rfl, rfl, rfl, rfl, rfl, rfl, rfl, rfl, rfl, rfl, rfl, rfl, rfl, rfl, rfl, rfl, rfl⟩

@[simp] theorem Block.setSpn_frame (s : Nat) (x : Spindle) :
    (b.setSpn s x).out = b.out ∧ (b.setSpn s x).free = b.free ∧ (b.setSpn s x).regs = b.regs ∧ (b.setSpn s x).flt = b.flt ∧
    (b.setSpn s x).errPulse = b.errPulse ∧ (b.setSpn s x).mem = b.mem ∧ (b.setSpn s x).muted = b.muted ∧
    (b.setSpn s x).muteFrom = b.muteFrom ∧ (b.setSpn s x).stg = b.stg ∧ (b.setSpn s x).loom = b.loom ∧
    (b.setSpn s x).sluices = b.sluices ∧ (b.setSpn s x).crl = b.crl ∧ (b.setSpn s x).cst = b.cst ∧ (b.setSpn s x).net = b.net ∧
    (b.setSpn s x).tsu = b.tsu ∧ (b.setSpn s x).wlh = b.wlh ∧ (b.setSpn s x).par = b.par ∧ (b.setSpn s x).ril = b.ril ∧
    (b.setSpn s x).jet = b.jet ∧ (b.setSpn s x).sys = b.sys ∧ (b.setSpn s x).dFault = b.dFault ∧ (b.setSpn s x).cycle = b.cycle ∧
    (b.setSpn s x).escAcked = b.escAcked ∧ (b.setSpn s x).spns = tput {} s x b.spns :=
  ⟨rfl, rfl, rfl, rfl, rfl, rfl, rfl, rfl, rfl, rfl, rfl, rfl, rfl, rfl, rfl, rfl, rfl, rfl, rfl, rfl, rfl, rfl, rfl, rfl⟩

@[simp] theorem Block.setGwLane_frame (l : Nat) (x : GwLane) :
    (b.setGwLane l x).out = b.out ∧ (b.setGwLane l x).free = b.free ∧ (b.setGwLane l x).regs = b.regs ∧
    (b.setGwLane l x).flt = b.flt ∧ (b.setGwLane l x).errPulse = b.errPulse ∧ (b.setGwLane l x).mem = b.mem ∧
    (b.setGwLane l x).muted = b.muted ∧ (b.setGwLane l x).muteFrom = b.muteFrom ∧ (b.setGwLane l x).stg = b.stg ∧
    (b.setGwLane l x).loom = b.loom ∧ (b.setGwLane l x).sluices = b.sluices ∧ (b.setGwLane l x).spns = b.spns ∧
    (b.setGwLane l x).crl = b.crl ∧ (b.setGwLane l x).cst = b.cst ∧ (b.setGwLane l x).net = b.net ∧
    (b.setGwLane l x).tsu = b.tsu ∧ (b.setGwLane l x).wlh = b.wlh ∧ (b.setGwLane l x).ril = b.ril ∧
    (b.setGwLane l x).jet = b.jet ∧ (b.setGwLane l x).sys = b.sys ∧ (b.setGwLane l x).dFault = b.dFault ∧
    (b.setGwLane l x).cycle = b.cycle ∧ (b.setGwLane l x).escAcked = b.escAcked :=
  ⟨rfl, rfl, rfl, rfl, rfl, rfl, rfl, rfl, rfl, rfl, rfl, rfl, rfl, rfl, rfl, rfl, rfl, rfl, rfl, rfl, rfl, rfl, rfl⟩

@[simp] theorem Block.modPort_frame (p : Nat) (f : Port → Port) :
    (b.modPort p f).out = b.out ∧ (b.modPort p f).free = b.free ∧ (b.modPort p f).regs = b.regs ∧ (b.modPort p f).flt = b.flt ∧
    (b.modPort p f).errPulse = b.errPulse ∧ (b.modPort p f).mem = b.mem ∧ (b.modPort p f).muted = b.muted ∧
    (b.modPort p f).muteFrom = b.muteFrom ∧ (b.modPort p f).stg = b.stg ∧ (b.modPort p f).loom = b.loom ∧
    (b.modPort p f).sluices = b.sluices ∧ (b.modPort p f).spns = b.spns ∧ (b.modPort p f).crl = b.crl ∧
    (b.modPort p f).cst = b.cst ∧ (b.modPort p f).tsu = b.tsu ∧ (b.modPort p f).wlh = b.wlh ∧ (b.modPort p f).par = b.par ∧
    (b.modPort p f).ril = b.ril ∧ (b.modPort p f).jet = b.jet ∧ (b.modPort p f).sys = b.sys ∧ (b.modPort p f).dFault = b.dFault ∧
    (b.modPort p f).cycle = b.cycle ∧ (b.modPort p f).escAcked = b.escAcked :=
  ⟨rfl, rfl, rfl, rfl, rfl, rfl, rfl, rfl, rfl, rfl, rfl, rfl, rfl, rfl, rfl, rfl, rfl, rfl, rfl, rfl, rfl, rfl, rfl⟩

@[simp] theorem Block.setPass_frame (d : Nat) (p : Pass) :
    (b.setPass d p).out = b.out ∧ (b.setPass d p).free = b.free ∧ (b.setPass d p).regs = b.regs ∧ (b.setPass d p).flt = b.flt ∧
    (b.setPass d p).errPulse = b.errPulse ∧ (b.setPass d p).mem = b.mem ∧ (b.setPass d p).muted = b.muted ∧
    (b.setPass d p).muteFrom = b.muteFrom ∧ (b.setPass d p).stg = b.stg ∧ (b.setPass d p).sluices = b.sluices ∧
    (b.setPass d p).spns = b.spns ∧ (b.setPass d p).crl = b.crl ∧ (b.setPass d p).cst = b.cst ∧ (b.setPass d p).net = b.net ∧
    (b.setPass d p).tsu = b.tsu ∧ (b.setPass d p).wlh = b.wlh ∧ (b.setPass d p).par = b.par ∧ (b.setPass d p).ril = b.ril ∧
    (b.setPass d p).jet = b.jet ∧ (b.setPass d p).sys = b.sys ∧ (b.setPass d p).dFault = b.dFault ∧
    (b.setPass d p).cycle = b.cycle ∧ (b.setPass d p).escAcked = b.escAcked :=
  ⟨rfl, rfl, rfl, rfl, rfl, rfl, rfl, rfl, rfl, rfl, rfl, rfl, rfl, rfl, rfl, rfl, rfl, rfl, rfl, rfl, rfl, rfl, rfl⟩

@[simp] theorem Block.setAcc_frame (l : Nat) (v : Int) :
    (b.setAcc l v).out = b.out ∧ (b.setAcc l v).free = b.free ∧ (b.setAcc l v).regs = b.regs ∧ (b.setAcc l v).flt = b.flt ∧
    (b.setAcc l v).errPulse = b.errPulse ∧ (b.setAcc l v).mem = b.mem ∧ (b.setAcc l v).muted = b.muted ∧
    (b.setAcc l v).muteFrom = b.muteFrom ∧ (b.setAcc l v).stg = b.stg ∧ (b.setAcc l v).sluices = b.sluices ∧
    (b.setAcc l v).spns = b.spns ∧ (b.setAcc l v).crl = b.crl ∧ (b.setAcc l v).cst = b.cst ∧ (b.setAcc l v).net = b.net ∧
    (b.setAcc l v).tsu = b.tsu ∧ (b.setAcc l v).wlh = b.wlh ∧ (b.setAcc l v).par = b.par ∧ (b.setAcc l v).ril = b.ril ∧
    (b.setAcc l v).jet = b.jet ∧ (b.setAcc l v).sys = b.sys ∧ (b.setAcc l v).dFault = b.dFault ∧ (b.setAcc l v).cycle = b.cycle ∧
    (b.setAcc l v).escAcked = b.escAcked :=
  ⟨rfl, rfl, rfl, rfl, rfl, rfl, rfl, rfl, rfl, rfl, rfl, rfl, rfl, rfl, rfl, rfl, rfl, rfl, rfl, rfl, rfl, rfl, rfl⟩

end Sys2Proof.Machine
end

