-- ==== Sys2Proof/Laws/Block.lean ====
section
/-! SUPPORT. What each shared operation of the block can do: registers, memory in canonical form, and `settle`, which only adds to
what has left the device and moves the levels and vectors that it has logged. -/

namespace Sys2Proof.Machine

/-! ## Registers -/

@[simp] theorem Block.reg_setReg_same (b : Block) (a v : Nat) : (b.setReg a v).reg a = v % 2 ^ 32 := by
  simp [Block.reg, Block.setReg]

theorem Block.reg_setReg_ne (b : Block) (a c v : Nat) (h : c ≠ a) : (b.setReg a v).reg c = b.reg c := by
  simp [Block.reg, Block.setReg, tget_tput_ne _ _ _ _ _ _ h]

theorem Block.reg_setReg (b : Block) (a c v : Nat) : (b.setReg a v).reg c = if c = a then v % 2 ^ 32 else b.reg c := by
  by_cases h : c = a
  · subst h; simp
  · rw [Block.reg_setReg_ne b a c v h, if_neg h]

theorem Block.reg_congr {b c : Block} (h : b.regs = c.regs) (a : Nat) : b.reg a = c.reg a := by simp [Block.reg, h]

theorem Block.reg_lt (b : Block) (a : Nat) : b.reg a < 2 ^ 32 := by
  unfold Block.reg; exact (tget (regReset a) b.regs a).isLt

/-- A register that nothing has written reads its reset value. -/
theorem Block.reg_reset (a : Nat) : ({} : Block).reg a = (regReset a).toNat := rfl

/-! ## Folds -/

/-- A fold whose every step keeps a quantity keeps it. -/
theorem foldl_keeps {σ α γ : Type} (p : σ → γ) (f : σ → α → σ) (h : ∀ x a, p (f x a) = p x) (l : List α) (x : σ) :
    p (l.foldl f x) = p x := by
  induction l generalizing x with
  | nil => rfl
  | cons a r ih => rw [List.foldl_cons, ih, h]

/-- A fold whose every step keeps a property keeps it. -/
theorem foldl_holds {σ α : Type} (p : σ → Prop) (f : σ → α → σ) (h : ∀ x a, p x → p (f x a)) (l : List α) (x : σ) (hx : p x) :
    p (l.foldl f x) := by
  induction l generalizing x with
  | nil => exact hx
  | cons a r ih => exact ih _ (h x a hx)

/-! ## settle -/

theorem Block.calm_fire (b : Block) (v : Nat) : (b.fire v).calm = b.calm := by
  unfold Block.fire
  split
  · rfl
  · simp only; split <;> rfl

/-- Everything `settle` can do. -/
theorem Block.calm_settle (b : Block) : b.settle.calm = b.calm := by
  have h : (b.driven.foldl Block.fire b).calm = b.calm := foldl_keeps Block.calm Block.fire Block.calm_fire _ _
  unfold Block.settle
  simp only
  split <;> split <;> exact h

/-- What does not see those parts is kept. -/
theorem Block.settle_keeps {γ : Type} (p : Block → γ) (hp : ∀ x, p x.calm = p x) (b : Block) : p b.settle = p b := by
  rw [← hp, Block.calm_settle, hp]

@[simp] theorem Block.settle_frame (b : Block) :
    b.settle.free = b.free ∧ b.settle.regs = b.regs ∧ b.settle.flt = b.flt ∧ b.settle.errPulse = b.errPulse ∧
    b.settle.mem = b.mem ∧ b.settle.muted = b.muted ∧ b.settle.muteFrom = b.muteFrom ∧ b.settle.stg = b.stg ∧
    b.settle.loom = b.loom ∧ b.settle.sluices = b.sluices ∧ b.settle.spns = b.spns ∧ b.settle.crl = b.crl ∧
    b.settle.cst = b.cst ∧ b.settle.net = b.net ∧ b.settle.tsu = b.tsu ∧ b.settle.wlh = b.wlh ∧ b.settle.par = b.par ∧
    b.settle.ril = b.ril ∧ b.settle.jet = b.jet ∧ b.settle.dFault = b.dFault :=
  ⟨Block.settle_keeps (·.free) (fun _ => rfl) b, Block.settle_keeps (·.regs) (fun _ => rfl) b, Block.settle_keeps (·.flt) (fun _ => rfl) b, Block.settle_keeps (·.errPulse) (fun _ => rfl) b, Block.settle_keeps (·.mem) (fun _ => rfl) b, Block.settle_keeps (·.muted) (fun _ => rfl) b, Block.settle_keeps (·.muteFrom) (fun _ => rfl) b, Block.settle_keeps (·.stg) (fun _ => rfl) b,
   Block.settle_keeps (·.loom) (fun _ => rfl) b, Block.settle_keeps (·.sluices) (fun _ => rfl) b, Block.settle_keeps (·.spns) (fun _ => rfl) b, Block.settle_keeps (·.crl) (fun _ => rfl) b, Block.settle_keeps (·.cst) (fun _ => rfl) b, Block.settle_keeps (·.net) (fun _ => rfl) b, Block.settle_keeps (·.tsu) (fun _ => rfl) b, Block.settle_keeps (·.wlh) (fun _ => rfl) b,
   Block.settle_keeps (·.par) (fun _ => rfl) b, Block.settle_keeps (·.ril) (fun _ => rfl) b, Block.settle_keeps (·.jet) (fun _ => rfl) b, Block.settle_keeps (·.dFault) (fun _ => rfl) b⟩

/-- The parts of `sys` that `settle` leaves. -/
@[simp] theorem Block.settle_sys (b : Block) :
    b.settle.sys.msix = b.sys.msix ∧ b.settle.sys.ports = b.sys.ports ∧ b.settle.sys.memErr = b.sys.memErr ∧
    b.settle.sys.waiting = b.sys.waiting ∧ b.settle.sys.owed = b.sys.owed ∧ b.settle.sys.stored = b.sys.stored ∧
    b.settle.sys.relays = b.sys.relays ∧ b.settle.sys.relayTag = b.sys.relayTag ∧ b.settle.sys.msgs = b.sys.msgs ∧
    b.settle.sys.draftEn = b.sys.draftEn ∧ b.settle.sys.side = b.sys.side ∧ b.settle.sys.bootSrc = b.sys.bootSrc ∧
    b.settle.sys.waking = b.sys.waking ∧ b.settle.sys.offing = b.sys.offing ∧ b.settle.sys.later = b.sys.later ∧
    b.settle.sys.deferred = b.sys.deferred ∧ b.settle.sys.tickBase = b.sys.tickBase ∧ b.settle.sys.leaving = b.sys.leaving ∧
    b.settle.sys.leaveAt = b.sys.leaveAt ∧ b.settle.sys.dormAt = b.sys.dormAt ∧ b.settle.sys.latched = b.sys.latched ∧
    b.settle.sys.reqAt = b.sys.reqAt ∧ b.settle.sys.ackAt = b.sys.ackAt ∧ b.settle.sys.pmicLost = b.sys.pmicLost ∧
    b.settle.sys.hostWake = b.sys.hostWake ∧ b.settle.sys.wakeBoot = b.sys.wakeBoot ∧ b.settle.sys.coarse = b.sys.coarse ∧
    b.settle.sys.coarseLo = b.sys.coarseLo ∧ b.settle.sys.coarseSub = b.sys.coarseSub ∧ b.settle.sys.wdogAt = b.sys.wdogAt ∧
    b.settle.sys.distaff0 = b.sys.distaff0 ∧ b.settle.sys.distaff1 = b.sys.distaff1 ∧ b.settle.sys.firmware = b.sys.firmware :=
  ⟨Block.settle_keeps (·.sys.msix) (fun _ => rfl) b, Block.settle_keeps (·.sys.ports) (fun _ => rfl) b, Block.settle_keeps (·.sys.memErr) (fun _ => rfl) b, Block.settle_keeps (·.sys.waiting) (fun _ => rfl) b,
   Block.settle_keeps (·.sys.owed) (fun _ => rfl) b, Block.settle_keeps (·.sys.stored) (fun _ => rfl) b, Block.settle_keeps (·.sys.relays) (fun _ => rfl) b, Block.settle_keeps (·.sys.relayTag) (fun _ => rfl) b,
   Block.settle_keeps (·.sys.msgs) (fun _ => rfl) b, Block.settle_keeps (·.sys.draftEn) (fun _ => rfl) b, Block.settle_keeps (·.sys.side) (fun _ => rfl) b, Block.settle_keeps (·.sys.bootSrc) (fun _ => rfl) b,
   Block.settle_keeps (·.sys.waking) (fun _ => rfl) b, Block.settle_keeps (·.sys.offing) (fun _ => rfl) b, Block.settle_keeps (·.sys.later) (fun _ => rfl) b, Block.settle_keeps (·.sys.deferred) (fun _ => rfl) b,
   Block.settle_keeps (·.sys.tickBase) (fun _ => rfl) b, Block.settle_keeps (·.sys.leaving) (fun _ => rfl) b, Block.settle_keeps (·.sys.leaveAt) (fun _ => rfl) b, Block.settle_keeps (·.sys.dormAt) (fun _ => rfl) b,
   Block.settle_keeps (·.sys.latched) (fun _ => rfl) b, Block.settle_keeps (·.sys.reqAt) (fun _ => rfl) b, Block.settle_keeps (·.sys.ackAt) (fun _ => rfl) b, Block.settle_keeps (·.sys.pmicLost) (fun _ => rfl) b,
   Block.settle_keeps (·.sys.hostWake) (fun _ => rfl) b, Block.settle_keeps (·.sys.wakeBoot) (fun _ => rfl) b, Block.settle_keeps (·.sys.coarse) (fun _ => rfl) b, Block.settle_keeps (·.sys.coarseLo) (fun _ => rfl) b,
   Block.settle_keeps (·.sys.coarseSub) (fun _ => rfl) b, Block.settle_keeps (·.sys.wdogAt) (fun _ => rfl) b, Block.settle_keeps (·.sys.distaff0) (fun _ => rfl) b, Block.settle_keeps (·.sys.distaff1) (fun _ => rfl) b,
   Block.settle_keeps (·.sys.firmware) (fun _ => rfl) b⟩

@[simp] theorem Block.reg_settle (b : Block) (a : Nat) : b.settle.reg a = b.reg a := Block.reg_congr (by simp) a

theorem logExtends_refl (l : List Output) : logExtends l l := ⟨[], rfl⟩

theorem logExtends_trans {a b c : List Output} (h : logExtends a b) (k : logExtends b c) : logExtends a c := by
  obtain ⟨x, rfl⟩ := h; obtain ⟨y, rfl⟩ := k; exact ⟨y ++ x, by simp⟩

theorem logExtends_cons (l : List Output) (o : Output) : logExtends l (o :: l) := ⟨[o], rfl⟩

theorem Block.fire_out (b : Block) (v : Nat) : logExtends b.out (b.fire v).out := by
  unfold Block.fire
  split
  · exact logExtends_refl _
  · simp only; split
    · exact logExtends_cons _ _
    · exact logExtends_refl _

/-- What has left the device stays logged when the block settles. -/
theorem Block.settle_out (b : Block) : logExtends b.out b.settle.out := by
  have h : logExtends b.out (b.driven.foldl Block.fire b).out :=
    foldl_holds (fun x => logExtends b.out x.out) Block.fire (fun x v hx => logExtends_trans hx (x.fire_out v)) _ _ (logExtends_refl _)
  unfold Block.settle
  simp only
  split <;> split <;> first | exact h | exact logExtends_trans h ⟨[_], rfl⟩ | exact logExtends_trans h ⟨[_, _], rfl⟩

theorem Block.settle_out_mem (b : Block) (o : Output) (h : o ∈ b.out) : o ∈ b.settle.out := by
  obtain ⟨l, e⟩ := b.settle_out; rw [e]; simp [h]

/-! ## Commands -/

/-- Everything a command of the block alone can do. -/
theorem onBlk_next (f : Block → Block) (s : State) :
    ∃ t, onBlk f s = .next t ∧ t.pending = s.pending ∧ t.sems = s.sems ∧ t.blk = (f s.blk).settle := ⟨_, rfl, rfl, rfl, rfl⟩

/-- Everything a command that also sees the semaphores can do. -/
theorem onAll_next (f : State → State) (s : State) :
    ∃ t, onAll f s = .next t ∧ t.pending = s.pending ∧ t.sems = (f s).sems ∧ t.blk = (f s).blk.settle := ⟨_, rfl, rfl, rfl, rfl⟩

/-- A register access whose island is up. -/
theorem onRegBy_next (m a : Nat) (w : Bool) (f : Block → Block) (s : State) (h : s.blk.islandOff a = false) :
    ∃ t, onRegBy m a w f s = .next t ∧ t.pending = s.pending ∧ t.sems = s.sems ∧ t.blk = (f s.blk).settle := by
  refine ⟨_, rfl, rfl, rfl, ?_⟩; simp [h]

/-! ## Time (R304 to R311) -/

/-- Where no tick moves TSU time by more than the slack against the audio master, the remainder only shrinks (R311). -/
theorem remUp_bound (r e : Int) (n : Nat) (hr : 0 ≤ r) (h1 : -slackTick ≤ e) (h2 : e ≤ slackTick) :
    0 ≤ remUp r e n ∧ remUp r e n ≤ r := by
  unfold remUp
  have : (n : Int) * (e - slackTick) ≤ 0 := Int.mul_nonpos_of_nonneg_of_nonpos (by omega) (by omega)
  split
  · omega
  · omega

theorem remAfter_bound (r e : Int) (n : Nat) (h : e.natAbs ≤ slackTick.toNat) : (remAfter r e n).natAbs ≤ r.natAbs := by
  have hs : slackTick = 858993 := rfl
  have hn : slackTick.toNat = 858993 := rfl
  unfold remAfter
  split
  · have := remUp_bound r e n (by omega) (by omega) (by omega); omega
  · have := remUp_bound (-r) (-e) n (by omega) (by omega) (by omega); omega

/-- What ticks of the time clock leave. -/
theorem Tsu.go_keeps (t : Tsu) (i : Int) (n : Nat) :
    (t.go i n).step = t.step ∧ (t.go i n).realign = t.realign ∧ (t.go i n).incr = t.incr ∧ (t.go i n).incrNext = t.incrNext ∧
    (t.go i n).slewCnt = t.slewCnt ∧ (t.go i n).slewFrac = t.slewFrac := by
  unfold Tsu.go; split <;> simp [tsuSet]

theorem Tsu.go_rem (t : Tsu) (i : Int) (n : Nat) (h : (i - 2 ^ 33).natAbs ≤ slackTick.toNat) : (t.go i n).rem.natAbs ≤ t.rem.natAbs := by
  unfold Tsu.go; split
  · exact Nat.le_refl _
  · exact remAfter_bound _ _ _ h

theorem Tsu.run_keeps (t : Tsu) (n : Nat) : (t.run n).step = t.step ∧ (t.run n).realign = t.realign := by
  unfold Tsu.run; split <;> simp [Tsu.go_keeps]

/-- A steady block stays steady as time moves on. -/
theorem Block.steady_run (b : Block) (n : Nat) (h : b.steady) : Block.steady { b with tsu := b.tsu.run n } := by
  obtain ⟨hs, h⟩ := h
  refine ⟨by simp [Tsu.run_keeps, hs], ?_⟩
  rcases h with h | ⟨hr, hi, hw⟩
  · exact Or.inl (by simp [Tsu.run_keeps, h])
  right
  by_cases hn : n = 0
  · simp only [Tsu.run, hn, if_true]; exact ⟨hr, hi, hw⟩
  simp only [Tsu.run, hn, if_false]
  refine ⟨?_, ?_, ?_⟩
  · refine Nat.le_trans (Tsu.go_rem _ _ _ hi) ?_
    rcases hw with hw | hw
    · have : (min n b.tsu.slewCnt) = 0 := by omega
      rw [this]; simpa [Tsu.go] using hr
    · exact Nat.le_trans (Tsu.go_rem _ _ _ hw) hr
  · simpa [Tsu.go_keeps] using hi
  · rcases hw with hw | hw
    · left; simp [Tsu.go_keeps, hw]
    · right; simpa [Tsu.go_keeps] using hw

theorem Block.checkRealign_steady (b : Block) (h : b.steady) : b.checkRealign = b := by
  obtain ⟨_, h⟩ := h
  unfold Block.checkRealign
  rw [if_neg]
  rcases h with h | ⟨h, _⟩
  · simp [h]
  · omega

/-- Everything that time moving on can do to a steady block. -/
theorem Block.runTicks_steady (b : Block) (n : Nat) (h : b.steady) : b.runTicks n = { b with tsu := b.tsu.run n } := by
  unfold Block.runTicks
  rw [h.1]
  simp only
  split
  · next hn => subst hn; simp [Tsu.run]
  · exact Block.checkRealign_steady _ (b.steady_run n h)

theorem Block.advance_steady (b : Block) (x : Nat) (h : b.steady) :
    ∃ t, b.advance x = { b with tsu := t } ∧ Block.steady { b with tsu := t } := by
  unfold Block.advance
  simp only
  rw [Block.runTicks_steady b _ h, Block.runTicks_steady _ _ (b.steady_run _ h),
    Block.runTicks_steady _ _ (Block.steady_run _ _ (b.steady_run _ h))]
  exact ⟨_, rfl, Block.steady_run _ _ (Block.steady_run _ _ (b.steady_run _ h))⟩

/-! ## Memory in canonical form (R24) -/

/-- The form memory is kept in: addresses strictly rising, no byte listed that reads as an unlisted one. -/
abbrev Memory.wf (m : List Host.Cell) : Prop := tabWf memDefault m = true

theorem Memory.wf_put (m : List Host.Cell) (a : Nat) (v : BitVec 8) (h : Memory.wf m) : Memory.wf (memPut m a v) :=
  tabWf_tput _ _ _ _ h

theorem Memory.wf_puts (bs : Bytes) (m : List Host.Cell) (a : Nat) (h : Memory.wf m) : Memory.wf (memPuts m a bs) := by
  induction bs generalizing m a with
  | nil => exact h
  | cons v r ih => exact ih _ _ (Memory.wf_put m a v h)

theorem Memory.wf_mend (b : Block) (a n : Nat) (h : Memory.wf b.mem) : Memory.wf (b.mend a n).mem := by
  unfold Block.mend
  exact foldl_holds Memory.wf _ (fun m w hm => Memory.wf_puts _ m _ hm) _ _ h

/-- Every memory operation keeps the canonical form: writes of bytes, of values, copies, and the loss of a range. -/
theorem Memory.wf_wrBytes (b : Block) (a : Nat) (bs : Bytes) (h : Memory.wf b.mem) : Memory.wf (b.wrBytes a bs).mem := by
  unfold Block.wrBytes
  split
  · simp only; split
    · exact Memory.wf_puts _ _ _ h
    · exact Memory.wf_puts _ _ _ (Memory.wf_mend b a _ h)
  · exact h

theorem Memory.wf_wrLE (b : Block) (a n v : Nat) (h : Memory.wf b.mem) : Memory.wf (b.wrLE a n v).mem := Memory.wf_wrBytes _ _ _ h
theorem Memory.wf_copyMem (b : Block) (s d n : Nat) (h : Memory.wf b.mem) : Memory.wf (b.copyMem s d n).mem := Memory.wf_wrBytes _ _ _ h
theorem Memory.wf_zeroMem (b : Block) (a n : Nat) (h : Memory.wf b.mem) : Memory.wf (b.zeroMem a n).mem := Memory.wf_wrBytes _ _ _ h
theorem Memory.wf_memDrop (b : Block) (lo hi : Nat) (h : Memory.wf b.mem) : Memory.wf (b.memDrop lo hi).mem := tabWf_filter _ _ _ h
theorem Memory.wf_reset : Memory.wf State.reset.blk.mem := rfl

theorem memPuts_out (bs : Bytes) (m : List Host.Cell) (a q : Nat) (h : q < a ∨ a + bs.length ≤ q) :
    tget memDefault (memPuts m a bs) q = tget memDefault m q := by
  induction bs generalizing m a with
  | nil => rfl
  | cons v r ih =>
    simp only [List.length_cons] at h
    rw [memPuts, ih _ _ (by omega), memPut, tget_tput_ne _ _ _ _ _ _ (by omega)]

theorem memPuts_in (bs : Bytes) (m : List Host.Cell) (a i : Nat) (h : i < bs.length) :
    tget memDefault (memPuts m a bs) (a + i) = bs[i] := by
  induction bs generalizing m a i with
  | nil => simp at h
  | cons v r ih =>
    cases i with
    | zero => rw [memPuts, memPuts_out _ _ _ _ (by omega), memPut]; simp
    | succ j =>
      have e : a + (j + 1) = a + 1 + j := by omega
      rw [memPuts, e, ih _ _ _ (by simpa using h)]; simp

@[simp] theorem upFrom_length (a n : Nat) : (upFrom a n).length = n := by
  induction n generalizing a with
  | zero => rfl
  | succ n ih => simp [upFrom, ih]

theorem mem_upFrom (a n x : Nat) : x ∈ upFrom a n ↔ a ≤ x ∧ x < a + n := by
  induction n generalizing a with
  | zero => simp [upFrom]
  | succ n ih => simp [upFrom, ih]; omega

theorem mem_below (n x : Nat) : x ∈ below n ↔ x < n := by simp [below, mem_upFrom]

/-- A write of bytes changes no byte outside them, where no basin word is in error. -/
theorem Block.rd8_wrBytes_out (b : Block) (a q : Nat) (bs : Bytes) (he : b.sys.memErr = []) (h : q < a ∨ a + bs.length ≤ q) :
    (b.wrBytes a bs).rd8 q = b.rd8 q := by
  unfold Block.wrBytes
  split
  · simp [Block.rd8, Block.live, he, memPuts_out _ _ _ _ h]
  · rfl

/-- A byte that was written reads back. -/
theorem Block.rd8_wrBytes_in (b : Block) (a i : Nat) (bs : Bytes) (he : b.sys.memErr = []) (hl : b.live a = true)
    (hq : b.live (a + i) = true) (h : i < bs.length) : (b.wrBytes a bs).rd8 (a + i) = bs[i] := by
  have hq' : decide (a + i < cisternBase) = true ∨ b.cst.st = 2 ∨ b.cst.st = 3 := by
    simpa [Block.live, or_assoc] using hq
  unfold Block.wrBytes
  simp only [hl, he, List.isEmpty_nil, if_true]
  simp only [Block.rd8, Block.live, he, tget_nil, memPuts_in _ _ _ _ h]
  simp
  intro h1 h2 h3
  simp at hq'
  omega

end Sys2Proof.Machine
end

