-- ==== Sys2Proof/Laws/Spindle.lean ====
section
/-! SUPPORT. The spindles: what the sequencing of an instruction can do, and what a command does at a legal word. -/

namespace Sys2Proof.Machine

@[simp] theorem Block.spn_setSpn (b : Block) (n : Nat) (x : Spindle) : (b.setSpn n x).spn n = x := by simp [Block.spn, Block.setSpn]

theorem Block.spn_congr {b c : Block} (h : b.spns = c.spns) (n : Nat) : b.spn n = c.spn n := by simp [Block.spn, h]

@[simp] theorem Block.spn_settle (b : Block) (n : Nat) : b.settle.spn n = b.spn n := Block.spn_congr (by simp) n

theorem Block.spn_setSpn_ne (b : Block) (n k : Nat) (x : Spindle) (h : k ≠ n) : (b.setSpn n x).spn k = b.spn k := by
  simp [Block.spn, Block.setSpn, tget_tput_ne _ _ _ _ _ _ h]

theorem tput_tput {β : Type} [DecidableEq β] (d : β) (k : Nat) (v w : β) (t : Tab β) : tput d k v (tput d k w t) = tput d k v t := by
  have hd : ∀ u : Tab β, tdel k (tdel k u) = tdel k u := by
    intro u; induction u with
    | nil => rfl
    | cons a r ih => by_cases h : a.1 = k <;> simp [tdel, h, ih]
  have hi : ∀ u : Tab β, tdel k (tins k w u) = tdel k u := by
    intro u; induction u with
    | nil => simp [tins, tdel]
    | cons a r ih =>
      by_cases h : k < a.1
      · simp [tins, h, tdel]
      · by_cases e : a.1 = k <;> simp [tins, h, tdel, e, ih]
  unfold tput; split <;> split <;> simp [hd, hi]

@[simp] theorem Block.setSpn_setSpn (b : Block) (n : Nat) (x y : Spindle) : (b.setSpn n x).setSpn n y = b.setSpn n y := by
  simp [Block.setSpn, tput_tput]

/-- A loop's end check changes nothing but the loop counters, the loop stack and the PC. -/
theorem loopEnd_keeps {γ : Type} (p : Spindle → γ) (hp : ∀ (x : Spindle) lc lo pc, p { x with lc := lc, loops := lo, pc := pc } = p x)
    (i k : Nat) (x : Spindle) : p (loopEnd i k x) = p x := by
  have h1 : ∀ (x : Spindle) lc, p { x with lc := lc } = p x := fun x lc => hp x lc x.loops x.pc
  have h2 : ∀ (x : Spindle) lc pc, p { x with lc := lc, pc := pc } = p x := fun x lc pc => hp x lc x.loops pc
  have h3 : ∀ (x : Spindle) lc lo, p { x with lc := lc, loops := lo } = p x := fun x lc lo => hp x lc lo x.pc
  induction k generalizing x with
  | zero => rfl
  | succ k ih =>
    unfold loopEnd
    split
    · rfl
    · split
      · rfl
      · dsimp only
        split
        · exact h2 x _ _
        · rw [ih]; exact h3 x _ _

theorem Spindle.step_keeps {γ : Type} (p : Spindle → γ) (hp : ∀ (x : Spindle) lc lo pc, p { x with lc := lc, loops := lo, pc := pc } = p x)
    (x : Spindle) : p x.step' = p x := by
  unfold Spindle.step'
  rw [loopEnd_keeps p hp]
  exact hp x x.lc x.loops _

/-- The sequencing of an instruction leaves every register but the loop counters and the PC. -/
@[simp] theorem Spindle.step_frame (x : Spindle) :
    x.step'.d = x.d ∧ x.step'.a = x.a ∧ x.step'.m = x.m ∧ x.step'.l = x.l ∧ x.step'.acc = x.acc ∧ x.step'.bxd = x.bxd ∧
    x.step'.run = x.run ∧ x.step'.isol = x.isol ∧ x.step'.entry = x.entry ∧ x.step'.blk = x.blk ∧ x.step'.desc = x.desc ∧
    x.step'.todo = x.todo ∧ x.step'.rel = x.rel ∧ x.step'.cyc = x.cyc ∧ x.step'.kStart = x.kStart ∧ x.step'.dRdy = x.dRdy ∧
    x.step'.aRdy = x.aRdy ∧ x.step'.accRdy = x.accRdy ∧ x.step'.aov = x.aov ∧ x.step'.sov = x.sov ∧
    x.step'.aovLast = x.aovLast ∧ x.step'.sovLast = x.sovLast ∧ x.step'.wrote = x.wrote := by
  refine ⟨?_, ?_, ?_, ?_, ?_, ?_, ?_, ?_, ?_, ?_, ?_, ?_, ?_, ?_, ?_, ?_, ?_, ?_, ?_, ?_, ?_, ?_, ?_⟩ <;>
    exact Spindle.step_keeps _ (fun _ _ _ _ => rfl) x

/-- After an instruction that is no END of an active loop the next word follows. -/
theorem Spindle.step_on (x : Spindle) (h : x.atEnd = false) (hp : x.desc.pBase ≤ x.pc) :
    x.step'.pc = x.pc + 1 ∧ x.step'.loops = x.loops ∧ x.step'.lc = x.lc := by
  have e : (x.goto (x.rel' + 1)).pc = x.pc + 1 := by simp [Spindle.goto, Spindle.rel']; omega
  have key : x.step' = x.goto (x.rel' + 1) := by
    unfold Spindle.step'
    show loopEnd x.rel' 4 (x.goto (x.rel' + 1)) = _
    unfold loopEnd
    split
    · rfl
    · next st en r hl =>
      have hl' : x.loops = (st, en) :: r := hl
      have : en ≠ x.rel' := by
        intro c
        simp [Spindle.atEnd, hl', c] at h
      simp [this]
  rw [key]; exact ⟨e, rfl, rfl⟩

/-- A command at a legal word of its instruction runs it. -/
theorem Block.spnIssue_at {b : Block} {n w : Nat} {o : SpnOp} (h : SpnAt b n o w) (f : Block → Nat → Nat → Block) :
    Block.spnIssue o f n .ok b = f b n w := by
  obtain ⟨h1, h2, h3, h4, h5, h6⟩ := h
  simp [Block.spnIssue, h1, h2, h3, h4, h5, h6, Block.spnEcc, Ecc.worse]

theorem Block.spnDo_at {b : Block} {n w : Nat} {o : SpnOp} (h : SpnAt b n o w) (f : Block → Nat → Nat → Block) :
    Block.spnDo o f n .ok b = (f b n w).setSpn n ((f b n w).spn n).step' := by
  rw [Block.spnDo, Block.spnIssue_at h]; rfl

theorem SpnAt.base {b : Block} {n w : Nat} {o : SpnOp} (h : SpnAt b n o w) : (b.spn n).desc.pBase ≤ (b.spn n).pc := by
  have := h.2.1; simp [pcIn] at this; exact this.1

/-- Two blocks that agree but for settling still agree when the same spindle is set in each. -/
theorem Block.like_settle (b c : Block) (h : b.like c) : b.settle.like c := by
  unfold Block.like at *; rw [Block.calm_settle, h]

theorem Block.like_refl (b : Block) : b.like b := rfl

/-- A block that settles after one spindle was set differs from the one before in that spindle alone. -/
theorem OnlySpn_setSpn (n : Nat) (b : Block) (y : Spindle) : OnlySpn n b (b.setSpn n y).settle := by
  unfold OnlySpn
  apply Block.like_settle
  simp [Block.like]

/-- An instruction that sets one spindle and is no END of an active loop goes on. -/
theorem GoesOn_step (x y : Spindle) (hb : x.desc.pBase ≤ x.pc) (h1 : y.pc = x.pc) (h2 : y.desc = x.desc) (h3 : y.loops = x.loops)
    (h4 : y.lc = x.lc) : GoesOn x y.step' := by
  intro h
  have ha : y.atEnd = false := by simpa [Spindle.atEnd, Spindle.rel', h1, h2, h3] using h
  have := y.step_on ha (by rw [h1, h2]; exact hb)
  rw [h1, h3, h4] at this
  exact this

/-- The registers read by code follow the fields. -/
theorem Spindle.code_congr {x y : Spindle} (c : Nat) (hd : y.d = x.d) (ha : y.a = x.a) (hm : y.m = x.m) (hl : y.l = x.l)
    (hlc : y.lc = x.lc) (hb : y.bxd = x.bxd) : y.code c = x.code c := by
  simp [Spindle.code, Spindle.dreg, Spindle.areg, Spindle.mreg, Spindle.lreg, Spindle.lcReg, hd, ha, hm, hl, hlc, hb]

@[simp] theorem Spindle.dreg_setD (x : Spindle) (i j : Nat) (v : BitVec 32) :
    (x.setD i v).dreg j = if j = i then v else x.dreg j := tget_tput _ _ _ _ _

@[simp] theorem Spindle.accP_setAcc (x : Spindle) (i j : Nat) (v : Int) :
    (x.setAcc i v).accP j = if j = i then v else x.accP j := tget_tput _ _ _ _ _

theorem Spindle.areg_setA (x : Spindle) (i j v : Nat) :
    (x.setA i v).areg j = if j = i then v % 2 ^ 24 else x.areg j := by
  unfold Spindle.areg Spindle.setA
  simp only [tget_tput]
  split <;> simp

end Sys2Proof.Machine
end

