-- ==== Sys2Proof/Tests/Slice0.lean ====
section
/-! SUPPORT. Small tests: the checks of WellFormed refuse, worked examples of the spec, and for every statement with hypotheses a
state and operands that meet them together (test_hyp_<statement>, one conjunct for each clause). -/

namespace Sys2Proof.Tests

open Sys2Proof.Machine

/-- A block with every domain on and these changes to it. -/
def at' (f : Block → Block) : State := State.reset.mapBlk (fun b => f (b.setReg Reg.PWR_DOM_ON 0xFFFFF))

/-- A chunk with its CRC (R41). -/
def chunkOf (tag inst : Nat) (pay : Bytes) : Bytes :=
  let h := leBytes 4 tag ++ leBytes 4 pay.length ++ leBytes 2 0 ++ leBytes 2 inst
  h ++ leBytes 4 (crc32c (h ++ pay)) ++ pay

/-- A full draft with these chunks, ALLOW_COLD set (R40). -/
def draftOf (serial : Nat) (cs : List Bytes) : Bytes :=
  let body := (cs ++ [chunkOf 0x44444E45 0 []]).flatten
  let h := [0x4C, 0x44, 0x46, 0x54, 3, 0, 0x48, 0x20] ++ leBytes 8 serial ++ leBytes 4 (64 + body.length) ++
    leBytes 4 (cs.length + 1) ++ leBytes 8 0 ++ leBytes 4 2 ++ List.replicate 24 0
  h ++ leBytes 4 (crc32c h) ++ body

/-- A small draft: one bus lane of domain B, in a ply of its own. -/
def smallDraft : Bytes :=
  draftOf 7 [chunkOf tagDOMN 0 (leBytes 16 2), chunkOf tagLANE 0 (leBytes 4 (0x1400 + 2 ^ 13)), chunkOf tagPLYS 0 (leBytes 4 0x1400)]

/-- The small draft as it stands in force. -/
def small : Draft := ((parseDraft smallDraft.length smallDraft).toOption).getD {}

/-- A staged draft, with every domain on. -/
def staged (g : Staging) : State := at' (fun b => { b with stg := g })

/-! ## WellFormed -/

/-- One ill-formed command for each check: the check refuses it. -/
theorem test_wf_refuses :
    ([Instr.familySwitch 2, .open_ 16, .commit 16, .coefficientEdit (2 ^ 32), .registerWrite 13 0x1000000 4 0, .registerWrite 13 2 3 0, .offIsland 13 2 true 0,
   .unmapped 13 (2 ^ 40) true, .cisternRead [(0, 0x3FFFFFFFF, 8)] .ok 0, .cisternWrite 0 0x400000000 [] .ok,
   .cisternWrite 0 0x400000000 (List.replicate 65 0) .ok, .eccWriteback 0 0x100000, .eccWriteback 8 0, .cardEnd 3, .coldRelease 0 [512],
   .sluiceLock 256, .add 64 .ok, .stageIn 2048 0, .delayLineFetch 0 0 [2048], .cardMov 0 (2 ^ 128),
   .linkDown 6 0, .fecWrite 4 0, .skeinFrame 0 8, .presentation 128 0, .packetRelease 127 0 none none, .packetRelease 256 0 none none,
   .candidateLost 11, .rillLost 48, .jetRestart 32 0, .senseLive 72, .senseDelivery 0 0 (2 ^ 32), .ecpRequest 8 false 0 0 true [], .ack 32,
   .vectorUnmask (some 64), .wakeEvent 4, .hostLinkUp 5 4, .hostLinkUp 1 3, .channelStatus 256 true, .tempStale 32,
   .matrixBurst 0 [{ master := 16, len := 1 }] 0 [], .matrixBurst 0 [{ addr := 16, write := true, beats := [(List.replicate 32 0, 0)] }] 0 []]).all (fun c => !c.wf) = true := by decide

/-- The bounds themselves are well-formed. -/
theorem test_wf_admits :
    [Instr.familySwitch 1, .open_ 15, .coefficientEdit (2 ^ 32 - 1), .registerWrite 13 3 1 0, .unmapped 13 (2 ^ 40 - 1) true, .coldRelease 0 [511],
     .add 63 .ok, .delayLineFetch 2 0 [2047], .skeinFrame 3 7, .packetRelease 128 0 none none, .wakeEvent 15, .hostLinkUp 4 2].all Instr.wf = true := by
  decide

/-- The table gives no bits, so no word spells a command. -/
theorem test_no_word : decodeTableWord 32 0 = none ∧ State.reset.withFetchWord 32 0 = State.reset := ⟨rfl, rfl⟩

/-! ## General -/

theorem test_hyp_StepRunsTheFrontCommand :
    ({ State.reset with pending := [.twinTimeout] } : State).pending = .twinTimeout :: [] := rfl

theorem test_hyp_StepIdles : State.reset.pending = [] ∧ State.reset.blk.sys.firmware = false ∧ State.reset.blk.net.tbl = none ∧
    State.reset.blk.sys.msgs = [] ∧ State.reset.blk.steady := by unfold Block.steady; decide +kernel

theorem test_hyp_SemaphoresStaySound : SemsOk State.reset.sems ∧ ∃ t, step State.reset = .next t :=
  ⟨by unfold SemsOk; decide, _, rfl⟩

theorem test_hyp_MemoryStaysCanonical : MemOk State.reset.blk ∧ ∃ t, step State.reset = .next t :=
  ⟨by unfold MemOk; decide, _, rfl⟩

theorem test_hyp_SemaphoresChangeOnlyByAccess : (match Instr.xtReturn with
    | .registerWrite .. | .rcRead .. | .semaphoreRead .. | .semaphoreRelease .. => False
    | _ => True) := trivial

/-- The matrix's interrupt register: RW1C bits. -/
theorem test_hyp_RegisterWrites : let b := (at' id).blk
    (CanWrite 13 Reg.MTX_INT b ∧ PlainWrite Reg.MTX_INT ∧ (regRow Reg.MTX_INT).isSome = true ∧ Reg.MTX_INT % 4 = 0) ∧
    (CanWrite 14 (Reg.MTX_INT / 4 * 4) b ∧ ¬(2 = 4 ∧ Reg.MTX_INT % 4 = 0)) := by
  unfold CanWrite PlainWrite; decide +kernel

theorem test_hyp_ReadClearsRc : let b := (at' id).blk
    CanRead 13 Reg.MTX_CNT b ∧ PlainRead Reg.MTX_CNT ∧ (regRow Reg.MTX_CNT).isSome = true ∧ Reg.MTX_CNT % 4 = 0 ∧ 2 + 2 ≤ 4 := by
  unfold CanRead PlainRead; decide +kernel

/-- At reset the loom's island is down. -/
theorem test_hyp_AccessesThatFail :
    State.reset.blk.islandOff Reg.LOM_SLACK = true ∧
    (targetOf 0x31000000 = 21 ∧ 0x200000 ≤ 0x31000000) ∧ targetOf 0x10000000 = 0 ∧
    (let c := (at' id).blk
     targetOf 0x7FFFFFFFF = 20 ∧ c.domOn 12 = true ∧ c.cstSize ≤ 0x7FFFFFFFF - cisternBase) ∧
    (targetOf (regBase + 0xFF0000) = 19 ∧ pageBlk (0xFF0000 / 65536) = none) ∧ reachesReg 3 Reg.SYS_ID = false := by
  decide +kernel

/-! ## Drafts -/

theorem test_hyp_DraftCommands : let s := fun st => (staged { st := st, owner := .flash, eff := some small, armedAt := 30 }).blk
    MayDraft 13 (s .valid) ∧ MayDraft 13 (staged {}).blk ∧
    ((s .valid).par.proposed = none ∧ (s .valid).paired = false ∧ (s .valid).stg.eff = some small ∧
      (s .valid).reg64 Reg.SYS_DFT_CBLK_LO Reg.SYS_DFT_CBLK_HI = 0) ∧
    (let c := (s .valid).setReg Reg.SYS_DFT_CBLK_LO 23
     MayDraft 13 c ∧ c.reg64 Reg.SYS_DFT_CBLK_LO Reg.SYS_DFT_CBLK_HI < c.blk + max 24 c.stg.prep) ∧
    (let c := (s .valid).setReg Reg.SYS_DFT_CBLK_LO 24
     MayDraft 13 c ∧ c.blk + max 24 c.stg.prep ≤ c.reg64 Reg.SYS_DFT_CBLK_LO Reg.SYS_DFT_CBLK_HI) ∧
    (MayDraft 13 (s .armed) ∧ (s .armed).blk + 1 < (s .armed).stg.armedAt) ∧ MayDraft 13 (s .loading) ∧ MayDraft 13 (s .rejected) := by
  unfold MayDraft CanWrite; decide +kernel

theorem test_hyp_DraftEvents :
    (let b := (staged { st := .validating, owner := .flash, heldLen := smallDraft.length, held := smallDraft }).blk
     b.stg.st = .validating ∧ (b.validateBytes (b.srcRefused b.stg.owner == 0) b.stg.heldLen b.stg.held).toOption.isSome = true) ∧
    (let b := (staged { st := .validating, owner := .flash }).blk
     b.stg.st = .validating ∧ (b.validateBytes (b.srcRefused b.stg.owner == 0) b.stg.heldLen b.stg.held).toOption.isSome = false) ∧
    (let b := (staged { st := .storing, eff := some small }).blk
     b.stg.st = .storing ∧ b.stg.eff = some small) := by decide +kernel

/-- One request that waits, checked by the twin. -/
def asking (op p : Nat) (pay : Bytes) (f : Block → Block) : State :=
  at' (fun b => f { b with sys := { b.sys with waiting := [{ port := p, op := op, relayed := true, pay := pay }] } })

theorem test_hyp_CommitAndRelease :
    (let c := (staged { st := .armed, eff := some small, armedAt := 1 }).blk
     c.steady ∧ c.par.decided = false ∧ c.par.agreed = false ∧ c.crl.migs = [] ∧ (c.toBlk (1 - 1)).commitRoom = true) ∧
    (let c := { (staged { st := .armed, eff := some small, armedAt := 1 }).blk with loom := { resv := 257 } }
     c.steady ∧ c.par.decided = false ∧ c.par.agreed = false ∧ c.crl.migs = [] ∧ (c.toBlk (1 - 1)).commitRoom = false) ∧
    (let c := { (staged { st := .armed, eff := some small }).blk with par := { decided := true } }
     c.steady ∧ c.stg.st = .armed ∧ c.par.decided = true ∧ c.par.agreed = false ∧ c.stg.eff = some small ∧ c.stg.cold = false) ∧
    (let c := (staged { st := .settling, affected := [0], force := some small }).blk
     c.steady ∧ (c.toBlk 1).plyReady 1 0 = true ∧ 0 ∈ c.stg.affected ∧ c.stg.st = .settling) ∧
    (let c := (asking 0x40 0 [0, 0, 0, 0] (fun b => { b with stg := { unsettled := [0], force := some small } })).blk
     Begins c 0x40 0 { port := 0, op := 0x40, relayed := true, pay := [0, 0, 0, 0] } ∧ u16 [0, 0, 0, 0] 0 ∈ c.stg.unsettled) := by
  unfold Block.steady Begins; refine ⟨?_, ?_, ?_, ?_, ?_⟩ <;> decide +kernel

/-- The small draft in slot A of the flash (R81). -/
def bootFlash : Tab (BitVec 8) :=
  let r := [0x4C, 0x53, 0x4C, 0x54] ++ leBytes 4 1 ++ leBytes 4 smallDraft.length
  ((upFrom 0xFF0000 16).zip (r ++ leBytes 4 (crc32c r))) ++ ((upFrom 0x1000000 smallDraft.length).zip smallDraft)

theorem test_hyp_BlockNumberAndBootCommit :
    (let b := (at' id).blk
     reachesReg 13 Reg.SYS_BLK_LO = true ∧ mayReadMail 13 Reg.SYS_BLK_LO = true ∧ (pageBlk (Reg.SYS_BLK_LO / 65536)).isSome = true ∧
       b.islandOff Reg.SYS_BLK_LO = false) ∧
    (let c := { (staged {}).blk with sys := { firmware := true }, cst := { st := 2 } }
     c.mode = 5 ∧ c.bootDraft = none) ∧
    (let c := { (staged { flash := bootFlash }).blk with sys := { firmware := true }, cst := { st := 2 } }
     c.mode = 5 ∧ c.bootDraft.isSome = true ∧ c.bootDraft.all (fun p => (Block.domNeeds
       { c with crl := { c.crl with staged := p.start, stagedComputed := p.computed } } p.eff).all c.domOn) = true) := by
  decide +kernel

/-- The state of a draft service: the host port at its full level. -/
def draftAsk (st : StgState) (op : Nat) (pay : Bytes) : State :=
  asking op 0 pay (fun b => { b.setReg Reg.MBX_PRIV 0xFFFFFFFF with
    stg := { st := st, owner := .host, eff := some small }, cst := { st := 2 } })

/-- The payload of the least length that each service takes (R439), with a first operand at the end of its range where it has one. -/
def svcPays : List (Nat × Bytes) :=
  [(0x01, []), (0x02, []), (0x03, leBytes 4 1 ++ leBytes 4 Reg.SYS_ID), (0x04, leBytes 4 1 ++ leBytes 4 Reg.MTX_INT ++ leBytes 4 63),
   (0x05, leBytes 2 511 ++ leBytes 2 1), (0x06, [31, 0, 0, 0]), (0x06, [20, 0, 0, 0]), (0x10, []), (0x11, leBytes 4 0xFFFFFF ++ [7]),
   (0x12, leBytes 4 0x1000000), (0x13, leBytes 8 0), (0x14, []), (0x15, []), (0x20, leBytes 12 0 ++ leBytes 4 1 ++ leBytes 4 8191 ++ leBytes 4 7),
   (0x21, leBytes 8 0 ++ [0, 1, 0, 0] ++ leBytes 16 0), (0x22, []), (0x30, []), (0x31, leBytes 16 0), (0x31, leBytes 8 1 ++ leBytes 8 0),
   (0x32, leBytes 4 0x2000000 ++ leBytes 4 1), (0x40, [255, 1, 0, 0]), (0x41, [0, 31, 0, 0]), (0x41, [1, 3, 0, 0]), (0x41, [2, 3, 0, 0]),
   (0x42, [47, 0, 0, 0]), (0x50, [0, 0, 0, 0]), (0x50, [1, 0, 0, 0]), (0x51, []), (0x60, [1, 0, 0, 0]), (0x60, [2, 0, 0, 0])]

/-- Each service's request begins: Begins of DraftServices, ReadServices, EditServices and ActServices. -/
theorem test_hyp_services : ∀ x ∈ svcPays, Begins (asking x.1 2 x.2 id).blk x.1 2 { port := 2, op := x.1, relayed := true, pay := x.2 } := by
  unfold Begins; decide +kernel

theorem test_hyp_DraftServices :
    (∀ x ∈ svcPays.filter (fun x => x.1 / 16 == 1), ∀ st ∈ [StgState.empty, .loading, .valid],
      Begins (draftAsk st x.1 x.2).blk x.1 0 { port := 0, op := x.1, relayed := true, pay := x.2 }) ∧
    ∀ st ∈ [StgState.empty, .loading, .valid], let b := (draftAsk st 0x13 (leBytes 8 0)).blk
      b.srcRefused (portSource 0) = 0 ∧ b.severed = false ∧ b.stg.st = st ∧ b.stg.owner = portSource 0 ∧ b.paired = false ∧
        b.par.proposed = none ∧ b.sys.memErr = [] ∧ b.cst.st = 2 ∧ b.stg.eff = some small ∧ u64 (leBytes 8 0) 0 = 0 := by
  unfold Begins; refine ⟨?_, ?_⟩ <;> decide +kernel

/-! ## Spindles -/

/-- Spindle 0 running the word `w` in a kernel of 8 words with all of its X and Y memory. -/
def spin (w : Nat) (x : Spindle) : State :=
  at' (fun b => (b.setSpn 0 { x with run := true, desc := { pLen := 8, xSize := 65536, ySize := 65536 } }).wrLE 0x30020000 8 w)

/-- A word of each instruction, written from its class and OP or FORM; fields 0 but for YOP and OUTB. -/
def spnWords : List (SpnOp × Nat) :=
  [(.nop, 0), (.waitb, 2 ^ 54), (.br, 2 * 2 ^ 54), (.loop, 3 * 2 ^ 54 + 1), (.add, 2 ^ 60), (.sub, 2 ^ 60 + 2 ^ 54),
   (.adds, 2 ^ 60 + 2 * 2 ^ 54), (.subs, 2 ^ 60 + 3 * 2 ^ 54), (.and_, 2 ^ 60 + 4 * 2 ^ 54), (.or_, 2 ^ 60 + 5 * 2 ^ 54),
   (.xor_, 2 ^ 60 + 6 * 2 ^ 54), (.shl, 2 ^ 60 + 7 * 2 ^ 54), (.asr, 2 ^ 60 + 8 * 2 ^ 54), (.lsr, 2 ^ 60 + 9 * 2 ^ 54),
   (.min_, 2 ^ 60 + 10 * 2 ^ 54), (.max_, 2 ^ 60 + 11 * 2 ^ 54), (.abs_, 2 ^ 60 + 12 * 2 ^ 54), (.neg, 2 ^ 60 + 13 * 2 ^ 54),
   (.mulf, 2 ^ 60 + 14 * 2 ^ 54), (.muli, 2 ^ 60 + 15 * 2 ^ 54)] ++
  [(.macComplex, 2 * 2 ^ 60 + 2 ^ 45), (.macConjugate, 2 * 2 ^ 60 + 2 ^ 58 + 2 ^ 45), (.macDualReal, 2 * 2 ^ 60 + 2 ^ 59 + 2 ^ 45),
   (.ld, 3 * 2 ^ 60), (.st, 3 * 2 ^ 60 + 2 ^ 54), (.ldc, 3 * 2 ^ 60 + 2 * 2 ^ 54), (.stc, 3 * 2 ^ 60 + 3 * 2 ^ 54),
   (.sta, 3 * 2 ^ 60 + 4 * 2 ^ 54), (.ldi, 3 * 2 ^ 60 + 5 * 2 ^ 54), (.mov, 3 * 2 ^ 60 + 6 * 2 ^ 54),
   (.ldacc, 3 * 2 ^ 60 + 7 * 2 ^ 54), (.aupd, 3 * 2 ^ 60 + 8 * 2 ^ 54), (.exp, 4 * 2 ^ 60), (.expa, 4 * 2 ^ 60 + 2 ^ 54),
   (.norm, 4 * 2 ^ 60 + 2 * 2 ^ 54), (.bxdr, 4 * 2 ^ 60 + 3 * 2 ^ 54), (.aclr, 4 * 2 ^ 60 + 4 * 2 ^ 54),
   (.bfly, 5 * 2 ^ 60 + 2 ^ 27)]

/-- Every instruction's word runs on spindle 0; SpnAt of SpindleArithmetic, SpindleRegisterMoves and the others. -/
theorem test_hyp_SpnAt : ∀ p ∈ spnWords, SpnAt (spin p.2 {}).blk 0 p.1 p.2 := by unfold SpnAt; decide +kernel

/-- The three MACs, from the last words of X and of Y; a butterfly to two places. -/
theorem test_hyp_SpindleMacAndButterfly :
    (let w := fun (v : Nat) => 2 * 2 ^ 60 + v * 2 ^ 58 + 2 ^ 45
     let b := fun (v : Nat) => (spin (w v) { a := [(0, 65528), (4, 0x1FFF8)] }).blk
     MacReady (b 0) 0 .macComplex (w 0) ∧ MacReady (b 1) 0 .macConjugate (w 1) ∧ MacReady (b 2) 0 .macDualReal (w 2)) ∧
    (let b := (spin (5 * 2 ^ 60 + 2 ^ 27) { a := [(1, 8)] }).blk
     SpnAt b 0 .bfly (5 * 2 ^ 60 + 2 ^ 27) ∧ (b.spn 0).areg (grpOf (fld (2 ^ 27) 22 8)).an = 8 ∧ InSpace b 0 0 8 ∧ InSpace b 0 8 8 ∧
       SpnPhys b 0 8 + 8 ≤ cisternBase ∧ SpnPhys b 0 0 + 8 ≤ SpnPhys b 0 8) := by
  unfold MacReady InSpace SpnAt SpnPhys; decide +kernel

/-- Loads and stores at the last words of X memory. -/
theorem test_hyp_SpindleMemory :
    (let w := fun (op : Nat) => 3 * 2 ^ 60 + op * 2 ^ 54
     let b := fun (op a : Nat) => (spin (w op) { a := [(0, a)] }).blk
     let g := grpOf 0
     AccessReady (b 0 65532) 0 .ld (w 0) g 0 4 ∧ AccessReady (b 1 65532) 0 .st (w 1) g 0 4 ∧ AccessReady (b 2 65528) 0 .ldc (w 2) g 0 8 ∧
       AccessReady (b 3 65528) 0 .stc (w 3) g 0 8 ∧ AccessReady (b 4 65532) 0 .sta (w 4) g 0 (4 * (staWords ((b 4 65532).spn 0) (w 4)).length)) := by
  unfold AccessReady SpnAt InSpace SpnAddr SpnPhys; decide +kernel

theorem test_hyp_SpindleControl :
    (let b := (spin (4 * 2 ^ 54) { loops := [(0, 5)] }).blk
     SpnAt b 0 .break_ (4 * 2 ^ 54) ∧ (b.spn 0).loops = [(0, 5)]) ∧
    (let b := (spin 0 { loops := [(0, 0)], lc := [(0, 2)] }).blk
     SpnAt b 0 .nop 0 ∧ (b.spn 0).loops = (0, (b.spn 0).rel') :: [] ∧ 1 < (b.spn 0).lcReg 0) ∧
    (let b := (spin 0 { loops := [(0, 0)], lc := [(0, 1)] }).blk
     SpnAt b 0 .nop 0 ∧ (b.spn 0).loops = [(0, (b.spn 0).rel')] ∧ (b.spn 0).lcReg 0 ≤ 1) := by
  unfold SpnAt; decide +kernel

theorem test_hyp_SpindleWaitAndIllegal :
    (let b := (spin (2 ^ 54) { todo := [(1, {})] }).blk
     SpnAt b 0 .waitb (2 ^ 54) ∧ (b.spn 0).todo = [(1, {})]) ∧ (State.reset.blk.spn 0).run = false ∧
    (let b := (spin (15 * 2 ^ 60) {}).blk
     (b.spn 0).run = true ∧ b.localEcc 0 = .ok ∧ spnOpOf (b.spnWord 0) = none ∧ (b.spn 0).todo = []) ∧
    (let b := (spin 0 { pc := 8 }).blk
     (b.spn 0).run = true ∧ b.localEcc 0 = .ok ∧ pcIn (b.spn 0) = false) ∧
    (let b := (spin 1 {}).blk
     spnOpOf (b.spnWord 0) = some .nop ∧ spnLegal (b.spn 0) .nop (b.spnWord 0) = false) := by
  unfold SpnAt; decide +kernel

/-! ## The loom -/

/-- A chunk of a draft in force. -/
def withChunks (cs : List (Nat × Nat × Bytes)) : Draft := { small with chunks := small.chunks ++ cs.map (fun c => { tag := c.1, inst := c.2.1, pay := c.2.2 }) }

/-- Delay line 0 of domain B, 64 samples. -/
def oneLine : Draft := withChunks [(tagDLAY, 0, leBytes 2 0 ++ leBytes 2 1 ++ leBytes 4 64)]

/-- The image of a card of this operation (R113). -/
def cardImg (op dst : Nat) : Nat := op * 2 ^ 122 + dst * 2 ^ 94

theorem test_hyp_LoomCards :
    (∀ op, op < 17 → (cardFields (BitVec.ofNat 128 (cardImg op 0x1400))).op = op ∧ (cardFields (BitVec.ofNat 128 (cardImg op 0x1400))).dst = 0x1400) ∧
    (cardFields (BitVec.ofNat 128 0)).meter = false ∧ isBus 0x1600 = false ∧
    (let k := cardFields (BitVec.ofNat 128 (cardImg 6 0x1400))
     let c := { State.reset.blk with loom := { acc := [(0x1400, 2 ^ 63)] } }
     0x1200 ≤ k.dst ∧ c.passSample 1 = 0 ∧ clampS 64 (tget 0 c.loom.acc k.dst) ≠ tget 0 c.loom.acc k.dst ∧ k.dst ∉ (c.pass 1).ovf) ∧
    (let k := cardFields (BitVec.ofNat 128 (cardImg 10 0x1600))
     let c := { (staged { force := some oneLine }).blk with cst := { st := 2 } }
     let e := { c with loom := { lines := [(0, { since := some 1 })] } }
     c.draftAt 1 0 = some oneLine ∧ (oneLine.dlay? k.line).isSome = true ∧ c.lineLate 1 0 k.line (0 - fld k.opnd 12 20 + 1) = false ∧
       e.draftAt 1 0 = some oneLine ∧ e.lineLate 1 0 k.line (0 - fld k.opnd 12 20 + 1) = true ∧
       clampS 64 (tget 0 e.loom.dlyOut (dlyKey 1 k)) = tget 0 e.loom.dlyOut (dlyKey 1 k)) ∧
    (let k := cardFields (BitVec.ofNat 128 (cardImg 13 0x1600))
     let c := { State.reset.blk with crl := { run := [{ inLane := 0x1600, nIn := 1 }] } }
     c.crl.run.filter (fun q => q.k == k.kernel && q.takes (c.passSample 1 / c.spb 1)) = [{ inLane := 0x1600, nIn := 1 }] ∧ c.sys.memErr = [] ∧
       bufWord (basinBase 0) (ringLen false) 1 (c.spb 1) 0 0 0 + 4 ≤ cisternBase) ∧
    (cardFields (BitVec.ofNat 128 (cardImg 15 0 + 8 * 2 ^ 64))).meter = true := by
  decide +kernel

/-- A draft whose ply 0 is one loom lane. -/
def busless : Draft :=
  { serial := 7, chunks := [{ tag := tagDOMN, pay := leBytes 16 2 }, { tag := tagLANE, pay := leBytes 4 (0x1600 + 2 ^ 13) }, { tag := tagPLYS, pay := leBytes 4 0x1600 }] }

theorem test_hyp_LoomPasses :
    (let c := { (staged { force := some small }).blk with loom := { decks := [(0, (0, 2))], cards := [(1, BitVec.ofNat 128 (63 * 2 ^ 122))] } }
     let b0 := c.toTick 0 1
     b0.passReady 0 0 = true ∧ b0.rivals 0 0 = [] ∧ 0 < (c.passCourses 0 0).length) ∧
    (let c := { (staged { force := some small }).blk with
       loom := { decks := [(0, (0, 2))], cards := [(1, BitVec.ofNat 128 (63 * 2 ^ 122))], passes := [(0, { active := true, meters := [(3, 15, 0, 2 * 5)] })] } }
     (c.pass 0).active = true ∧ c.rivals 0 (c.pass 0).sample = [] ∧ (c.pass 0).course + 0 < (c.passCourses 0 (c.pass 0).sample).length ∧
       (c.pass 0).wrote = [] ∧ (c.pass 0).meters = [(3, 15, 0, 2 * 5)]) ∧
    4 ≤ (tget (0, 0) ({ overruns := [(1, (9, 4))] } : Loom).overruns 1).2 := by
  decide +kernel

theorem test_hyp_LoomEdits :
    (let c := { (staged { force := some small }).blk with loom := { decks := [(1, (0, 2))] } }
     c.domOn 11 = true ∧ c.editsQueued < 256 ∧ c.cardEditBad 1 0 0 = false ∧ c.cardEditBad 1 2 0 = true ∧ c.rfld Reg.LOM_EDIT_CIDX 0 14 < 8192 ∧
       c.loom.coefBank.wide = false ∧ 8192 ≤ (c.setReg Reg.LOM_EDIT_CIDX 8192).rfld Reg.LOM_EDIT_CIDX 0 14) ∧
    (State.reset.blk.rb Reg.LOM_EDIT_CTRL 0 = false ∧ (State.reset.blk.setReg Reg.LOM_EDIT_CTRL 1).rb Reg.LOM_EDIT_CTRL 0 = true) ∧
    (let e : Edit := { entry := 3, val := 4 }
     e.held = false ∧ e.due ≤ State.reset.blk.blk) ∧
    (let c := { (staged { force := some oneLine }).blk with cst := { st := 2 }, loom := { lines := [(0, { hold := [(3, 1)], since := some 3 })] } }
     oneLine.dlays.map (fun r => (r.line, r.dom)) = [(0, 1)] ∧ (c.line 0).hold = [(3, 1)] ∧ 3 < (0 + 1) * c.spb 1 ∧ c.sys.memErr = []) := by
  decide +kernel

/-! ## Releases, staging and the creel -/

/-- A kernel header of one instruction, no memory, one input and one output, in domain B (R52), and its descriptor in a run list (R168). -/
def kern5 : Bytes := [1, 1, 1, 1] ++ leBytes 4 100 ++ leBytes 2 0x1600 ++ leBytes 2 0x1700 ++ leBytes 2 1 ++ List.replicate 34 0 ++ leBytes 8 0

/-- A draft in force with kernel 5. -/
def oneKern : Draft := withChunks [(tagKERN, 5, kern5)]

/-- Kernel 5 on spindle 0, from block 0 on. -/
def place5 : Place := { k := 5, dom := 1, nIn := 1, nOut := 1, cycles := 100, progWords := 1, inLane := 0x1600, outLane := 0x1700 }

/-- A descriptor of kernel 5 at the head of spindle 0's run list. -/
def desc5 : Bytes :=
  leBytes 2 0x8005 ++ [2, 0, 1, 1] ++ leBytes 2 0 ++ leBytes 2 1 ++ List.replicate 6 0 ++ leBytes 4 100 ++ List.replicate 36 0 ++ leBytes 8 (2 ^ 64 - 1)

theorem test_hyp_ReleasesAndStaging :
    (let s := (at' (fun b => { (b.setReg (Reg.SPN_SCTRL 0 0) 1).wrBytes (basinBase 0) desc5 with
       stg := { force := some oneKern }, crl := { run := [place5] } })).blk
     let c := (s.toRelease 1 1).clearOut 1 1
     s.steady ∧ s.sys.memErr = [] ∧ (∀ k, k < 64 → k ≠ 0 → s.rb (Reg.SPN_SCTRL (k / 8) (k % 8)) 0 = false ∧ s.armed k 1 = false) ∧ s.crl.migs = [] ∧
       (∀ p ∈ s.crl.run, p.dom = 1 → p.ended = false ∧ (p.inList 1 = true → p.inList 2 = true)) ∧
       s.rb (Reg.SPN_SCTRL 0 0) 0 = true ∧ (s.spn 0).isol = false ∧ s.bobbinOn 0 = true ∧ s.armed 0 1 = false ∧ (c.curList 0).map (·.1) = [0] ∧
       ((c.curList 0).all (fun e => e.2.dom == 1 && dueAt 1 e.2 && !(s.placeOfDesc 0 e.2).dead && !e.2.l2)) = true) ∧
    (∀ k, (State.reset.blk.spn k).run = false) ∧
    (let p := { place5 with l2 := true, sSize := 64, staged := [] }
     let c := Block.toRelease { (staged { force := some oneKern }).blk with crl := { run := [p] } } 1 1
     c.crl.run.filter (fun q => q.k == 5 && q.l2 && q.takes 0 && !q.dead) = [p] ∧ c.release 1 = 0 + 1 ∧ c.owesOut p 0 = false ∧
       c.stageBase p 0 + p.sSize ≤ cisternBase) ∧
    (let c := (at' (fun b => { b with stg := { force := some oneKern }, tsu := { sec := 1 } })).blk
     let l := c.stageBase { place5 with l2 := true, sSize := 64 } 0 / 64
     let p := { place5 with l2 := true, sSize := 64, tier := 4, sHome := cisternBase - 64, outOwed := [0], wrote := [(0, [l])] }
     [p].filter (fun q => q.k == 5 && q.l2 && q.outOwed.contains 0) = [p] ∧ 0 + 3 ≤ c.release 1 ∧ p.wrote.find? (fun w => w.1 == 0) = some (0, [l]) ∧
       c.stageBase p 0 ≤ 64 * l ∧ 64 * l + 64 ≤ c.stageBase p 0 + p.sSize ∧ p.home + (64 * l - c.stageBase p 0) + 64 ≤ cisternBase) := by
  unfold Block.steady; refine ⟨by decide +kernel, fun _ => rfl, by decide +kernel, by decide +kernel⟩

theorem test_hyp_FaultMap :
    (at' id).blk.domOn 2 = true ∧
    (let c := { (at' id).blk.setReg Reg.CRL_ECC_THR 1 with crl := { eccAt := [(4, [0])] } }
     4 ∉ c.crl.fmap ∧ 0 < c.reg Reg.CRL_ECC_THR % 65536 ∧
       c.reg Reg.CRL_ECC_THR % 65536 ≤ ((tget [] c.crl.eccAt 4).filter (fun x => decide (c.now / 2 ^ 32 < x + 1000000000))).length) ∧
    ((at' id).blk.setReg Reg.CRL_RETURN_HI 1).rb Reg.CRL_RETURN_HI (32 % 32) = true ∧
    (let q := { place5 with area := 0x80000 }
     let c := { (staged { force := some oneKern }).blk with crl := { restarts := [q] } }
     (oneKern.kern? 5).isSome = true ∧ c.crl.restarts.find? (fun q => q.k == 5) = some q ∧ q.s ∉ c.crl.fmap ∧
       c.bobbinOn (q.s / 8) = true ∧ (oneKern.kern? 5).all (fun kn => fitsAt (c.setCrl (fun r => { r with
         restarts := r.restarts.filter (fun q => q.k != 5), waits := r.waits.filter (fun q => q.k != 5) })).occ kn q.cplace) = true) := by
  decide +kernel

theorem test_hyp_Migrations :
    ((staged { force := some small }).blk.domOn 2 = true) ∧
    (let c := { (staged { force := some oneKern }).blk with crl := { run := [place5], want := [{ k := 5, s := 8, area := 0x80000 }] } }
     oneKern.kerns.map (·.id) = [5] ∧ c.runPlace 5 = some place5 ∧ atPlace place5 { k := 5, s := 8, area := 0x80000 } = false ∧ c.crl.held = false ∧
       c.crl.migs = [] ∧ c.crl.pinned = [] ∧ c.crl.retry = [] ∧ 0 < c.rfld Reg.CRL_CTRL 4 4 ∧
       (oneKern.kern? 5).all (fun k => c.targetFits k { k := 5, s := 8, area := 0x80000 }) = true ∧ c.bobbinOn 1 = true ∧ 8 ∉ c.crl.fmap) ∧
    (let q := { place5 with s := 8, dest := true }
     let p := { place5 with doneBlks := [3], tier := 4, xSize := 64 }
     let m : Mig := { k := 5, dst := 8, st := .catchup, c := 4, dirty := [spnWindow 0 / 64] }
     let c := { (staged { force := some oneKern }).blk with crl := { run := [p, q], migs := [m] } }
     m.caught = none ∧ c.runPlace 5 = some p ∧ c.destPlace 5 = some q ∧ m.c - 1 ∈ p.doneBlks ∧ c.sys.memErr = [] ∧ p.ySize = 0 ∧ q.s < 64 ∧
       q.xBase + p.xSize ≤ 0x10000 ∧ spnWindow p.s + p.xBase ≤ 64 * (spnWindow 0 / 64) ∧
       64 * (spnWindow 0 / 64) + 64 ≤ spnWindow p.s + p.xBase + p.xSize) ∧
    (let t : CPlace := { k := 5, s := 8, area := 0x80000 }
     let c := { (staged { force := some oneKern }).blk.setReg Reg.CRL_CTRL 16 with crl := { run := [place5], want := [t], retry := [(5, 3, 20, 1)] } }
     c.crl.want.find? (fun x => x.k == 5) = some t ∧ c.runPlace 5 = some place5 ∧ (c.toBlk 20).mayMigrate = true ∧
       (oneKern.kern? 5).all (fun k => (c.toBlk 20).targetFits k t && k.id == 5) = true ∧ t.s ∉ c.crl.fmap ∧
       ¬(t.s ∉ ({ fmap := [8] } : Creel).fmap)) ∧
    ((at' (fun b => b.setReg Reg.PWR_MODE 2)).blk.mode = 2 ∧ ((staged { force := some oneKern }).blk.toBlk 1).occ = [] ∧
      place5.s / 8 ≠ 1 ∧ ((staged {}).blk.toBlk 1).stg.st ≠ .armed) := by decide +kernel

/-! ## The cistern -/

/-- The cistern in a state, with every domain on. -/
def cistern (c : Cistern) : State := at' (fun b => { b with cst := c })

theorem test_hyp_CisternStates :
    ((cistern {}).blk.domOn 12 = true ∧ (cistern {}).blk.cst.st = 0 ∧ (cistern {}).blk.masksValid = true ∧
      ((cistern {}).blk.setReg (Reg.CST_BANKHASH 0) 0).masksValid = false ∧ (cistern {}).blk.sys.memErr = []) ∧
    (let c := (cistern { st := 2, held0 := some 0, rdq := [{ len := 8 }] }).blk
     c.cst.held0 = some (c.rfld Reg.CST_FREQ 0 2) ∧ c.chgDemand ≤ 100 * cstBudget c.cst.ecc 0 ∧ c.hasBank 3 = true ∧ c.hasBank 16 = false ∧
       c.steady ∧ c.sys.memErr = [] ∧ ∃ r ∈ c.cst.rdq, r.cut = false) ∧
    ¬(cistern { st := 2 }).blk.cst.held0 = some 0 ∧
    (∀ st ∈ [2, 3], (cistern { st := st, fchg := some (9, 1) }).blk.cst.fchg = some (9, 1) ∧ (cistern { st := st, fchg := some (9, 1) }).blk.steady) ∧
    (∃ d ∈ ([(257, false)] : List (Int × Bool)).take 2, d.2 = false ∧ (d.1 < -256 ∨ 256 < d.1)) ∧
    ¬(∃ d ∈ ([(256, false), (257, true)] : List (Int × Bool)).take 2, d.2 = false ∧ (d.1 < -256 ∨ 256 < d.1)) := by
  unfold Block.steady; decide +kernel

theorem test_hyp_CisternRequestsAndReservoirs :
    (let c := (cistern { st := 2, ecc := true }).blk
     c.cst.rdq = [] ∧ c.cst.rdWait = [] ∧ c.cst.wrWait = [] ∧ c.cst.drain = none ∧ c.sys.memErr = [] ∧ c.cst.wrq.length < 64 ∧
       64 ≤ (cistern { wrq := List.replicate 64 {} }).blk.cst.wrq.length ∧
       c.pieces cisternBase [0] = [(cisternBase, [0])] ∧ c.mayWrite 13 cisternBase = true ∧ c.mayWrite 0 cisternBase = false ∧
       c.pieces 0x41FFFFFFF [1, 2] = [(0x41FFFFFFF, [1]), (0x420000000, [2])] ∧ c.mayWrite 1 0x41FFFFFFF = false ∧ c.mayWrite 1 0x420000000 = true) ∧
    (let c := (cistern { st := 2, wrq := List.replicate 5 {} }).blk
     c.cst.drain = none ∧ (c.setReg Reg.CST_WM 0x30001).rfld Reg.CST_WM 16 7 ≤ 5 ∧ 5 < (c.setReg Reg.CST_WM 0x400001).rfld Reg.CST_WM 16 7) ∧
    (let c := (at' (fun b => { (((b.setReg (Reg.CST_RSV_BASE_HI 0) 4).setReg (Reg.CST_RSV_BASE_LO 0) 0x40000000).setReg (Reg.CST_RSV_LEN 0) 4096).setReg
       (Reg.CST_CFG) 3 with stg := { force := some busless }, cst := { st := 2 } })).blk
     let b0 := fun v => (c.setReg (Reg.CST_RSV_CTRL 0) (rsvCtrl (c.reg (Reg.CST_RSV_CTRL 0)) v 1)).setRsv 0 { c.rsv 0 with acc := false }
     (b0 0).rsvRefused 0 (fld 0 0 9) = false ∧ (b0 1).rsvRefused 0 (fld 1 0 9) = true ∧ c.domOn 12 = true) ∧
    (let c := (cistern { rsv := [(0, { acc := true })] }).blk
     (c.rsv 0).acc = true ∧ (c.rsv 0).run = false ∧ c.domOn 12 = true ∧ c.steady) ∧
    (∀ dom, (State.reset.blk.pass dom).active = false) :=
  ⟨by decide +kernel, by decide +kernel, by decide +kernel, by unfold Block.steady; decide +kernel, fun _ => rfl⟩

/-! ## The ports, forwarding and flows -/

/-- A frame of 60 bytes from 02:00:00:00:00:01 to this address, with its FCS. -/
def frameTo (da : Bytes) : Bytes :=
  let g := da ++ [2, 0, 0, 0, 0, 1, 0x88, 0xB5] ++ List.replicate 46 0
  g ++ fcsOf g

/-- Ports M0 and M1 up at 1 Gb/s, M0's queue 0 with 8 KiB, and forwarding between them. -/
def portsUp (f : Block → Block) : State :=
  at' (fun b => f (((((b.setReg (portBase 0) (2 + 1522 * 65536)).setReg (portBase 1) (2 + 1522 * 65536)).setReg (portBase 0 + 4) 1).setReg
    (portBase 1 + 4) 1).setReg (portBase 0 + 0x40) 8))

theorem test_hyp_NetFrames :
    (let c := (portsUp id).blk
     let f := frameTo (List.replicate 6 0xFF)
     let g := f.take (f.length - 4)
     c.portUp 0 = true ∧ (c.port 0).cuts = [] ∧ (c.port 0).look = none ∧ c.net.tbl = none ∧ (c.malformed 0 (f.take 60) false).isSome = true ∧ c.malformed 0 f false = none ∧ ptpLike g = none ∧
       c.fwdSet 0 g = [] ∧ c.accepts 0 g = true ∧ c.classify 0 g = some 1 ∧ rxUsed (c.rxq 0 1) + rxCost { bytes := g } ≤ c.rxSize 0 1) ∧
    (let c := (portsUp (fun b => b.setReg Reg.FWD_CTRL 0x2033)).blk
     let f := frameTo [1, 2, 3, 4, 5, 6]
     let g := f.take (f.length - 4)
     c.malformed 0 f false = none ∧ c.fwdSet 0 g = [1] ∧ c.accepts 0 g = false ∧ c.txRoom 1 (fwdQueue g) (g.length + 4) = true ∧
       c.rb Reg.FWD_CTRL 1 = true ∧ isGroup (saOf g) = false ∧ c.fwdFind (vidOf g) (saOf g) = none ∧
       4 * fwdBucket (fwdKey (vidOf g) (saOf g)) ∈ upFrom (4 * fwdBucket (fwdKey (vidOf g) (saOf g))) 4 ∧
       (c.port 0).look = none ∧ c.net.tbl = none ∧ 64 ≤ f.length ∧ c.cutOk 0 1 f = true ∧ ∀ x ∈ (c.port 0).cuts, x.egress ≠ 1) ∧
    (let t : TxFrame := { bytes := List.replicate 60 0, present := 60 }
     let c := (portsUp (fun b => { b with net := { ports := [(0, { tx := [(1, [t])] })] } })).blk
     (c.port 0).cur = none ∧ c.portUp 0 = true ∧ c.cutting 0 = false ∧ c.txq 0 1 = [t] ∧ 1 < txQueues 0 ∧ (∀ j, j < 1 → c.txq 0 j = []) ∧
       t.whole = true ∧ t.rx = none ∧ t.host = none ∧ ptpLike (padTo60 t.bytes) = none) ∧
    (let c := { State.reset.blk with net := { ports := [(0, { cur := some ({ bytes := List.replicate 60 0 }, 9) })] } }
     (c.port 0).cur = some ({ bytes := List.replicate 60 0 }, 9)) := by decide +kernel

theorem test_hyp_NetLinksAndFieldBus :
    (let c := ((portsUp id).blk).setReg (portBase 0 + 4) 0
     c.portSpeed 0 ≠ 0 ∧ c.portUp 0 = false ∧ c.domOn 13 = true ∧ (portsUp id).blk.portUp 0 = true) ∧
    (¬(fld 4 2 2 = 3 ∨ (fld 4 2 2 = 2 ∧ (portsUp id).blk.portSpeed 0 = 1)) ∧ fld 12 2 2 = 3) ∧
    (let c := (portsUp id).blk
     let total := fun v => ((below (rxQueues 0)).map (fun i => if i = 0 then fld v 0 9 else fld (c.reg (portBase 0 + 0x40 + 4 * i)) 0 9)).sum
     c.islandOff (portBase 0 + 0x40) = false ∧ 0 < rxQueues 0 ∧ total 0 ≤ 256 ∧ 256 < total 511) ∧
    (∀ ph ∈ [FbsPhase.idle, .deferring, .sending, .backoff], ∀ n ∈ [3, 16],
      let c := { (State.reset.blk.setReg Reg.FBS_CFG 1) with net := { ports := [(5, { tx := [(0, [{}])], phase := ph, attempt := n })] } }
      c.steady ∧ c.txq 5 0 = [{}] ∧ (c.port 5).phase = ph ∧ c.portUp 5 = true ∧ (c.port 5).attempt = n) ∧
    ((at' id).blk.domOn 14 = true ∧ (at' id).blk.net.mdio = false) := by
  unfold Block.steady; decide +kernel

theorem test_hyp_ForwardingTable :
    (at' id).blk.domOn 13 = true ∧ (at' id).blk.net.tbl = none ∧ ((at' id).blk.fwdEnt 5).vid < 4096 ∧ tabWf ({} : FwdEntry) (at' id).blk.net.fwd = true ∧
    (let c := { (at' (fun b => b.setReg Reg.FWD_CTRL 0x10000)).blk with net := { fwd := [(5, { valid := true, hit := true })] } }
     tabWf ({} : FwdEntry) c.net.fwd = true ∧ c.rfld Reg.FWD_CTRL 16 16 ≠ 0) := by decide +kernel

/-- A skein of one lane in domain B, one packet each 125 us, from M0 to 239.0.0.1 port 5004 (R48). -/
def skinPay (first : Nat) : Bytes :=
  leBytes 2 first ++ [1, 0, 0, 0, 0xFF, 0, 96, 1, 4, 0] ++ leBytes 4 0 ++ [239, 0, 0, 1] ++ List.replicate 44 0 ++ leBytes 2 5004 ++ List.replicate 14 0

/-- A draft in force with receive skein 0 on lane 0 and transmit skein 128 on lane 0x800. -/
def oneSkein : Draft :=
  { serial := 7, chunks := [{ tag := tagDOMN, pay := leBytes 16 2 }, { tag := tagLANE, pay := leBytes 4 (2 ^ 13) ++ leBytes 4 (0x800 + 2 ^ 13) },
      { tag := tagPLYS, pay := leBytes 4 0 ++ leBytes 4 (0x800 + 2 ^ 19) }, { tag := tagSKIN, inst := 0, pay := skinPay 0 },
      { tag := tagSKIN, inst := 128, pay := skinPay 0x800 }] }

/-- An RTP packet of six samples for that skein. -/
def rtpFrame : Bytes :=
  [0x01, 0x00, 0x5E, 0x00, 0x00, 0x01, 0x02, 0x00, 0x00, 0x00, 0x00, 0x01, 0x08, 0x00, 0x45, 0x00, 0x00, 0x34, 0x00, 0x00, 0x00, 0x00, 0x01, 0x11, 0xC0, 0xB6, 0x0A, 0x00, 0x00, 0x02, 0xEF, 0x00, 0x00, 0x01, 0x13, 0x8C, 0x13, 0x8C, 0x00, 0x20, 0x00, 0x00, 0x80, 0x60, 0x00, 0x01, 0x00, 0x00, 0x00, 0x64, 0x00, 0x00, 0x12, 0x34, 0x00, 0x00, 0x00, 0x00, 0x00, 0x00, 0x00, 0x00, 0x00, 0x00, 0x00, 0x00]

theorem test_hyp_Flows :
    (let c := (portsUp (fun b => { b with stg := { force := some oneSkein }, net := { txs := [(128, { run := true })] } })).blk
     c.steady ∧ ((c.skein? 128).map (fun x => (x.1.portA, x.1.portB, x.1.af, x.2)) = some (0, 0xFF, 4, (1, 6))) ∧ (c.txs 128).run = true ∧ 12 % 6 = 0 ∧
       (c.txs 128).next < 12 + 6 ∧ c.tick 1 ≤ 12 + 6 - 1 ∧ c.drives = true ∧ c.loom.stopped = false ∧
       (c.skein? 128).all (fun x => u8 x.1.dstA 0 / 16 == 14) = true ∧ (oneSkein.addr 0).ipv4.length = 4 ∧ c.portUp 0 = true ∧
       (c.skein? 128).all (fun x => decide (txUsed (c.txq 0 1) + (100 + (c.rtpPayload x.1 6 12).length) ≤ 48 * 1024)) = true) ∧
    (∀ (b : Block) i, 128 ≤ i → i < 128 → b.dueNow 1 17 i = none) ∧
    (let fr : RxFrame := { bytes := rtpFrame }
     let c := (portsUp (fun b => { b with stg := { force := some oneSkein }, net := { ports := [(0, { rx := [(0, [fr])] })], rxs := [(0, { st := 1 })] } })).blk
     c.rxDest 0 0 = 0 ∧ c.rxq 0 0 = [fr] ∧ c.earlier 0 0 = none ∧ (matchSkein oneSkein 0 fr.bytes).map (fun x => (x.1.inst, x.2)) = some (0, 0) ∧
       matchSkein oneSkein 0 (frameTo [1, 2, 3, 4, 5, 6]) = none ∧ (c.rxs 0).st ≠ 0 ∧ c.loom.stopped = false ∧ c.sys.firmware = false ∧
       ((matchSkein oneSkein 0 fr.bytes).map (fun x => (violation x.1 6 none fr.bytes).toOption.isSome) = some true) ∧
       ((matchSkein oneSkein 0 fr.bytes).map (fun x => (violation x.1 6 (some 9) fr.bytes).toOption.isSome) = some false)) ∧
    (let c := { (staged { force := some oneSkein }).blk with net := { rxs := [(0, { st := 2, ramp := 32, buf := [(9, [5])] })] } }
     c.steady ∧ ((c.skein? 0).map (·.2) = some (1, 6)) ∧ (c.rxs 0).st = 2 ∧ (c.rxs 0).spill = false ∧ (c.rxs 0).ramp = 32 ∧
       (c.rxs 0).buf.find? (fun e => e.1 == 9) = some (9, [5]) ∧ (c.rxs 0).buf.find? (fun e => e.1 == 8) = none) ∧
    (let c := { (staged { force := some oneSkein }).blk with net := { rxs := [(0, { st := 3, aUp := true, bUp := true, spill := true })] } }
     c.steady ∧ (c.rxs 0).st = 3 ∧ (c.rxs 0).aUp = true ∧ (c.rxs 0).bUp = true ∧ (c.rxs 0).spill = true ∧ (c.skein? 0).isSome = true ∧
       c.sys.memErr = []) := by
  refine ⟨?_, fun _ i h1 h2 => absurd h2 (by omega), ?_⟩
  · unfold Block.steady; decide +kernel
  · unfold Block.steady; decide +kernel

/-! ## Time and the wellhead -/

theorem test_hyp_TimeUnit :
    (at' id).blk.domOn 19 = true ∧
    (let b := ((at' id).blk.setReg Reg.TSU_INCR_LO 0xF8000000)
     0x1F8000000 ≤ b.reg Reg.TSU_INCR_LO + 2 ^ 32 * (1 % 4) ∧ ¬ 0x1F8000000 ≤ b.reg Reg.TSU_INCR_LO + 2 ^ 32 * (0 % 4)) ∧
    (let b := (at' id).blk
     (toS 32 (b.reg Reg.TSU_ADJ_FRAC)).natAbs ≤ 0x2000000 ∧
       0x2000000 < (toS 32 ((b.setReg Reg.TSU_ADJ_FRAC 0x2000001).reg Reg.TSU_ADJ_FRAC)).natAbs) ∧
    (let b := (at' id).blk
     (toS 32 (b.reg Reg.TSU_STEP_SEC) * 1000000000 + toS 32 (b.reg Reg.TSU_STEP_NS)).natAbs ≤ b.reg Reg.TSU_JUMP_LIM ∧ b.tsu.step = none ∧
       b.reg Reg.TSU_JUMP_LIM < (1000000000 : Int).natAbs ∧ (3 : Nat).testBit 0 = true ∧ (1 : Nat).testBit 1 = false ∧
       (0 : Int) ≤ (b.tsu.incrNext.getD b.tsu.incr : Nat) + b.tsu.slewFrac ∧
       (b.now : Int) + ((b.tsu.incrNext.getD b.tsu.incr : Nat) + b.tsu.slewFrac) * b.tsu.slewCnt < 2 ^ 48 * secFrac) ∧
    (let b := { State.reset.blk with tsu := { step := some (1, 0) } }
     b.tsu.step = some (1, b.tsu.ticks) ∧ (b.now : Int) + 1 * 2 ^ 32 < 2 ^ 48 * secFrac ∧ 0 ≤ (b.now : Int) + 1 * 2 ^ 32 ∧ b.now < 2 ^ 48 * secFrac) ∧
    (State.reset.blk.steady ∧ State.reset.blk.tsu.realign = false ∧ State.reset.blk.tsu.incr = 0x200000000 ∧ State.reset.blk.tsu.incrNext = none ∧
      State.reset.blk.tsu.slewCnt = 0) ∧
    (let b := { State.reset.blk with tsu := { realign := true, txs := [{}] } }
     b.steady ∧ b.tsu.realign = true ∧ b.tsu.txs = [{}]) := by
  unfold Block.steady; decide +kernel

theorem test_hyp_SpoutsCapturesWindows :
    (let b := (((at' id).blk.setReg (Reg.TSU_SPT_CTRL 0) 0).setReg (Reg.TSU_SPT_SEC 0) 1)
     b.domOn 19 = true ∧ b.rb (Reg.TSU_SPT_CTRL 0) 0 = false ∧ b.now + 1000 * 2 ^ 32 ≤ b.spoutStart 0 (2 ^ 8 + 1) ∧
       fld (2 ^ 8 + 1) 8 24 * 64 * 2 ^ 32 ≠ 0 ∧ b.spoutPeriod 0 = 0 ∧ fld 1 8 24 * 64 * 2 ^ 32 = 0 ∧ (0 : Nat).testBit 0 = false) ∧
    (let b := { State.reset.blk with tsu := { spouts := [(0, { armed := true }), (1, { armed := true, trail := some 5 })] } }
     let x := tget ({} : Spout) b.tsu.spouts 0
     b.steady ∧ x.armed = true ∧ x.trail = none ∧ x.k = 0 ∧ (tget ({} : Spout) b.tsu.spouts 1).trail = some 5) ∧
    (let b := ((at' id).blk.setReg (Reg.TSU_CAP_CTRL 0) 7)
     b.rb (Reg.TSU_CAP_CTRL 0) 0 = true ∧ b.rb (Reg.TSU_CAP_CTRL 0) 1 = true ∧ b.rb (Reg.TSU_CAP_CTRL 0) 2 = true ∧
       (tget {} b.tsu.caps 0).last = none ∧ (tget {} b.tsu.caps 0).fifo.length < 16 ∧ b.clkStamp 0 ≤ 0 + 64 ∧
       16 ≤ (tget {} [(0, { fifo := List.replicate 16 (0, false) })] 0 : Cap).fifo.length) ∧
    (let b := ((at' id).blk.setReg (Reg.TSU_WIN_CLOSE_SEC 15) 1)
     (1 : Nat).testBit 0 = true ∧ b.rb (Reg.TSU_WIN_CTRL 15) 0 = false ∧
       b.winTime (b.reg (Reg.TSU_WIN_OPEN_SEC 15)) (b.rfld (Reg.TSU_WIN_OPEN_NS 15) 0 30) (fld 1 13 3) <
         b.winTime (b.reg (Reg.TSU_WIN_CLOSE_SEC 15)) (b.rfld (Reg.TSU_WIN_CLOSE_NS 15) 0 30) (fld 1 10 3) ∧
       b.stamp 0 + 8000 ≤ b.winTime (b.reg (Reg.TSU_WIN_CLOSE_SEC 15)) (b.rfld (Reg.TSU_WIN_CLOSE_NS 15) 0 30) (fld 1 10 3) ∧ fld 1 16 16 = 0) ∧
    (let b := { State.reset.blk with tsu := { wins := [(15, { armed := true, cls := 9 })] } }
     b.steady ∧ (tget ({} : Win) b.tsu.wins 15).armed = true ∧ (tget ({} : Win) b.tsu.wins 15).inside = false ∧ b.rfld (Reg.TSU_WIN_CTRL 15) 16 16 = 0 ∧
       (b.setReg (Reg.TSU_WIN_CTRL 15) 0x10000).rfld (Reg.TSU_WIN_CTRL 15) 16 16 * 8000000 ≠ 0 ∧ b.rb (Reg.TSU_WIN_CTRL 15) 6 = false) := by
  unfold Block.steady; decide +kernel

/-- The wellhead with one QUALIFIED candidate. -/
def well (w : Wlh) : State := at' (fun b => { b with wlh := w })

theorem test_hyp_WellheadReferences :
    ((State.reset.blk.rank 0 ≠ 0xFF ∨ State.reset.blk.rank 0 = 0xFF) ∧ (State.reset.blk.cand 0).st = 1) ∧
    (famOfRate (48000 * 10 ^ 9) = some (0, 48000) ∧ famOfRate 0 = none) ∧
    (let f : Bytes := [0x51, 4, 3, 0, 9, 0x51 ^^^ 4 ^^^ 3 ^^^ 9]
     f.length = 6 ∧ u8 f 0 = 0x51 ∧ u8 f 1 = 4 ∧ u8 f 2 < 16 ∧ u8 f 3 < 2 ∧ u8 f 5 = ((((u8 f 0 ^^^ u8 f 1) ^^^ u8 f 2) ^^^ u8 f 3) ^^^ u8 f 4)) ∧
    u8 (List.replicate 6 0) 0 ≠ 0x51 ∧
    (let b := (well { cands := [(0, { st := 3, level := 4, stale := false })] }).blk
     b.domOn 19 = true ∧ b.wlh.sel = none ∧ (64 : Nat).testBit 6 = true ∧ fld 64 2 1 = b.rfld Reg.WLH_CTRL 2 1 ∧ (b.cand 0).st = 3 ∧
       b.candLevel 0 ≤ 14 ∧ b.candFam 0 = none ∧ (∀ i, i < 11 → i ≠ 0 → (b.cand i).st ≠ 3)) ∧
    (let b := (well {}).blk
     (∀ i, i < 11 → (b.cand i).st ≠ 3) ∧ fld 4 2 1 ≠ b.rfld Reg.WLH_CTRL 2 1 ∧ ¬ (2 ≤ (b.cand 0).st)) ∧
    (let b := ((well { sel := some 4, cands := [(4, { st := 3, fam := some 1 })] }).blk).setReg Reg.WLH_CTRL 2
     b.wlh.sel.bind b.candFam = some 1 ∧ b.rb Reg.WLH_CTRL 1 = true ∧ 1 ≠ b.wlh.family) ∧
    (let b := (well { famSwitch := true }).blk
     b.steady ∧ b.wlh.famSwitch = true) := by unfold Block.steady; decide +kernel

theorem test_hyp_WellheadClock :
    (∀ st ∈ [1, 2], let w : Wlh := { st := st, sel := some 0, cur := some 0, lockMs := 3999 }
      w.sel.isSome = true ∧ w.sel = w.cur ∧ w.y.natAbs ≤ 655360000 ∧ (65535 : Int).natAbs < 65536 ∧ 65536 ≤ (65536 : Int).natAbs ∧
        4000 ≤ w.lockMs + 1) ∧
    (({ st := 2 } : Wlh).sel = none) ∧ ({ estSecs := 256 } : Wlh).xoLost = false ∧ State.reset.blk.steady ∧
    (let b := { (at' id).blk.setReg (Reg.WLH_WCKO_CTRL 3) (2 ^ 31) with wlh := { wckos := [(3, { sets := [{}] })] } }
     b.rb (Reg.WLH_WCKO_CTRL 3) 31 = true ∧ b.rfld (Reg.WLH_WCKO_CTRL 3) 28 3 ≤ 2 ∧ b.steady ∧ (b.wcko 3).sets = [{}] ∧
       0 % (({} : WckoSet).div + 1) = 0) ∧
    State.reset.blk.rb (Reg.WLH_WCKO_CTRL 0) 31 = false ∧
    (let b := { (at' id).blk.setReg (Reg.WLH_WCKO_CTRL 0) (2 ^ 31 + 3 * 2 ^ 28) with
       wlh := { wckos := [(0, { sets := [{}], events := 5, stamps := [0], reach := some 4 })] }, tsu := { ticks := 10 } }
     let x := b.wcko 0
     let t := (b.runTicks 1).clkStamp 0
     let l : List Nat := (t :: x.stamps).take 16
     let p : Nat := l.headD 0 - l.getLastD 0
     b.steady ∧ b.rb (Reg.WLH_WCKO_CTRL 0) 31 = true ∧ 2 < b.rfld (Reg.WLH_WCKO_CTRL 0) 28 3 ∧ x.sets = [{}] ∧ x.reach = some 4 ∧ 2 ≤ l.length ∧ p ≠ 0 ∧
       (4 : Int) < 5 ∧ (5 : Int) ≤ (x.events : Int) + -(((({} : WckoSet).ofs - 1600) * (l.length - 1 : Nat)) / (p : Int)) ∧
       (5 : Int) % (({} : WckoSet).div + 1 : Nat) = 0) := by unfold Block.steady; decide +kernel

/-! ## Sluices and rills -/

/-- A draft in force whose domain X follows receive skein 0, and whose first two rills differ in rate. -/
def twoRates : Draft :=
  { serial := 7, chunks := [{ tag := tagDOMN, pay := [2, 1, 1, 0] ++ leBytes 4 48000 ++ leBytes 8 0 },
      { tag := tagRILL, inst := 0, pay := leBytes 4 0xFFFF ++ [0, 16, 32, 1] ++ leBytes 4 48000 ++ [0, 16, 32, 1] ++ leBytes 4 96000 ++
        (List.replicate 6 (leBytes 8 (2 * 2 ^ 24))).flatten }] }

/-- The measured phase error is a free value: whether it lies out of range, or the ratio does where the rates are not 0, is not said. -/
theorem test_hyp_SluicesAndRills :
    (let b := fun x : Sluice => { (staged { force := some busless }).blk with sluices := [(0, x)] }
     let x : Sluice := { src := 2, dst := 1, st := .locked }
     (b x).steady ∧ (b x).slu 0 = x ∧ x.dstStopped = false ∧ x.resync = false ∧ x.fixed = false ∧ ({ x with src := 0 } : Sluice).fixed = true ∧
       (∀ r, (b { x with dst := 2 }).ratioOut { x with dst := 2 } r = false) ∧ 0 ≤ (b x).loom.xTick ∧
       (∀ st ∈ [SluiceState.acquire, .hold, .range], ((b { x with st := st }).slu 0).st = st) ∧ satS 16 (-20000) < -16384 ∧ 16384 < satS 16 20000) ∧
    (let b := (staged { force := some busless }).blk
     b.ratioOut { src := 0, dst := 2 } (b.sluMeasure { src := 0, dst := 2 } 0).1 = true) ∧
    ((at' id).blk.domOn 11 = true) ∧
    (let b := (staged { force := some twoRates }).blk
     b.domn.xEn = true ∧ b.domn.xKind = 1 ∧ b.loom.xStopped = false ∧ b.rillX 0 = false ∧ b.uniform 0 = false ∧ b.uniform 1 = true ∧ b.domOn 17 = true) ∧
    (let x : Rill := { role := 1, st := 1, good := 7, edge := some 0, rate := 48000 }
     x.badCount 32 = false ∧ x.offRate 166667 = false ∧ x.badCount 35 = true) ∧
    (let b := { State.reset.blk with ril := { pend := [5] } }
     b.steady ∧ b.ril.pend = [5]) := by
  refine ⟨?_, ?_, ?_⟩
  · unfold Block.steady
    refine ⟨by decide +kernel, by decide +kernel, by decide +kernel, by decide +kernel, by decide +kernel, by decide +kernel, fun r => ?_, ?_⟩
    · have h : ∀ d, (d = 2) → ({ (staged { force := some busless }).blk with sluices := [(0, { src := 2, dst := 2, st := .locked })] } : Block).rate d = 0 := by
        intro d h; subst h; decide +kernel
      simp [Block.ratioOut, h]
    · decide +kernel
  · have h : (staged { force := some busless }).blk.rate 2 = 0 := by decide +kernel
    have h0 : (staged { force := some busless }).blk.rate 0 = 96000 := by decide +kernel
    simp [Block.ratioOut, h, h0]
  · unfold Block.steady; decide +kernel

/-! ## Jets -/

/-- A draft in force with protection parameters of jet 0: RE_NOM, PILOT and the thermal model's constants set (R57). -/
def oneProt : Draft :=
  withChunks [(tagPROT, 0, leBytes 4 0 ++ leBytes 2 4000 ++ leBytes 2 100 ++ leBytes 2 500 ++ leBytes 2 600 ++ leBytes 2 1000 ++ leBytes 2 1000 ++
    leBytes 2 1500 ++ leBytes 2 700 ++ leBytes 2 900 ++ leBytes 10 0)]

/-- Bank 0 and jet 0 in these states. -/
def jet0 (k : Bank) (x : Jet) : Block :=
  { (staged { force := some oneProt }).blk with jet := { banks := [(0, k)], jets := [(0, x)] } }

theorem test_hyp_JetStates :
    (let b := jet0 { cfg := true } {}
     b.domOn 18 = true ∧ (b.bank 0).cfg = true ∧ (b.bank 0).st = 0) ∧
    (let b := jet0 { cfg := true, startAt := some 1 } {}
     b.steady ∧ b.jet.hardAt = none ∧ (b.bank 0).st = 0 ∧ (b.bank 0).stopAt = none ∧ (∀ u ∈ b.startTicks 0, 1 ≤ u) ∧ 1 ≤ (b.toBlk 1).blk) ∧
    (let b := jet0 { cfg := true, st := 2, stopAt := some 1 } { st := 2 }
     b.steady ∧ b.jet.hardAt = none ∧ (b.bank 0).st = 2 ∧ (∀ u ∈ b.stopTicks 0, 1 ≤ u) ∧ 1 ≤ (b.toBlk 1).blk ∧ 0 ∈ jetsOf 0 ∧ (b.jetOf 0).st = 2 ∧ (b.jetOf 0).stopAt = none ∧
       (b.jetOf 0).offAt = none) ∧
    (let b := { jet0 { cfg := true, retry := 1 } { st := 5 } with jet := { (jet0 { cfg := true, retry := 1 } { st := 5 }).jet with live := [(0, true), (1, true)] } }
     b.steady ∧ (b.jetOf 0).st = 5 ∧ b.stageT 0 ≤ (b.prot 0).tFold ∧ b.live? 0 = true ∧ b.live? 1 = true ∧ (b.bank 0).retry ≠ 0 ∧
       (b.jetOf 0).retries < b.rfld (Reg.JET_BANK_CFG 0) 24 8 ∧ State.reset.blk.live? 0 = false) ∧
    (let b := jet0 {} { st := 2, limNext := 5 }
     (b.jetOf 0).modulating = true ∧ (b.jetOf 0).cut = 0 ∧ (b.jetOf 0).limNext ≠ b.period 0 + 1) ∧
    (let b := jet0 {} { st := 2, limNext := 0, limCnt := 7 }
     (b.jetOf 0).modulating = true ∧ (b.jetOf 0).limNext = b.period 0 ∧ 8 ≤ (b.jetOf 0).limCnt + 1 ∧ (b.jetOf 0).limNext ≠ b.period 0 + 1) ∧
    (let b := jet0 {} { st := 2, cut := 1, limCnt := 3 }
     b.steady ∧ (b.jetOf 0).modulating = true ∧ (b.jetOf 0).cut ≠ 0 ∧ (b.jetOf 0).limCnt < 8) ∧
    ((jet0 {} {}).jetOf 0).modulating = false := by unfold Block.steady; decide +kernel

theorem test_hyp_JetSignals :
    (let b := jet0 { cfg := true, st := 2 } { st := 2, fresh := true }
     b.steady ∧ (b.bank 0).cfg = true ∧ b.bankStill 0 ∧ (b.jetOf 0).sent = none ∧ (b.jetOf 0).st = 2 ∧ (b.jetOf 0).cut = 0) ∧
    (∀ k, k < 4 → (jet0 { cfg := true, st := 2 } { st := 2 }).bankStill k) ∧
    (let b := (jet0 { cfg := true, st := 2 } { st := 2, cfg := { en := true, iFs := 1000 } })
     (b.jetOf 0).cfg.en = true ∧ (b.prot 0).rthCoil ≠ 0 ∧ (b.prot 0).tauCoil ≠ 0 ∧ (b.prot 0).tauMag ≠ 0 ∧ (State.reset.blk.prot 0).rthCoil = 0 ∧
       (b.prot 0).pilot ≠ 0 ∧ (b.jetOf 0).modulating = true ∧ (b.jetOf 0).cfg.iFs ≠ 0 ∧ (b.prot 0).reNom ≠ 0 ∧ b.stageT 0 ≤ (b.prot 0).tFold ∧
       ((b.prot 0).tFold : Int) < 900 ∧ ((b.prot 0).tTrip : Int) ≤ 900 ∧ ((b.prot 0).tTrip : Int) ≤ toS 16 (900 % 2 ^ 16) ∧ b.domOn 18 = true) ∧
    (let i2 := fun i : Int => i * i
     (2 : Int) ^ 62 ≤ i2 (2 ^ 31) * 1000000 ∧ i2 2 * 1000000 < (2 : Int) ^ 62) ∧
    (let b := { State.reset.blk with jet := { live := [(0, true), (64, true)], jets := [(0, { st := 2 })] } }
     b.steady ∧ b.live? 0 = true ∧ b.live? 64 = true ∧ (b.jetOf 0).st = 2 ∧ (b.jetOf 0).tripPend = 0 ∧ (b.jetOf 0).stale = true) ∧
    ({ stale := false } : Jet).stale = false ∧
    (withChunks [(tagLANE, 1, leBytes 4 0x10E0)]).laneDom? (senseLane 0) = some 0 := by
  unfold Block.bankStill Block.steady; refine ⟨?_, ?_, ?_, ?_, ?_, ?_, ?_⟩ <;> decide +kernel

/-! ## The pair -/

/-- A draft in force with pairing enabled (R60). -/
def pairDraft : Draft := withChunks [(tagPAIR, 0, [1, 0, 4, 0] ++ leBytes 12 0)]

/-- A paired unit whose lanes are up, with this state of its pairing block. -/
def twinned (st : Staging) (p : Par) : Block :=
  { (at' (fun b => (b.setReg Reg.PWR_MODE 2).setReg Reg.MBX_PRIV 0xFFFFFFFF)).blk with
    stg := { st with force := some pairDraft }, par := { p with lanes := [(0, { up := true }), (1, { up := true })] }, wlh := { st := 2 },
    sys := { side := false } }

/-- A frame as the twin sends it: SEQ 1 if it is a reliable one. -/
def gwF (type : Nat) (pay : Bytes) : Bytes := gwBytes type 0 (if type = 4 ∨ type = 5 then 1 else 0) 0 0 0 pay

/-- A stamp of zero, a LEASE payload, a STATE payload with these mirror records. -/
def leasePay (kind v : Nat) : Bytes := leBytes 1 kind ++ leBytes 3 0 ++ leBytes 8 v ++ leBytes 8 0 ++ leBytes 4 0
def statePay (recs : Bytes) : Bytes := leBytes 8 7 ++ [4, 1, 1, 0, 0, 0, 0, 0] ++ leBytes 16 0 ++ List.replicate 32 0 ++ recs

theorem test_hyp_PairFrames :
    (let b := twinned {} { st := 4 }
     GwTakes b 7 none 0 (gwF 7 []) ∧ GwTakes b 1 (some 0) 0 (gwF 1 (leasePay 0 9)) ∧ GwTakes b 1 (some 1) 0 (gwF 1 (leasePay 1 9)) ∧
       GwTakes b 1 (some 2) 0 (gwF 1 (leasePay 2 9)) ∧ GwTakes b 3 none 0 (gwF 3 (statePay ([2, 5, 0, 0] ++ leBytes 4 4 ++ leBytes 4 77))) ∧
       GwTakes b 6 none 1 (gwF 6 (leBytes 48 0))) ∧
    (let b := twinned {} { st := 4 }
     GwTakes b 4 none 1 (gwF 4 ([16, 8] ++ leBytes 66 0)) ∧ GwTakes b 4 none 1 (gwF 4 ([20, 0] ++ leBytes 66 0)) ∧ b.mbxState 16 ≠ 1 ∧
       (b.setReg (Reg.MBX_CTRL 16) 0x10000).mbxState 16 = 1 ∧ b.sys.owed = []) ∧
    (let b := twinned {} { st := 4 }
     b.sys.owed = [] ∧ b.sys.memErr = [] ∧ GwTakes b 5 (some 0) 1 (gwF 5 (draftPay 0 9 (leBytes 4 0 ++ leBytes 8 1))) ∧ b.srcRefused .pair = 0 ∧ b.severed = false ∧
       GwTakes b 5 (some 1) 1 (gwF 5 (draftPay 1 9 (leBytes 8 40))) ∧ GwTakes b 5 (some 2) 1 (gwF 5 (draftPay 2 7 (leBytes 4 0))) ∧
       GwTakes b 5 (some 3) 1 (gwF 5 (draftPay 3 7 (leBytes 4 1)))) ∧
    (let b := twinned { st := .valid, eff := some small } { st := 4 }
     b.proposeCode 7 48 = 0 ∧ b.proposeCode 8 48 = 0x90 ∧ small.serial = 7) ∧
    (let b := twinned { st := .armed, eff := some small, armedAt := 40 } { st := 4, proposed := some 40, agreed := true }
     b.blk < b.stg.armedAt ∧ b.par.agreed = true ∧ b.par.proposed = some 40) ∧
    ((twinned {} {}).gwCode [] ≠ 0 ∧ (State.reset.blk.gwLane 0).up = false) ∧
    ((twinned {} { st := 1, twin := { seen := true, role := 1, side := true } }).bothWait = true ∧
      ((twinned {} {}).setReg Reg.PAR_CFG (2 ^ 21)).preferred = false ∧ (twinned {} {}).parReady = true ∧ (twinned {} {}).preferred = true) ∧
    mirrorRecs 128 ((statePay ([2, 5, 0, 0] ++ leBytes 4 4 ++ leBytes 4 77)).drop 64) = some [(2, 5, leBytes 4 77)] := by
  unfold GwTakes; refine ⟨?_, ?_, ?_, ?_, ?_, ?_, ?_, ?_⟩ <;> decide +kernel

theorem crcBit_lt {c : Nat} (h : c < 2 ^ 32) : crcBit 0x82F63B78 c < 2 ^ 32 := by
  unfold crcBit
  split
  · exact Nat.xor_lt_two_pow (by omega) (by decide)
  · omega

theorem crcByte_lt {c : Nat} (b : Byte) (h : c < 2 ^ 32) : crcByte 0x82F63B78 c b < 2 ^ 32 := by
  have : c ^^^ b.toNat < 2 ^ 32 := Nat.xor_lt_two_pow h (Nat.lt_trans b.isLt (by decide))
  exact crcBit_lt (crcBit_lt (crcBit_lt (crcBit_lt (crcBit_lt (crcBit_lt (crcBit_lt (crcBit_lt this)))))))

theorem crcFold_lt (bs : Bytes) : ∀ c, c < 2 ^ 32 → bs.foldl (crcByte 0x82F63B78) c < 2 ^ 32 := by
  induction bs with
  | nil => exact fun _ h => h
  | cons b bs ih => exact fun c h => ih _ (crcByte_lt b h)

theorem crc32c_lt (bs : Bytes) : crc32c bs < 2 ^ 32 := Nat.xor_lt_two_pow (crcFold_lt bs _ (by decide)) (by decide)

/-- Bytes that end in their CRC pass its check. -/
theorem crc_passes (h : Bytes) :
    crc32c ((h ++ leBytes 4 (crc32c h)).take ((h ++ leBytes 4 (crc32c h)).length - 4)) =
      u32 (h ++ leBytes 4 (crc32c h)) ((h ++ leBytes 4 (crc32c h)).length - 4) := by
  have hl : (h ++ leBytes 4 (crc32c h)).length - 4 = h.length := by simp [leBytes]
  rw [hl, List.take_left]
  have := crc32c_lt h
  generalize crc32c h = c at *
  simp [u32, slice, leNat, leBytes]
  omega

set_option maxRecDepth 100000 in
/-- A DIGEST frame, and the first DATA frame of a draft, of the greatest length. -/
theorem test_hyp_PairFrames_long :
    GwTakes (twinned {} {}) 2 none 0 (gwF 2 (leBytes 8 0 ++ leBytes 2056 0)) ∧
    GwTakes (twinned {} {}) 5 (some 0) 1 (gwF 5 (draftPay 0 9 (leBytes 4 0 ++ List.replicate 4092 0))) := by
  refine ⟨⟨by decide +kernel, ?_, by decide +kernel, by decide +kernel, fun h => absurd h (by decide)⟩,
    by decide +kernel, ?_, by decide +kernel, by decide +kernel, fun _ => by decide +kernel⟩ <;> unfold Block.gwCode gwF gwBytes
  · rw [if_neg (by rw [crc_passes]; decide +kernel)]
    decide +kernel
  · rw [if_neg (by rw [crc_passes]; decide +kernel)]
    decide +kernel

theorem test_hyp_PairLanes :
    (let x : GwLane := { up := true, unacked := [{}], resends := 15 }
     State.reset.blk.steady ∧ x.up = true ∧ x.unacked ≠ [] ∧ x.resends < 16 ∧ 16 ≤ ({ x with resends := 16 } : GwLane).resends) ∧
    ((at' id).blk.gwLane 1).up = false ∧ (at' id).blk.domOn 16 = true ∧
    (let b := { twinned {} { st := 4, running := [(3, [(0, 5)])] } with loom := { ended := [(0, 0x10000), (1, 0x10000)] } }
     b.par.st ≠ 0 ∧ (0, 5) ∈ tget [] b.par.running 3 ∧ (∀ w ∈ tget [] b.par.running 3, w.1 = 0 → w.2 = 5) ∧
       b.rb (Reg.PAR_DIG_MASK 0) 0 = false ∧ (b.setReg (Reg.PAR_DIG_MASK 0) 1).rb (Reg.PAR_DIG_MASK 0) 0 = true ∧
       b.par.sent = [] ∧ ∀ dom, dom < 2 → b.served dom = true → (3 + 1) * b.spb dom ≤ tget 0 b.loom.ended dom) := by unfold Block.steady; decide +kernel

theorem test_hyp_PairShuttle :
    (State.reset.blk.steady ∧ (State.reset.blk.toBlk 0).blk = 0 ∧ State.reset.blk.sys.owed = [] ∧ ∀ k, State.reset.blk.par.tickAt = some k → k < 0) ∧
    ((twinned {} {}).paired = true ∧ State.reset.blk.paired = false ∧ (twinned {} {}).sys.owed = []) ∧
    (let b := twinned {} { st := 1, gotGrant := true, twin := { seen := true, role := 1, side := true } }
     b.gwUp = true ∧ b.par.twin.side ≠ b.sys.side ∧ b.preferred = true ∧ b.twinDrives = false ∧
       (twinned {} { st := 1, twin := { seen := true, role := 2 } }).twinDrives = true) ∧
    (let b := { (twinned {} {}).setReg Reg.PAR_CFG 8 with par := { st := 1 } }
     b.gwUp = false ∧ b.par.twin.seen = false ∧ b.preferred = true ∧ b.rb Reg.PAR_CFG 3 = true ∧
       b.par.downAt + 2 * secFrac ≤ (b.toBlk 24000).now) ∧
    (let b := { twinned {} { st := 2, e := 9, resign := some 4 } with sys := { side := false } }
     digestOf b.par.sent (5 - 2) = none ∧ 5 + 1 < b.par.e ∧ b.par.e ≤ 8 + 1 ∧ 4 ≤ 5) ∧
    (let b := twinned {} { st := 4, g := 3, twinResign := some 4 }
     b.severed = false ∧ b.mode = 2 ∧ b.par.g ≠ 0 ∧ b.par.g + 1 ≤ 4 ∧ b.parReady = true ∧ b.rb Reg.PAR_CFG 2 = false ∧ 3 < b.par.g + 1) ∧
    (let m : Digests := { blk := 3 }
     let w : Digests := { blk := 3, digs := [(5, 1)] }
     digestOf [m] (5 - 2) = some m ∧ digestOf [w] (5 - 2) = some w ∧ tget 0 m.digs 5 ≠ tget 0 w.digs 5 ∧
       ∀ r, r < 5 → tget 0 m.digs r = tget 0 w.digs r) ∧
    (let b := twinned {} { st := 2, twin := { seen := true, ready := true, serial := 7, role := 3 } }
     b.domOn 16 = true ∧ b.twinReady = true ∧ b.par.resign = none ∧ (twinned {} { st := 2 }).twinReady = false) := by
  refine ⟨⟨by unfold Block.steady; decide +kernel, by decide +kernel, by decide +kernel, fun _ h => nomatch h⟩, ?_⟩
  decide +kernel

/-! ## Services -/

/-- A datagram of the control protocol with its CRC (R434). -/
def datagram (op : Nat) (pay : Bytes) : Bytes :=
  let h := leBytes 2 0x5045 ++ [1, 0] ++ leBytes 4 9 ++ leBytes 2 op ++ leBytes 2 0 ++ leBytes 2 pay.length ++ leBytes 2 0 ++ pay
  h ++ leBytes 4 (crc32c h)

theorem test_hyp_Requests :
    (let d := datagram 0x30 []
     20 ≤ d.length ∧ u16 d 0 = 0x5045 ∧ u32 (d.drop (d.length - 4)) 0 = crc32c (d.take (d.length - 4)) ∧ u8 d 3 = 0 ∧ u8 d 2 = 1 ∧ u16 d 12 % 4 = 0 ∧
       u16 d 12 ≤ 1024 ∧ u16 d 12 = d.length - 20 ∧ (svcNeed (u16 d 8)).isSome = true ∧ svcNeed (u16 (datagram 0x7F []) 8) = none) ∧
    (let d := List.replicate 20 0
     ¬ u32 (d.drop (d.length - 4)) 0 = crc32c (d.take (d.length - 4))) ∧
    (let b := { (at' id).blk with sys := { firmware := true } }
     b.sys.firmware = true ∧ b.par.st = 0 ∧ tget [] b.sys.stored 2 = [] ∧ ¬16 ≤ (b.sys.waiting.filter (fun w => w.port == 2)).length ∧
       16 ≤ ((List.replicate 16 ({ port := 2 } : Req)).filter (fun w => w.port == 2)).length) ∧
    (let a : Ans := { peer := 1, sport := 2, tag := 9, at' := 0, bytes := [] }
     let b := { State.reset.blk with sys := { stored := [(2, [a])] } }
     (tget [] b.sys.stored 2).find? (fun x : Ans => x.peer == 1 && x.sport == 2 && x.tag == 9 && decide (b.pclk < x.at' + 2000000000)) = some a) ∧
    (let r : Req := { port := 2, op := 0x30 }
     let s := at' (fun b => { b.setReg Reg.MBX_PRIV 0 with sys := { waiting := [r] } })
     s.blk.sys.waiting.find? (fun q => q.port == 2) = some r ∧ s.blk.beginRefused r ≠ 0 ∧ r.box = none ∧ semFor s = true) ∧
    (let b := { State.reset.blk with sys := { relays := [{}] } }
     b.steady ∧ b.sys.relays = [{ dead := false }]) := by unfold Block.steady; decide +kernel

/-- The request of TIME_READ is one of a service. -/
theorem test_hyp_Requests_svc : IsSvc 0x30 .timeRead := by unfold IsSvc; simp

theorem test_hyp_ReadServices :
    (let b := (asking 3 2 (leBytes 4 1 ++ leBytes 4 Reg.SYS_ID) id).blk
     u32 (leBytes 4 1 ++ leBytes 4 Reg.SYS_ID) 0 = 1 ∧ u32 (leBytes 4 1 ++ leBytes 4 Reg.SYS_ID) 4 = Reg.SYS_ID ∧ CanRead 13 Reg.SYS_ID b ∧
       PlainRead Reg.SYS_ID ∧ CanWrite 13 Reg.MTX_INT b ∧ PlainWrite Reg.MTX_INT ∧ (regRow Reg.MTX_INT).isSome = true) ∧
    (let pay := leBytes 2 511 ++ leBytes 2 1
     u16 pay 0 = 511 ∧ u16 pay 2 = 1 ∧ (asking 5 2 pay id).blk.domOn 11 = true) ∧
    (∀ k, k < 32 → k ≠ 20 → (asking 6 2 [31, 0, 0, 0] id).blk.islandOff (fltReg k) = false) ∧ u8 [31, 0, 0, 0] 0 = 31 ∧
    (asking 6 2 [20, 0, 0, 0] id).blk.sys.msgs = [] ∧ (asking 6 2 [20, 0, 0, 0] id).blk.mbxState 15 ≠ 1 := by
  unfold CanRead CanWrite PlainRead PlainWrite; refine ⟨?_, ?_, ?_, ?_, ?_, ?_⟩ <;> decide +kernel

/-- A request to edit one coefficient, or one card (R439). -/
def coefReq (i : Nat) : Bytes := leBytes 12 0 ++ leBytes 4 1 ++ leBytes 4 i ++ leBytes 4 7
def cardReq (pos : Nat) : Bytes := leBytes 8 0 ++ [0, 1] ++ leBytes 2 pos ++ leBytes 16 0

theorem test_hyp_EditServices :
    (∀ op ∈ [0x20, 0x21, 0x22], semFor (asking op 2 (coefReq 8191) (fun b => { b with stg := { force := some small } })) = true) ∧
    (let b := (asking 0x20 2 (coefReq 8191) (fun b => { b with stg := { force := some small } })).blk
     b.domOn 11 = true ∧ b.editsQueued + 1 ≤ 256 ∧ b.loom.coefBank.wide = false ∧ u32 (coefReq 8191) 16 < 8192 ∧ u32 (coefReq 8191) 12 = 1 ∧
       b.rb Reg.LOM_EDIT_CTRL 0 = false ∧ 256 ≤ ({ b with loom := { resv := 256 } } : Block).editsQueued) ∧
    (let s := asking 0x21 2 (cardReq 0) (fun b => { b with stg := { force := some small }, loom := { decks := [(1, (0, 2))] } })
     let r : Req := { port := 2, op := 0x21, relayed := true, pay := cardReq 0 }
     r.pay.length = 28 ∧ u8 r.pay 9 < 3 ∧ u16 r.pay 10 < 16384 ∧
       ((s.taken r).blk.editSetup (u64 r.pay 0) (u8 r.pay 8)).cardEditBad (u8 r.pay 9) (u16 r.pay 10) (leNat (slice 12 16 r.pay)) = false ∧
       ((s.taken r).blk.editSetup (u64 r.pay 0) (u8 r.pay 8)).cardEditBad 1 2 (leNat (slice 12 16 r.pay)) = true) ∧
    (State.reset.blk.domOn 11 = false) := by
  refine ⟨?_, ?_, ?_, ?_⟩ <;> decide +kernel

theorem test_hyp_ActServices :
    (let b := (asking 0x31 2 (leBytes 16 0) id).blk
     b.tsu.step = none ∧ (toS 32 0 * 1000000000 + toS 32 0 : Int).natAbs ≤ b.reg Reg.TSU_JUMP_LIM ∧
       b.reg Reg.TSU_JUMP_LIM < (toS 32 1 * 1000000000 + toS 32 0 : Int).natAbs ∧ (toS 32 (u32 (leBytes 4 0x2000000) 0)).natAbs ≤ 0x2000000) ∧
    (let b := fun op pay => (asking op 2 pay (fun b => { b with
       jet := { jets := [(31, { st := 4 })], banks := [(2, { cfg := true }), (3, { st := 2 })] }, ril := { rills := [(47, { st := 4 })] } })).blk
     (∀ x ∈ [(0x41, [0, 31, 0, 0]), (0x41, [1, 2, 0, 0]), (0x41, [2, 3, 0, 0]), (0x42, [47, 0, 0, 0])],
       Begins (b x.1 x.2) x.1 2 { port := 2, op := x.1, relayed := true, pay := x.2 }) ∧
     (let c := b 0x41 [0, 31, 0, 0]
      c.domOn 18 = true ∧ (c.jetOf 31).st = 4 ∧ (c.bank 2).cfg = true ∧ (c.bank 2).st = 0 ∧ (c.bank 3).st = 2 ∧ c.domOn 17 = true ∧
        (c.rill 47).st = 4)) ∧
    (let b := fun op pay => (asking op 2 pay (fun b => { twinned {} { st := 2, twin := { seen := true, ready := true, serial := 7, role := 3 } } with
       sys := { b.sys with side := false } })).blk
     (∀ x ∈ [(0x50, [0, 0, 0, 0]), (0x50, [1, 0, 0, 0]), (0x51, [])],
       Begins (b x.1 x.2) x.1 2 { port := 2, op := x.1, relayed := true, pay := x.2 }) ∧
     (let c := b 0x50 [0, 0, 0, 0]
      c.par.st = 2 ∧ c.twinReady = true ∧ c.par.resign = none ∧ c.gwUp = true ∧ c.stg.force.isSome = true)) ∧
    (let b := (asking 0x50 2 [1, 0, 0, 0] (fun b => { b with par := { st := 4 } })).blk
     Begins b 0x50 2 { port := 2, op := 0x50, relayed := true, pay := [1, 0, 0, 0] } ∧ b.par.st = 4 ∧ b.gwUp = false) ∧
    (let b := (asking 0x60 2 [1, 0, 0, 0] (fun b => b.setReg Reg.PWR_MODE 2)).blk
     Begins b 0x60 2 { port := 2, op := 0x60, relayed := true, pay := [1, 0, 0, 0] } ∧ b.mode = 2 ∧ b.severed = false ∧ b.par.st = 0 ∧
       b.stg.st ≠ .settling) := by
  unfold Begins; refine ⟨?_, ?_, ?_, ?_, ?_⟩ <;> decide +kernel

/-! ## The matrix, faults, mailboxes, the host port -/

theorem test_hyp_Semaphores :
    CanRead 13 (Reg.SYS_SEM 0) (at' id).blk ∧ CanWrite 14 (Reg.SYS_SEM 63) (at' id).blk ∧ CanRead 13 Reg.SYS_SEM_HELD_LO (at' id).blk ∧
      CanRead 14 Reg.SYS_SEM_HELD_HI (at' id).blk ∧ tget 0 ([(63, 15)] : Tab Nat) 63 = 14 + 1 ∧ 3 + 1 ≤ 4 := by
  unfold CanRead CanWrite; decide +kernel

theorem test_hyp_BasinsAndRemap :
    (at' id).blk.sys.memErr = [] ∧ 0xFFFF8 % 8 = 0 ∧
    (let b := { State.reset.blk with sys := { memErr := [(basinBase 7 / 8, 1)] } }
     tget 0 b.sys.memErr ((basinBase 7 + 0) / 8) = 1) ∧ CanWrite 13 Reg.SYS_REMAP (at' id).blk := by
  unfold CanWrite; decide +kernel

theorem test_hyp_MatrixGrants :
    (let u : Burst := { master := 3, addr := 0x20000000, len := 64 }
     let v : Burst := { master := 5, addr := 0x20000040, len := 64 }
     State.reset.blk.remapped = false ∧ 0x200000 ≤ u.addr ∧ 0x200000 ≤ v.addr ∧ targetOf u.addr = 2 ∧ targetOf v.addr = 2 ∧ u.total ≠ 0 ∧ v.total ≠ 0 ∧
       u.total ≤ (4096 - u.addr % 4096) / 32 ∧ v.total ≤ (4096 - v.addr % 4096) / 32 ∧ u.master < v.master ∧ tget {} State.reset.blk.sys.ports 2 = ({} : MPort) ∧ 0 + 1 < u.total ∧ targetOf u.addr ≠ 19 ∧
       targetOf u.addr ≠ 20) ∧ (at' id).blk.sys.memErr = [] ∧
    tget {} (at' id).blk.sys.ports 0 = ({} : MPort) ∧ tget {} (at' id).blk.sys.ports 1 = ({} : MPort) ∧ 0x111EFFE0 + 32 ≤ 0x111F0000 ∧
      0x111EFFE0 % 32 = 0 := by decide +kernel

theorem test_hyp_FaultRecords :
    (State.reset.blk.frec 31).pend = false ∧ State.reset.blk.cycle = none ∧ ({ State.reset.blk with cycle := some [] } : Block).cycle = some [] ∧
      (({ (at' id).blk with flt := [(31, { pend := true, timer := true })] } : Block).frec 31).pend = true ∧
      ∀ k, k < 32 → k ≠ 20 → (at' id).blk.islandOff (fltReg k) = false := by decide +kernel

theorem test_hyp_GraceAndEscalation :
    (let s := at' (fun b => { b with flt := [(0, { pend := true, timer := true, held := [⟨1, 0⟩] })] })
     s.blk.steady ∧ s.blk.domOn 19 = true ∧ (s.blk.frec 0).timer = true ∧ ∀ e ∈ (s.blk.frec 0).held, (s.escalate 0 e).isNone = true) ∧
    (let s := at' (fun b => { b.setReg Reg.SYS_FCTL 0 with flt := [(srcLOM, { pend := true, timer := true, held := [⟨6, 1⟩] })] })
     s.blk.steady ∧ s.blk.domOn 19 = true ∧ s.blk.rb Reg.SYS_FCTL 8 = false ∧ (s.blk.frec srcLOM).timer = true ∧
       (s.blk.frec srcLOM).held = [⟨6, 1⟩]) ∧
    (let b := (at' (fun b => { b with muted := [(3, 2 ^ muEsc srcLOM)], escAcked := [(srcLOM, 3)] })).blk
     b.steady ∧ (srcLOM, 3) ∈ b.escAcked ∧ bit (tget 0 b.muted 3) (muEsc srcLOM) = true ∧ b.islandOff (fltReg srcLOM) = false) := by
  unfold Block.steady; decide +kernel

theorem test_hyp_SeverAndErrN :
    State.reset.blk.severed = false ∧ (State.reset.blk.setReg Reg.MBX_PRIV 3).level 0 = 3 ∧
    (let b := { State.reset.blk with sys := { errLow := true }, errPulse := some 7 }
     b.steady ∧ b.errPulse = some 7 ∧ (∀ e ∈ b.flt, e.2.pend = true → e.2.cls < 2) ∧ b.rb Reg.SYS_FCTL 0 = false ∧ b.severed = false ∧
       b.rfld Reg.PWR_BOOT 0 4 ≠ 6 ∧ b.sys.errLow = true) := by unfold Block.steady; decide +kernel

theorem test_hyp_Levels :
    CanWrite 13 Reg.MBX_PRIV (at' id).blk ∧ CanWrite 15 Reg.MBX_PRIV ((at' id).blk.setReg Reg.MBX_PRIV 0) ∧
      ((at' id).blk.setReg Reg.MBX_PRIV 0).level 0 ≠ 3 := by unfold CanWrite; decide +kernel

theorem test_hyp_Mailboxes :
    (let b := (at' id).blk
     mbxReceiver 8 = some 2 ∧ sendMaster 8 = 13 ∧ CanWrite 13 (Reg.MBX_CTRL 8) b ∧ fld (8 + 32 * 8 * 3) 5 3 = 0 ∧ b.mbxState 8 ≠ 1 ∧
       8 ≤ fld (8 + 32 * 8 * 3) 0 5 ∧ fld 16 0 5 ≤ 16 ∧ ¬(8 ≤ fld 7 0 5 ∧ fld 7 0 5 ≤ 16) ∧ ¬(8 ≤ fld 17 0 5 ∧ fld 17 0 5 ≤ 16)) ∧
    (let b := (at' (fun b => (b.setReg (Reg.MBX_CTRL 15) 0x10000).setReg Reg.MBX_PRIV 3)).blk
     mbxSender 15 = some 1 ∧ CanWrite 15 (Reg.MBX_CTRL 15) b ∧ b.mbxState 15 = 1 ∧ b.sys.msgs = []) ∧
    CanWrite 14 (Reg.MBX_DB_SET 2) (at' id).blk := by
  unfold CanWrite; refine ⟨?_, ?_, ?_⟩ <;> decide +kernel

/-- M0 up, with a media ring of 16 entries at 0x420000000, and its queue 0 given to the host (R258, R426). -/
def ringBlk (tx : Bool) : Block :=
  (at' (fun b => (((((((b.setReg (ringReg tx 0 0) 0x20000000).setReg (ringReg tx 0 4) 4).setReg (ringReg tx 0 8) 16).setReg (ringReg tx 0 0x10) 1).setReg
    (ringReg tx 0 0x14) 1).setReg (portBase 0) (2 + 1522 * 65536)).setReg (portBase 0 + 4) 1).setReg (portBase 0 + 0x40) (8 + 2 * 2 ^ 28))).blk

theorem test_hyp_HostPortAndRings :
    ((at' id).blk.domOn 15 = true ∧ CanWrite 13 (Reg.HST_IACK_LO + 4 * 1) (at' id).blk ∧ (at' id).blk.driven = [] ∧
      (let b := ((at' id).blk.setReg Reg.HST_STAT 0x100)
       b.rb Reg.HST_STAT 8 = true ∧ ({ b with sys := { pba := [63] } } : Block).driven = [])) ∧
    (∀ tx ∈ [false, true], ∀ p, p < 5 → (at' id).blk.islandOff (ringReg tx p 0) = false ∧ (at' id).blk.ringEn tx p = false) ∧
    (let f : RxFrame := { bytes := List.replicate 60 1 }
     let c := (at' (fun b => { b with cst := { st := 2 } })).blk
     let b := { ringBlk false with cst := { st := 2 }, net := { ports := [(0, { rx := [(0, [f])] })] }, mem := (c.wrBytes 0x420000000 (leBytes 8 0x420001000 ++ leBytes 2 2048)).mem }
     b.rxq 0 0 = [f] ∧ b.ringHead false 0 = some 0 ∧ b.rxDest 0 0 = 2 ∧ b.sys.memErr = [] ∧ b.ringDesc false 0 0 = 0x420000000 ∧
       u64 (b.rdBytes 0x420000000 32) 0 = 0x420001000 ∧ u16 (b.rdBytes 0x420000000 32) 8 = 2048 ∧ b.inCistern 0x420000000 = true ∧
       b.inCistern 0x42000000A = true ∧ b.inCistern 0x420001000 = true ∧ b.cst.st = 2 ∧
       (∀ x ∈ b.pieces 0x42000000A (List.replicate 22 0) ++ b.pieces 0x420001000 (f.bytes.take 2048), b.mayWrite 2 x.1 = true) ∧
       0x420000000 + 32 ≤ 0x420001000) ∧
    (let c := (at' (fun b => { b with cst := { st := 2 } })).blk
     let b := { ringBlk true with cst := { st := 2 }, mem := (c.wrBytes 0x420000000 (leBytes 8 0x420001000 ++ leBytes 2 60)).mem }
     b.sys.memErr = [] ∧ b.inCistern (b.ringDesc true 0 0) = true ∧ b.txInFlight 0 = false ∧ b.ringHead true 0 = some 0 ∧ b.ringDesc true 0 0 = 0x420000000 ∧ u16 (b.rdBytes 0x420000000 32) 8 = 60 ∧
       b.inCistern (u64 (b.rdBytes 0x420000000 32) 0) = true ∧ fld (u16 (b.rdBytes 0x420000000 32) 10) 2 2 = 0 ∧ 60 + 4 ≤ b.rfld (portBase 0) 16 14 ∧
       b.portUp 0 = true ∧ b.txRoom 0 (hostQueue 0 + 0) (60 + 4) = true) := by
  unfold CanWrite; refine ⟨?_, ?_, ?_, ?_⟩ <;> decide +kernel

/-! ## Power, resets and boot -/

/-- The unit in a mode. -/
def inMode (m : Nat) (f : Block → Block) : Block := (at' (fun b => f (b.setReg Reg.PWR_MODE m))).blk

theorem test_hyp_PowerModes :
    (let b := inMode 2 id
     b.mode = 2 ∧ b.severed = false ∧ b.par.st = 0 ∧ b.stg.st ≠ .settling) ∧ (inMode 1 id).mode = 1 ∧ (inMode 5 id).mode ≠ 2 ∧
    (let b := inMode 4 (fun b => { b with sys := { leaving := .asked } })
     b.steady ∧ b.sys.leaving = .asked) ∧
    (let b := inMode (4 + 16) (fun b => { b with sys := { leaving := .muted }, cst := { st := 2 } })
     b.steady ∧ b.sys.leaving = .muted ∧ (∀ k, k < 4 → b.bankStill k) ∧ (∀ j, j < 32 → (b.jetOf j).modulating = false) ∧ b.rfld Reg.PWR_MODE 4 3 ≠ 0) ∧
    (let b := inMode 3 (fun b => { b with stg := { force := some small }, cst := { st := 2 } })
     b.mode = 3 ∧ b.cst.st = 2 ∧ (b.domNeeds small).all b.domOn = true ∧ (inMode 3 id).stg.force = none) := by
  unfold Block.bankStill Block.steady; refine ⟨?_, ?_, ?_, ?_, ?_, ?_⟩ <;> decide +kernel

theorem test_hyp_WakeAndPmic :
    (let b := { State.reset.blk with sys := { waking := [(3, 9)], offing := [(4, 9)], later := [4] } }
     tget 0 b.sys.waking 3 ≠ 0 ∧ tget 0 b.sys.offing 4 ≠ 0 ∧ 4 ∈ b.sys.later) ∧
    (CanWrite 13 Reg.PWR_WAKE_BUDGET (at' id).blk ∧ CanWrite 15 Reg.PWR_WAKE_BUDGET ((at' id).blk.setReg Reg.MBX_PRIV 3) ∧ 400 ≤ 400 % 65536 ∧
      399 % 65536 < 400) ∧
    (let b := { inMode 0 (fun b => (b.setReg Reg.PWR_WAKE_EN 2).setReg Reg.PWR_AON_STAT 0) with sys := { latched := true, tickBase := 500000 } }
     b.rb Reg.PWR_WAKE_EN 1 = true ∧ b.mode = 0 ∧ b.sys.dormAt + 1000000 ≤ b.pclk ∧ b.rb Reg.PWR_AON_STAT 1 = false ∧ b.sys.pmicLost = false ∧
       b.rb Reg.PWR_WAKE_EN 2 = false ∧ b.sys.latched = true) ∧
    ({ inMode 0 id with sys := {} } : Block).pclk < ({} : Sys).dormAt + 1000000 ∧
    (let b := inMode 0 (fun b => b.setReg Reg.PWR_AON_STAT 2)
     b.rb Reg.PWR_AON_STAT 1 = true ∧ b.sys.ackAt = none ∧ b.sys.pmicLost = false) ∧
    ({ State.reset.blk with sys := { ackAt := some 5 } } : Block).domOn 1 = false := by
  unfold CanWrite; refine ⟨?_, ?_, ?_, ?_, ?_, ?_⟩ <;> decide +kernel

theorem test_hyp_ResetsAndWatchdog :
    (at' id).blk.domOn 0 = true ∧ ((at' id).blk.setReg Reg.PWR_WDOG (2 ^ 31)).steady ∧ ((at' id).blk.setReg Reg.PWR_AON_STAT 0).rb Reg.PWR_AON_STAT 0 = false ∧
    ((at' id).blk.setReg Reg.PWR_WDOG (2 ^ 31)).rb Reg.PWR_WDOG 31 = true ∧ State.reset.blk.severed = false ∧
    ((at' id).blk.setReg Reg.SYS_SEVER (2 ^ 31)).severed = true ∧ ((at' id).blk.regs.map (·.1)).Nodup ∧
    blkBase (srcBlk 30).1 (srcBlk 30).2 = Reg.MBX_INT / 65536 * 65536 ∧ (regRow Reg.MBX_INT).isSome = true := by unfold Block.steady; decide +kernel

theorem test_hyp_Boot :
    (State.reset.blk.setReg Reg.PWR_BOOT btREADING).steady ∧ (State.reset.blk.setReg Reg.PWR_BOOT btREADING).bootSt = btREADING ∧ (State.reset.blk.setReg Reg.PWR_BOOT btREADING).sys.memErr = [] ∧
    (let b := (at' (fun b => b.setReg Reg.PWR_BOOT btHOST)).blk
     b.bootSt = btHOST ∧ CanWrite 13 Reg.PWR_BOOT_GO b) ∧
    (let b := { (at' (fun b => b.setReg Reg.PWR_BOOT btTWIN)).blk with par := { lanes := [(1, { up := true })] } }
     b.bootSt = btTWIN ∧ (b.gwLane 1).up = true) ∧
    (let b := { inMode 5 (fun b => b.setReg Reg.PWR_BOOT btDONE) with sys := { distaff0 := true } }
     b.bootSt = btDONE ∧ b.sys.distaff0 = true ∧ b.sys.firmware = false ∧ b.mode = 5) := by
  unfold CanWrite Block.steady; refine ⟨?_, ?_, ?_, ?_, ?_, ?_⟩ <;> decide +kernel

/-! ## Worked examples of the spec -/

/-- What a command leaves of the block. -/
def after (c : Instr) (s : State) : Option State := match exec c s with | .next t => some t | _ => none

/-- R39: the check value of CRC-32C. -/
theorem test_crc : crc32c ("123456789".toList.map (fun c => BitVec.ofNat 8 c.toNat)) = 0xE3069283 := by decide +kernel

/-- spec/05_spindle_core.md, "rounding a store": half-even, half-up and truncate of +2.5 and -2.5 units, and 1.5 saturating. -/
theorem test_rounding :
    [storeRound 71 0 0 (5 * 2 ^ 39), storeRound 71 1 0 (5 * 2 ^ 39), storeRound 71 2 0 (5 * 2 ^ 39)] = [(2, false), (3, false), (2, false)] ∧
    [storeRound 71 0 0 (-5 * 2 ^ 39), storeRound 71 1 0 (-5 * 2 ^ 39), storeRound 71 2 0 (-5 * 2 ^ 39)] = [(-2, false), (-2, false), (-3, false)] ∧
    storeRound 71 0 0 (3 * 2 ^ 70) = (0x7FFFFFFF, true) := by decide +kernel

/-- spec/06_spindle_isa.md, "a stereo FIR kernel": its words name its instructions. -/
theorem test_fir_words :
    [0x3014008000000000, 0x3160000000002000, 0x3190140000000000, 0x00E0400000000015, 0x30D8000000000000, 0x2904250000000000, 0x00C0003FF0000012,
      0x32004C0000000000, 0x3100040000000000, 0x3055808000000000, 0x0040000000000000].map spnOpOf =
    [SpnOp.ld, .ldi, .mov, .loop, .stc, .macDualReal, .loop, .aupd, .sta, .st, .waitb].map some := by decide +kernel

/-- The same kernel's LDI L0 and LDI A1. -/
theorem test_fir_ldi :
    (after (.ldi 0 .ok) (spin 0x3160000000002000 {})).map (fun t => ((t.blk.spn 0).lreg 0, (t.blk.spn 0).pc)) = some (0x2000, 1) ∧
    (after (.ldi 0 .ok) (spin 0x3151000000200000 {})).map (fun t => (t.blk.spn 0).areg 1) = some 0x200000 := by decide +kernel

/-- R187: a wrapped sum, a saturated one, and an absolute value that saturates. -/
theorem test_alu :
    (after (.add 0 .ok) (spin (2 ^ 60 + 2 ^ 41 + 1) { d := [(0, 0xFFFFFFFF)] })).map (fun t => (t.blk.spn 0).dreg 0) = some 0 ∧
    (after (.adds 0 .ok) (spin (2 ^ 60 + 2 * 2 ^ 54 + 2 ^ 41 + 1) { d := [(0, 0x7FFFFFFF)] })).map (fun t => (t.blk.spn 0).dreg 0) = some 0x7FFFFFFF ∧
    (after (.abs 0 .ok) (spin (2 ^ 60 + 12 * 2 ^ 54) { d := [(0, 0x80000000)] })).map (fun t => (t.blk.spn 0).dreg 0) = some 0x7FFFFFFF := by
  decide +kernel

/-- spec/04_loom.md, "a 48-input stereo mix": the first two SUM cards and the left weir's. -/
theorem test_mix_cards :
    (let k := cardFields (BitVec.ofNat 128 (0x1800048040010000 * 2 ^ 64))
     k.op = 6 ∧ k.src = 0 ∧ k.dst = 0x1201 ∧ k.coef = 1) ∧
    (let k := cardFields (BitVec.ofNat 128 (0x2490041980600008 * 2 ^ 64 + 0x0000300A70000000))
     k.op = 9 ∧ k.src = 0x1200 ∧ k.dst = 0x1066 ∧ k.coef = 96 ∧ k.meter = true ∧ fld k.opnd 0 32 = 0x70000000 ∧ fld k.opnd 40 8 = 48) := by
  decide +kernel

/-- The weir of that example at +6.02 dBFS: its gain is 0.4375 and its output 0.875. -/
theorem test_mix_weir :
    (let d : Draft := { chunks := [{ tag := tagLANE, pay := leBytes 4 0x1200 }] }
     let s := at' (fun b => { b with stg := { force := some d }, loom := { lanes := [(0x1200, [(0, BitVec.ofNat 64 (2 ^ 49))])], coefs := [(96, 0x08000000)], passes := [(0, { active := true })] } })
     (after (.cardWeir 0 (0x2490041980600008 * 2 ^ 64 + 0x0000300A70000000)) s).map (fun t => ((t.blk.slot 0).g, (t.blk.lane 0x1066 0)))) =
      some (0x1C000000, 0x70000000) := by decide +kernel

/-- spec/04_loom.md, "a fader move": an edit released 20 us after block tick 0 is due at block 2. -/
theorem test_fader_due : (at' (fun b => { b with tsu := { ns := 20000 } })).blk.editDue = 2 := by decide +kernel

/-- spec/11_network_time.md, "first lock": the step is refused, forced, and the increment of the servo's update. -/
theorem test_first_lock :
    (let s := at' (fun b => ((b.setReg Reg.TSU_JUMP_LIM 1000).setReg Reg.TSU_STEP_SEC 0x6553F0F3).setReg Reg.TSU_STEP_NS 0x1DCD6500)
     (after (.stepRequest 13 1) s).map (fun t => (t.blk.tsu.step, t.blk.rb Reg.TSU_INT 1)) = some (none, true) ∧
     (after (.stepRequest 13 3) s).map (fun t => t.blk.tsu.step) = some (some (1699999987500000000, 16))) ∧
    (after (.incrementWrite 13 1) (at' (fun b => b.setReg Reg.TSU_INCR_LO 0xFFFFFF54))).map (fun t => t.blk.tsu.incrNext) = some (some 0x1FFFFFF54) := by
  decide +kernel

/-- spec/17_matrix_basins.md, "a lock contested": distaff 1 acquires SYS_SEM20, the host reads its name, and the release frees it. -/
theorem test_lock :
    (let s := (at' (fun b => b.setReg Reg.MBX_PRIV 3))
     (after (.semaphoreRead 14 20) s).map (fun t => t.sems) = some [(20, 15)] ∧
     (after (.semaphoreRead 15 20) { s with sems := [(20, 15)] }).map (fun t => (t.sems, t.blk.out.contains (.read (regBase + Reg.SYS_SEM 20) 4 0x8000000E)))
       = some ([(20, 15)], true) ∧
     (after (.semaphoreRelease 14 20 0) { s with sems := [(20, 15)] }).map (fun t => t.sems) = some []) := by decide +kernel

/-- A command in front of the queue runs, and the next one waits. -/
theorem test_step : (match step { State.reset with pending := [.xtReturn, .nowRead] } with | .next t => t.pending | _ => []) = [.nowRead] := by
  decide +kernel

end Sys2Proof.Tests
end

section
/-! PROOFS. The arithmetic of a spindle (spec/06_spindle_isa.md, R186 and R187): what an ALU instruction leaves, the operation codes of the
instruction table, and each operation's result on every pair of operands. -/

namespace Sys2Proof.Machine

/-! ## Operation codes (R171, R172) -/

/-- The class of each instruction. -/
def SpnOp.cls : SpnOp → Nat
  | .nop | .waitb | .br | .loop | .break_ => 0
  | .add | .sub | .adds | .subs | .and_ | .or_ | .xor_ | .shl | .asr | .lsr | .min_ | .max_ | .abs_ | .neg | .mulf | .muli => 1
  | .macComplex | .macConjugate | .macDualReal => 2
  | .ld | .st | .ldc | .stc | .sta | .ldi | .mov | .ldacc | .aupd => 3
  | .exp | .expa | .norm | .bxdr | .aclr => 4
  | .bfly => 5

/-- The operation code of each instruction in its class; of a MAC, its FORM. -/
def SpnOp.num : SpnOp → Nat
  | .nop | .add | .macComplex | .ld | .exp | .bfly => 0
  | .waitb | .sub | .macConjugate | .st | .expa => 1
  | .br | .adds | .macDualReal | .ldc | .norm => 2
  | .loop | .subs | .stc | .bxdr => 3
  | .break_ | .and_ | .sta | .aclr => 4
  | .or_ | .ldi => 5
  | .xor_ | .mov => 6
  | .shl | .ldacc => 7
  | .asr | .aupd => 8
  | .lsr => 9
  | .min_ => 10
  | .max_ => 11
  | .abs_ => 12
  | .neg => 13
  | .mulf => 14
  | .muli => 15

/-- Where a word holds the number of an instruction in its class: OP, or FORM in the class of the MACs. -/
def spnNum (w : Nat) : Nat := if fld w 60 4 = 2 then fld w 58 2 else fld w 54 6

/-- A word that names an instruction holds its class and its number. -/
theorem spnOpOf_some {w : Nat} {o : SpnOp} (h : spnOpOf w = some o) : fld w 60 4 = o.cls ∧ spnNum w = o.num := by
  unfold spnOpOf at h
  dsimp only at h
  repeat' split at h
  all_goals cases h
  all_goals simp [spnNum, SpnOp.cls, SpnOp.num, *]

/-- The words of an instruction are those that hold its class and its number. -/
theorem spnOpOf_eq_some_iff (w : Nat) (o : SpnOp) : spnOpOf w = some o ↔ fld w 60 4 = o.cls ∧ spnNum w = o.num := by
  refine ⟨spnOpOf_some, fun ⟨hc, hn⟩ => ?_⟩
  unfold spnNum at hn
  cases o <;> simp_all [spnOpOf, SpnOp.cls, SpnOp.num]

/-- Every instruction but a MAC is named by its class and OP. -/
theorem SpnOp.coded (o : SpnOp) (h : o.cls ≠ 2) : Coded o o.cls o.num := by
  intro w
  rw [spnOpOf_eq_some_iff]
  refine and_congr_right fun hc => ?_
  rw [spnNum, if_neg (hc ▸ h)]

theorem SpnOp.num_lt_of_alu (o : SpnOp) (h : o.cls = 1) : o.num < 16 := by
  cases o <;> cases h <;> decide

/-- The operation codes from 16 on are reserved in the class of the ALU (R187). -/
theorem spnOpOf_alu_reserved {w : Nat} (hc : fld w 60 4 = 1) (h16 : 16 ≤ fld w 54 6) : spnOpOf w = none := by
  rw [Option.eq_none_iff_forall_not_mem]
  intro o ho
  obtain ⟨hcls, hnum⟩ := spnOpOf_some ho
  have hlt := o.num_lt_of_alu (hcls ▸ hc)
  rw [spnNum, if_neg (by omega)] at hnum
  omega

/-! ## Saturation and rounding -/

theorem satS_of_inRange {x : Int} (hl : -2 ^ 31 ≤ x) (hu : x < 2 ^ 31) : satS 32 x = x := by
  unfold satS minS maxS
  rw [if_neg (by omega), if_neg (by omega)]

/-- Rounding to the nearest multiple keeps within bounds that are multiples. -/
theorem rndHE_inRange {s : Nat} {x lo hi : Int} (hl : lo * 2 ^ s ≤ x) (hu : x ≤ hi * 2 ^ s) : lo ≤ rndHE s x ∧ rndHE s x ≤ hi := by
  have hpos : (0 : Int) < 2 ^ s := Int.pow_pos (by decide)
  have hlo : lo ≤ x / 2 ^ s := (Int.le_ediv_iff_mul_le hpos).2 hl
  have hhi : x / 2 ^ s ≤ hi := Int.le_trans (Int.ediv_le_ediv hpos hu) (Int.le_of_eq (Int.mul_ediv_cancel _ (Int.ne_of_gt hpos)))
  have hup : 2 ^ s ≤ 2 * (x % 2 ^ s) → x / 2 ^ s + 1 ≤ hi := by
    intro hr
    have hmod := Int.mul_ediv_add_emod x (2 ^ s)
    refine Int.lt_of_mul_lt_mul_left (a := 2 ^ s) ?_ (Int.le_of_lt hpos)
    rw [Int.mul_comm _ hi]
    omega
  have hden : ((2 ^ s : Nat) : Int) = 2 ^ s := Int.natCast_pow 2 s
  unfold rndHE divHE
  simp only [hden]
  split
  · omega
  split
  · omega
  split <;> omega

/-! ## The results of R187 that the model writes otherwise -/

theorem aluRes_shl (a c : BitVec 32) :
    aluRes .shl a c = if 32 ≤ c.toNat % 64 then 0 else a <<< (c.toNat % 64) := by
  split
  next h => exact BitVec.shiftLeft_eq_zero h
  · rfl

theorem aluRes_lsr (a c : BitVec 32) :
    aluRes .lsr a c = if 32 ≤ c.toNat % 64 then 0 else a >>> (c.toNat % 64) := by
  split
  next h => exact BitVec.ushiftRight_eq_zero h
  · rfl

theorem aluRes_min (a c : BitVec 32) : aluRes .min_ a c = if a.toInt ≤ c.toInt then a else c := by
  simp only [aluRes, ← Int.not_le, ite_not]

theorem aluRes_max (a c : BitVec 32) : aluRes .max_ a c = if a.toInt ≤ c.toInt then c else a := by
  show (if a.toInt < c.toInt then c else a) = _
  rcases Int.lt_trichotomy a.toInt c.toInt with h | h | h
  · rw [if_pos h, if_pos (Int.le_of_lt h)]
  · rw [BitVec.eq_of_toInt_eq h, ite_self, ite_self]
  · rw [if_neg (Int.lt_asymm h), if_neg (Int.not_le.2 h)]

/-- A word shifted right by its whole width or more leaves its sign. -/
theorem toInt_ediv_pow_of_le (a : BitVec 32) {k : Nat} (hk : 32 ≤ k) : a.toInt / 2 ^ k = if a.toInt < 0 then -1 else 0 := by
  have hpow : (2 : Int) ^ 32 ≤ 2 ^ k := by exact_mod_cast Nat.pow_le_pow_right (by decide : 0 < 2) hk
  have hlo := a.le_toInt
  have hhi := a.toInt_lt
  split
  next hn => exact Int.ediv_eq_neg_one_of_neg_of_le hn (by omega)
  next hn => exact Int.ediv_eq_zero_of_lt (by omega) (by omega)

theorem aluRes_asr (a c : BitVec 32) :
    aluRes .asr a c = if 32 ≤ c.toNat % 64 then (if a.toInt < 0 then -1 else 0) else a.sshiftRight (c.toNat % 64) := by
  show BitVec.ofInt 32 (a.toInt / 2 ^ (c.toNat % 64)) = _
  split
  next hk =>
    rw [toInt_ediv_pow_of_le a hk]
    split <;> rfl
  next => rw [BitVec.sshiftRight, Int.shiftRight_eq_div_pow, Int.natCast_pow]; rfl

/-- The least word is the only one whose value is -2^31. -/
theorem neg_pow_lt_toInt {a : BitVec 32} (h : a ≠ 0x80000000) : -2 ^ 31 < a.toInt := by
  have hne : a.toInt ≠ -2 ^ 31 := fun e => h (BitVec.eq_of_toInt_eq e)
  have := a.le_toInt
  omega

theorem aluRes_neg (a c : BitVec 32) : aluRes .neg a c = if a = 0x80000000 then 0x7FFFFFFF else -a := by
  split
  next h => subst h; rfl
  next h =>
    have hlo := neg_pow_lt_toInt h
    have hhi := a.toInt_lt
    show BitVec.ofInt 32 (satS 32 (-a.toInt)) = -a
    rw [satS_of_inRange (by omega) (by omega), BitVec.ofInt_neg, BitVec.ofInt_toInt]

theorem aluRes_abs (a c : BitVec 32) :
    aluRes .abs_ a c = if a = 0x80000000 then 0x7FFFFFFF else if a.toInt < 0 then -a else a := by
  by_cases hn : a.toInt < 0
  · have hneg := aluRes_neg a c
    simp only [aluRes] at hneg
    simp only [aluRes, hn, if_true, hneg]
  · have hne : a ≠ 0x80000000 := fun e => hn (by subst e; decide)
    have hhi := a.toInt_lt
    simp only [aluRes, hn, hne, if_false]
    rw [satS_of_inRange (by omega) (by omega), BitVec.ofInt_toInt]

theorem natAbs_toInt_le (a : BitVec 32) : a.toInt.natAbs ≤ 2 ^ 31 := by
  have := a.le_toInt
  have := a.toInt_lt
  omega

theorem natAbs_toInt_lt {a : BitVec 32} (h : a ≠ 0x80000000) : a.toInt.natAbs ≤ 2 ^ 31 - 1 := by
  have := neg_pow_lt_toInt h
  have := a.toInt_lt
  omega

/-- Of all products of two words only that of the least one by itself reaches 2^62, which is 1.0 (R187). -/
theorem natAbs_mul_toInt_le {a c : BitVec 32} (h : ¬(a = 0x80000000 ∧ c = 0x80000000)) :
    (a.toInt * c.toInt).natAbs ≤ (2 ^ 31 - 1) * 2 ^ 31 := by
  rw [Int.natAbs_mul]
  rcases Decidable.not_and_iff_not_or_not.1 h with ha | hc
  · exact Nat.mul_le_mul (natAbs_toInt_lt ha) (natAbs_toInt_le c)
  · rw [Nat.mul_comm]; exact Nat.mul_le_mul (natAbs_toInt_lt hc) (natAbs_toInt_le a)

theorem aluRes_mulf (a c : BitVec 32) :
    aluRes .mulf a c =
      if a = 0x80000000 ∧ c = 0x80000000 then 0x7FFFFFFF else BitVec.ofInt 32 (rndHE 31 (a.toInt * c.toInt)) := by
  split
  next h => obtain ⟨rfl, rfl⟩ := h; decide
  next h =>
    have hp := natAbs_mul_toInt_le h
    obtain ⟨hlo, hhi⟩ := rndHE_inRange (s := 31) (x := a.toInt * c.toInt) (lo := -(2 ^ 31 - 1)) (hi := 2 ^ 31 - 1)
      (by omega) (by omega)
    show BitVec.ofInt 32 (satS 32 (rndHE 31 (a.toInt * c.toInt))) = _
    rw [satS_of_inRange (by omega) (by omega)]

theorem aluRes_muli (a c : BitVec 32) : aluRes .muli a c = a * c := by
  show BitVec.ofInt 32 (a.toInt * c.toInt) = a * c
  rw [BitVec.ofInt_mul, BitVec.ofInt_toInt, BitVec.ofInt_toInt]

/-! ## The effect of an ALU instruction (R186) -/

/-- A command at a legal word of its instruction, one that sets its own spindle alone: the PC then moves on, and nothing else changes. -/
theorem onBlk_spnDo_setSpn {s : State} {n w : Nat} {o : SpnOp} {f : Block → Nat → Nat → Block} {y : Spindle} (h : SpnAt s.blk n o w)
    (hf : f s.blk n w = s.blk.setSpn n y) :
    ∃ t, onBlk (Block.spnDo o f n .ok) s = .next t ∧ t.pending = s.pending ∧ t.sems = s.sems ∧ t.blk.spn n = y.step' ∧
      OnlySpn n s.blk t.blk := by
  obtain ⟨t, ht, hpend, hsems, hblk⟩ := onBlk_next (Block.spnDo o f n .ok) s
  have hset : t.blk = (s.blk.setSpn n y.step').settle := by
    rw [hblk, Block.spnDo_at h, hf, Block.spn_setSpn, Block.setSpn_setSpn]
  exact ⟨t, ht, hpend, hsems, by rw [hset, Block.spn_settle, Block.spn_setSpn], hset ▸ OnlySpn_setSpn n s.blk _⟩

theorem SameKernel.step {x y : Spindle} (h : SameKernel x y) : SameKernel x y.step' := by simpa [SameKernel] using h

@[simp] theorem Spindle.dreg_step (x : Spindle) (i : Nat) : x.step'.dreg i = x.dreg i := by simp [Spindle.dreg]

/-- A spindle after the ALU instruction `o` of word `w`, before the PC moves on. -/
def Spindle.alu (x : Spindle) (o : SpnOp) (w : Nat) : Spindle :=
  (x.issue ([x.dAt (fld w 46 4)] ++ (if bit w 41 ∨ o = .abs_ ∨ o = .neg then [] else [x.dAt (fld w 42 4)])) 1).setD (fld w 50 4)
    (aluRes o (x.dreg (fld w 46 4)) (aluB x w))

theorem spnAlu_eq (b : Block) (n : Nat) (o : SpnOp) (w : Nat) : spnAlu b n o w = b.setSpn n ((b.spn n).alu o w) := rfl

theorem Spindle.dreg_alu (x : Spindle) (o : SpnOp) (w i : Nat) :
    (x.alu o w).dreg i = if i = fld w 50 4 then aluRes o (x.dreg (fld w 46 4)) (aluB x w) else x.dreg i := by
  rw [Spindle.alu, Spindle.dreg_setD]; rfl

/-- An ALU instruction leaves every register but the D registers. -/
@[simp] theorem Spindle.alu_frame (x : Spindle) (o : SpnOp) (w : Nat) :
    (x.alu o w).a = x.a ∧ (x.alu o w).m = x.m ∧ (x.alu o w).l = x.l ∧ (x.alu o w).acc = x.acc ∧ (x.alu o w).bxd = x.bxd ∧
    (x.alu o w).aov = x.aov ∧ (x.alu o w).sov = x.sov := ⟨rfl, rfl, rfl, rfl, rfl, rfl, rfl⟩

theorem Spindle.alu_sameKernel (x : Spindle) (o : SpnOp) (w : Nat) : SameKernel x (x.alu o w) :=
  ⟨rfl, rfl, rfl, rfl, rfl, rfl, rfl, rfl, rfl, rfl⟩

/-- An ALU instruction whose command runs `spnAlu` completes at its word and leaves its result (R186). -/
theorem yields_of_alu {i : Instr} {s : State} {n w : Nat} {o : SpnOp} {r : BitVec 32 → BitVec 32 → BitVec 32}
    (hi : exec i s = onBlk (Block.spnDo o (fun b k w => spnAlu b k o w) n .ok) s) (hr : ∀ a c, aluRes o a c = r a c)
    (h : SpnAt s.blk n o w) : Yields i s (AluLeaves n w r s.blk) := by
  obtain ⟨t, ht, hpend, hsems, hspn, honly⟩ := onBlk_spnDo_setSpn (f := fun b k w => spnAlu b k o w) h (spnAlu_eq s.blk n o w)
  have hsame := ((s.blk.spn n).alu_sameKernel o w).step
  have hgo : GoesOn (s.blk.spn n) ((s.blk.spn n).alu o w).step' := GoesOn_step _ _ h.base rfl rfl rfl rfl
  refine ⟨t, hi.trans ht, hpend, hsems, ?_⟩
  unfold AluLeaves
  simp only [hspn, Spindle.dreg_step, Spindle.dreg_alu, Spindle.step_frame, Spindle.alu_frame, if_true, true_and]
  exact ⟨hr _ _, fun i hne => if_neg hne, hsame, hgo, honly⟩

/-- Settles O16: each command runs `spnAlu` at its word, with the result of R187, and the table of operation codes is that of `spnOpOf`. -/
theorem spindleArithmetic : Obligations.SpindleArithmetic := by
  unfold Obligations.SpindleArithmetic
  refine ⟨fun s n w => ?results, ?codes, fun w => spnOpOf_alu_reserved⟩
  case results =>
    exact ⟨yields_of_alu rfl fun _ _ => rfl, yields_of_alu rfl fun _ _ => rfl, yields_of_alu rfl fun _ _ => rfl,
      yields_of_alu rfl fun _ _ => rfl, yields_of_alu rfl fun _ _ => rfl, yields_of_alu rfl fun _ _ => rfl,
      yields_of_alu rfl fun _ _ => rfl, yields_of_alu rfl aluRes_shl, yields_of_alu rfl aluRes_asr, yields_of_alu rfl aluRes_lsr,
      yields_of_alu rfl aluRes_min, yields_of_alu rfl aluRes_max, yields_of_alu rfl aluRes_abs, yields_of_alu rfl aluRes_neg,
      yields_of_alu rfl aluRes_mulf, yields_of_alu rfl aluRes_muli⟩
  case codes =>
    have alu : ∀ o : SpnOp, o.cls = 1 → Coded o 1 o.num := fun o h => h ▸ o.coded (by omega)
    exact ⟨alu .add rfl, alu .sub rfl, alu .adds rfl, alu .subs rfl, alu .and_ rfl, alu .or_ rfl, alu .xor_ rfl, alu .shl rfl,
      alu .asr rfl, alu .lsr rfl, alu .min_ rfl, alu .max_ rfl, alu .abs_ rfl, alu .neg rfl, alu .mulf rfl, alu .muli rfl⟩

end Sys2Proof.Machine
end

section
/-! PROOFS. The semaphores (spec/17_matrix_basins.md, R448): the bytes of a read, a permitted access to a register, what a read and a write
of a semaphore leave, the bits of SYS_SEM_HELD, and the fault that MTX records (R457). -/

namespace Sys2Proof.Machine

/-! ## Bytes and bits of a number -/

theorem leNat_leBytes (n v : Nat) : leNat (leBytes n v) = v % 256 ^ n := by
  induction n generalizing v with
  | zero => simp [leBytes, leNat, Nat.mod_one]
  | succ n ih =>
    rw [leBytes, leNat, ih, BitVec.toNat_ofNat, Nat.pow_succ' (m := 256)]
    exact Nat.mod_mul.symm

theorem drop_leBytes (k n v : Nat) : (leBytes (k + n) v).drop k = leBytes n (v / 256 ^ k) := by
  induction k generalizing v with
  | zero => simp
  | succ k ih => rw [Nat.add_right_comm, leBytes, List.drop_succ_cons, ih, Nat.div_div_eq_div_mul, Nat.pow_succ']

theorem take_leBytes (n r v : Nat) : (leBytes (n + r) v).take n = leBytes n v := by
  induction n generalizing v with
  | zero => rfl
  | succ n ih => rw [Nat.add_right_comm, leBytes, List.take_succ_cons, ih, leBytes]

/-- The number that `n` bytes from byte `k` of a longer number spell. -/
theorem leNat_bytes_within {k n l : Nat} (v : Nat) (h : k + n ≤ l) :
    leNat (((leBytes l v).drop k).take n) = v / 256 ^ k % 256 ^ n := by
  obtain ⟨r, rfl⟩ := Nat.exists_eq_add_of_le h
  rw [Nat.add_assoc, drop_leBytes, take_leBytes, leNat_leBytes]

theorem sum_bits_upFrom_succ (f : Nat → Bool) (a n : Nat) :
    ((upFrom (a + 1) n).map (fun i => b2n (f i) * 2 ^ i)).sum = 2 * ((upFrom a n).map (fun i => b2n (f (i + 1)) * 2 ^ i)).sum := by
  induction n generalizing a with
  | zero => rfl
  | succ n ih =>
    rw [upFrom, upFrom, List.map_cons, List.map_cons, List.sum_cons, List.sum_cons, ih, Nat.mul_add, Nat.pow_succ, ← Nat.mul_assoc,
      Nat.mul_comm _ 2]

theorem bitsOf_succ (n : Nat) (f : Nat → Bool) : bitsOf (n + 1) f = b2n (f 0) + 2 * bitsOf n (fun i => f (i + 1)) := by
  rw [bitsOf, below, upFrom, List.map_cons, List.sum_cons, sum_bits_upFrom_succ, Nat.pow_zero, Nat.mul_one, bitsOf, below]

theorem testBit_bitsOf (n i : Nat) (f : Nat → Bool) (h : i < n) : (bitsOf n f).testBit i = f i := by
  induction n generalizing f i with
  | zero => exact absurd h (Nat.not_lt_zero i)
  | succ n ih =>
    have hbit : b2n (f 0) < 2 := by cases f 0 <;> decide
    rw [bitsOf_succ]
    cases i with
    | zero =>
      rw [Nat.testBit_zero, Nat.add_mul_mod_self_left, Nat.mod_eq_of_lt hbit]
      cases f 0 <;> rfl
    | succ i =>
      rw [Nat.testBit_succ, Nat.add_mul_div_left _ _ (by decide), Nat.div_eq_of_lt hbit, Nat.zero_add]
      exact ih i _ (Nat.lt_of_succ_lt_succ h)

theorem fld_mod {w lo n k : Nat} (h : lo + n ≤ k) : fld (w % 2 ^ k) lo n = fld w lo n := by
  refine Nat.eq_of_testBit_eq fun i => ?_
  simp only [fld, Nat.testBit_mod_two_pow, Nat.testBit_shiftRight]
  by_cases hi : i < n
  · simp [hi, show lo + i < k by omega]
  · simp [hi]

theorem fld_setFld_same (w lo n v : Nat) : fld (setFld w lo n v) lo n = v % 2 ^ n := by
  have hpos : 0 < 2 ^ lo := Nat.two_pow_pos lo
  have hw : 2 ^ lo * (w / 2 ^ lo) + w % 2 ^ lo = w := Nat.div_add_mod w (2 ^ lo)
  have hq : 2 ^ n * (w / 2 ^ lo / 2 ^ n) + w / 2 ^ lo % 2 ^ n = w / 2 ^ lo := Nat.div_add_mod _ _
  have hsub : w - w / 2 ^ lo % 2 ^ n * 2 ^ lo = 2 ^ lo * (2 ^ n * (w / 2 ^ lo / 2 ^ n)) + w % 2 ^ lo := by
    refine Nat.sub_eq_of_eq_add ?_
    calc w = 2 ^ lo * (2 ^ n * (w / 2 ^ lo / 2 ^ n) + w / 2 ^ lo % 2 ^ n) + w % 2 ^ lo := by rw [hq, hw]
      _ = _ := by rw [Nat.mul_add, Nat.add_right_comm, Nat.mul_comm _ (w / 2 ^ lo % 2 ^ n)]
  have hset : setFld w lo n v = w % 2 ^ lo + 2 ^ lo * (v % 2 ^ n + 2 ^ n * (w / 2 ^ lo / 2 ^ n)) := by
    rw [setFld, fld, Nat.shiftRight_eq_div_pow, hsub, Nat.mul_comm _ (2 ^ lo), Nat.mul_add]
    omega
  rw [hset, fld, Nat.shiftRight_eq_div_pow, Nat.add_mul_div_left _ _ hpos, Nat.div_eq_of_lt (Nat.mod_lt _ hpos), Nat.zero_add,
    Nat.add_mul_mod_self_left, Nat.mod_mod]

/-! ## The fault that MTX records (R457) -/

theorem Block.rfld_count_same (b : Block) (a lo n k : Nat) (h : lo + n ≤ 32) :
    (b.count a lo n k).rfld a lo n = min (2 ^ n - 1) (b.rfld a lo n + k) := by
  have hpos : 0 < 2 ^ n := Nat.two_pow_pos n
  rw [Block.count, Block.setRfld, Block.rfld, Block.reg_setReg_same, fld_mod h, fld_setFld_same]
  unfold satN
  split
  · rw [Nat.mod_eq_of_lt (by omega)]; omega
  · rw [Nat.mod_eq_of_lt (by omega)]; omega

/-- What an error makes of its source's record (R487, R488). -/
theorem Block.frec_raise (b : Block) (k code cls spec unit : Nat) :
    (b.raise k code cls spec unit).frec k = if (b.cycle.getD []).contains k && (b.frec k).pend then
        recSame (b.frec k) code cls spec unit
      else recAfter (b.frec k) (b.reg (graceReg k) % 2 ^ 16) b.blk b.pclk code cls spec unit := tget_tput_same _ _ _ _

/-- An error leaves its source's record pending. -/
theorem Block.pend_raise (b : Block) (k code cls spec unit : Nat) : ((b.raise k code cls spec unit).frec k).pend = true := by
  rw [Block.frec_raise]
  split
  next h => exact (Bool.and_eq_true_iff.1 h).2
  next =>
    unfold recAfter
    split
    next h => exact h
    next => rfl

/-- The code with which a record opens, where no error was pending. -/
theorem Block.code_raise (b : Block) (k code cls spec unit : Nat) (h : (b.frec k).pend = false) :
    ((b.raise k code cls spec unit).frec k).code = code := by
  rw [Block.frec_raise, h, Bool.and_false]
  simp [recAfter, h]

@[simp] theorem Block.reg_raise (b : Block) (k code cls spec unit a : Nat) : (b.raise k code cls spec unit).reg a = b.reg a :=
  Block.reg_congr (by simp) a

theorem Block.reg_count_ne (b : Block) (a c lo n k : Nat) (h : c ≠ a) : (b.count a lo n k).reg c = b.reg c :=
  b.reg_setReg_ne a c _ h

theorem Block.reg_setInt (b : Block) (a c i : Nat) : (b.setInt a i).reg c = if c = a then (b.reg a ||| 2 ^ i) % 2 ^ 32 else b.reg c :=
  b.reg_setReg a c _

theorem Block.reg_setReg64_ne (b : Block) (lo hi c v : Nat) (hl : c ≠ lo) (hh : c ≠ hi) : (b.setReg64 lo hi v).reg c = b.reg c := by
  rw [Block.setReg64, Block.reg_setReg_ne _ _ _ _ hh, Block.reg_setReg_ne _ _ _ _ hl]

theorem Block.reg64_setReg64 (b : Block) (lo hi v : Nat) (h : lo ≠ hi) : (b.setReg64 lo hi v).reg64 lo hi = v % 2 ^ 64 := by
  rw [Block.reg64, Block.setReg64, Block.reg_setReg_ne _ _ _ _ h, Block.reg_setReg_same, Block.reg_setReg_same]
  omega

section
variable (b : Block) (code m a : Nat) (w : Bool)

/-- Every register but the five of R457 reads as before a fault of MTX. -/
theorem Block.reg_mtxFault_ne (r : Nat) (h : r ∉ mtxRegs) : (b.mtxFault code m a w).reg r = b.reg r := by
  simp only [mtxRegs, List.mem_cons, List.not_mem_nil, or_false, not_or] at h
  obtain ⟨hint, hlo, hhi, hinfo, hcnt⟩ := h
  rw [Block.mtxFault, Block.reg_raise, Block.reg_count_ne _ _ _ _ _ _ hcnt, Block.reg_setReg_ne _ _ _ _ hinfo,
    Block.reg_setReg64_ne _ _ _ _ _ hlo hhi, Block.reg_setInt, if_neg hint]

/-- The bit of MTX_INT that a code sets. -/
theorem Block.rb_mtxFault_int (h : code ≤ 32) : (b.mtxFault code m a w).rb Reg.MTX_INT (code - 1) = true := by
  rw [Block.rb, Block.mtxFault, Block.reg_raise, Block.reg_count_ne _ _ _ _ _ _ (by decide), Block.reg_setReg_ne _ _ _ _ (by decide),
    Block.reg_setReg64_ne _ _ _ _ _ (by decide) (by decide), Block.reg_setInt, if_pos rfl, Nat.testBit_mod_two_pow, Nat.testBit_or,
    Nat.testBit_two_pow_self, Bool.or_true, Bool.and_true, decide_eq_true_eq]
  omega

theorem Block.reg64_mtxFault_addr :
    (b.mtxFault code m a w).reg64 Reg.MTX_ERR_ADDR_LO Reg.MTX_ERR_ADDR_HI = a % 2 ^ 40 := by
  have hkeep : ∀ r, r ≠ Reg.MTX_CNT → r ≠ Reg.MTX_ERR_INFO → (b.mtxFault code m a w).reg r =
      ((b.setInt Reg.MTX_INT (code - 1)).setReg64 Reg.MTX_ERR_ADDR_LO Reg.MTX_ERR_ADDR_HI (a % 2 ^ 40)).reg r := fun r hc hi => by
    rw [Block.mtxFault, Block.reg_raise, Block.reg_count_ne _ _ _ _ _ _ hc, Block.reg_setReg_ne _ _ _ _ hi]
  rw [Block.reg64, hkeep _ (by decide) (by decide), hkeep _ (by decide) (by decide), ← Block.reg64, Block.reg64_setReg64 _ _ _ _ (by decide)]
  omega

theorem Block.reg_mtxFault_info (h : code ≤ 32) :
    (b.mtxFault code m a w).reg Reg.MTX_ERR_INFO = code * 256 + b2n w * 16 + m % 16 := by
  have hw : b2n w ≤ 1 := by cases w <;> decide
  rw [Block.mtxFault, Block.reg_raise, Block.reg_count_ne _ _ _ _ _ _ (by decide), Block.reg_setReg_same]
  omega

/-- Each fault of MTX is counted, the cut bursts in the upper half of MTX_CNT and the others in the lower. -/
theorem Block.rfld_mtxFault_cnt (lo : Nat) (h : lo = if code = mtxCUT then 16 else 0) :
    (b.mtxFault code m a w).rfld Reg.MTX_CNT lo 16 = min 65535 (b.rfld Reg.MTX_CNT lo 16 + 1) := by
  have hlo : lo + 16 ≤ 32 := by subst h; split <;> decide
  have hold : (((b.setInt Reg.MTX_INT (code - 1)).setReg64 Reg.MTX_ERR_ADDR_LO Reg.MTX_ERR_ADDR_HI (a % 2 ^ 40)).setReg
      Reg.MTX_ERR_INFO (code * 256 + b2n w * 16 + m % 16)).reg Reg.MTX_CNT = b.reg Reg.MTX_CNT := by
    rw [Block.reg_setReg_ne _ _ _ _ (by decide), Block.reg_setReg64_ne _ _ _ _ _ (by decide) (by decide), Block.reg_setInt,
      if_neg (by decide)]
  rw [Block.rfld, Block.mtxFault, Block.reg_raise, ← h, ← Block.rfld, Block.rfld_count_same _ _ _ _ _ hlo, Block.rfld, hold]
  rfl

/-- A fault of MTX is recorded, and nothing else changes (R457, R487). -/
theorem Block.mtxRecorded_mtxFault (h : code ≤ 32) : MtxRecorded code m a w b (b.mtxFault code m a w).settle := by
  have hreg : ∀ r, (b.mtxFault code m a w).settle.reg r = (b.mtxFault code m a w).reg r := Block.reg_settle _
  have hrec : (b.mtxFault code m a w).settle.frec srcMTX = (b.mtxFault code m a w).frec srcMTX := by simp [Block.frec]
  unfold MtxRecorded
  simp only [Block.rb, Block.reg64, Block.rfld, hreg, hrec]
  refine ⟨b.rb_mtxFault_int code m a w h, b.reg64_mtxFault_addr code m a w, b.reg_mtxFault_info code m a w h,
    b.rfld_mtxFault_cnt code m a w _ rfl, Block.pend_raise _ _ _ _ _ _, fun hp => Block.code_raise _ _ _ _ _ _ hp,
    b.reg_mtxFault_ne code m a w, Block.like_settle _ _ ?_⟩
  simp [Block.like, Block.calm]

end

/-! ## A permitted access to a register (R421, R445) -/

/-- A read that a master may make reaches the register: SYS_SEM_HELD, a semaphore, or a register of the block. -/
theorem State.busRead_of_canRead {m a : Nat} {s : State} (h : CanRead m a s.blk) :
    s.busRead m a = if a = Reg.SYS_SEM_HELD_LO then (s.semHeld 0, s) else if a = Reg.SYS_SEM_HELD_HI then (s.semHeld 1, s)
      else (semAt a).elim ((s.blk.regRead a).1, { s with blk := (s.blk.regRead a).2 }) (fun i => s.semRead m i) := by
  obtain ⟨hreach, hhost, hmail, hpage, hisland⟩ := h
  obtain ⟨p, hp⟩ := Option.isSome_iff_exists.1 hpage
  have hlevel : ¬(m = 15 ∧ (!hostMayRead (s.blk.level 0) a) = true) := fun ⟨hm, hn⟩ => by simp [hhost hm] at hn
  simp only [State.busRead, hreach, hlevel, State.readReg, hp, hisland, hmail]
  cases semAt a <;> rfl

/-- A write of a semaphore that a master may make reaches it. -/
theorem State.busWrite_sem {m a i : Nat} {s : State} (v : Nat) (h : CanWrite m a s.blk) (hi : semAt a = some i) :
    s.busWrite m a v = s.semWrite m i (v % 2 ^ 32) := by
  obtain ⟨hreach, hhost, hpage, hisland⟩ := h
  obtain ⟨p, hp⟩ := Option.isSome_iff_exists.1 hpage
  have hlevel : ¬(m = 15 ∧ (!hostMayWrite (s.blk.level 0) a) = true) := fun ⟨hm, hn⟩ => by simp [hhost hm] at hn
  simp only [State.busWrite, hreach, hlevel, State.writeReg, hp, hisland, hi]
  rfl

/-- The word that a read of bytes within one register reads, and what it leaves (R11). -/
theorem State.readBytes_within {a k n : Nat} (m : Nat) (s : State) (ha : a % 4 = 0) (hn : 1 ≤ n) (hk : k + n ≤ 4) :
    s.readBytes m (a + k) n = (((leBytes 4 (s.busRead m a).1).drop k).take n, (s.busRead m a).2) := by
  have hword : 4 * ((a + k) / 4) = a := by omega
  have hone : (a + k + n + 3) / 4 - (a + k) / 4 = 1 := by omega
  have hofs : (a + k) % 4 = k := by omega
  simp [State.readBytes, hone, hofs, upFrom, hword]

@[simp] theorem State.mapBlk_sems (f : Block → Block) (s : State) : (s.mapBlk f).sems = s.sems := rfl

@[simp] theorem State.mapBlk_blk (f : Block → Block) (s : State) : (s.mapBlk f).blk = f s.blk := rfl

/-- A command that logs what it reads: the queue stands, and the state is as the read leaves it. -/
theorem onAll_emit (f : State → State) (o : State → Output) (s : State) :
    ∃ t, onAll (fun x => (f x).mapBlk (fun b => b.emit (o x))) s = .next t ∧ t.pending = s.pending ∧ t.sems = (f s).sems ∧
      t.blk.like (f s).blk ∧ o s ∈ t.blk.out := by
  obtain ⟨t, ht, hpend, hsems, hblk⟩ := onAll_next (fun x => (f x).mapBlk (fun b => b.emit (o x))) s
  refine ⟨t, ht, hpend, hsems, ?_, ?_⟩
  · rw [hblk]; exact Block.like_settle _ _ rfl
  · rw [hblk]; exact Block.settle_out_mem _ _ List.mem_cons_self

/-- RC_READ within one register: its bytes leave, and the state is as a read of the register leaves it. -/
theorem exec_rcRead_within {a k n : Nat} (m : Nat) (s : State) (ha : a % 4 = 0) (hn : 1 ≤ n) (hk : k + n ≤ 4) :
    ∃ t, exec (.rcRead m (a + k) n) s = .next t ∧ t.pending = s.pending ∧ t.sems = (s.busRead m a).2.sems ∧
      t.blk.like (s.busRead m a).2.blk ∧ .read (regBase + a + k) n ((s.busRead m a).1 / 256 ^ k % 256 ^ n) ∈ t.blk.out := by
  obtain ⟨t, ht, hpend, hsems, hlike, hout⟩ := onAll_emit (fun x => (x.readBytes m (a + k) n).2)
    (fun x => .read (regBase + (a + k)) n (leNat (x.readBytes m (a + k) n).1)) s
  simp only [State.readBytes_within m s ha hn hk, leNat_bytes_within _ hk, ← Nat.add_assoc] at hsems hlike hout
  exact ⟨t, ht, hpend, hsems, hlike, hout⟩

/-! ## The semaphores (R448) -/

theorem semAt_sys_sem {i : Nat} (h : i < 64) : semAt (Reg.SYS_SEM i) = some i := by
  have ha : Reg.SYS_SEM i = 0x200 + 4 * i := rfl
  rw [semAt, if_pos (by omega), ha, Nat.add_sub_cancel_left, Nat.mul_div_cancel_left i (by decide)]

/-- A read of a semaphore that a master may make. -/
theorem State.busRead_sem {m i : Nat} {s : State} (hi : i < 64) (h : CanRead m (Reg.SYS_SEM i) s.blk) :
    s.busRead m (Reg.SYS_SEM i) = s.semRead m i := by
  have hlo : Reg.SYS_SEM i ≠ Reg.SYS_SEM_HELD_LO := by simp only [Reg.SYS_SEM, Reg.SYS_SEM_HELD_LO]; omega
  have hhi : Reg.SYS_SEM i ≠ Reg.SYS_SEM_HELD_HI := by simp only [Reg.SYS_SEM, Reg.SYS_SEM_HELD_HI]; omega
  rw [State.busRead_of_canRead h, if_neg hlo, if_neg hhi, semAt_sys_sem hi, Option.elim_some]

/-- A read of a semaphore answers 0 where it was free, and else names the holder. -/
theorem State.semRead_value (m i : Nat) (s : State) :
    (s.semRead m i).1 = if tget 0 s.sems i = 0 then 0 else 0x80000000 + (tget 0 s.sems i - 1) := by
  unfold State.semRead; split <;> rfl

/-- A read acquires a free semaphore for the reader and leaves every other. -/
theorem State.tget_semRead (m i j : Nat) (s : State) :
    tget 0 (s.semRead m i).2.sems j = if j = i ∧ tget 0 s.sems i = 0 then m + 1 else tget 0 s.sems j := by
  unfold State.semRead
  split
  next h => simp only [tget_tput, h, and_true]
  next h => simp only [h, and_false, if_false]

@[simp] theorem State.semRead_blk (m i : Nat) (s : State) : (s.semRead m i).2.blk = s.blk := by
  unfold State.semRead; split <;> rfl

theorem State.semWrite_release {m i : Nat} {s : State} (h : tget 0 s.sems i = m + 1) :
    s.semWrite m i 0 = { s with sems := tput 0 i 0 s.sems } := if_pos ⟨rfl, h⟩

theorem State.semWrite_refused {m i v : Nat} {s : State} (h : ¬(v = 0 ∧ tget 0 s.sems i = m + 1)) :
    s.semWrite m i v = s.mapBlk (fun b => b.mtxFault mtxSEM m (regBase + Reg.SYS_SEM i) true) := by
  rw [State.semWrite, if_neg h, Nat.add_assoc]
  rfl

/-- SEMAPHORE_READ is a read of the semaphore's register, whose word leaves. -/
theorem exec_semaphoreRead {i : Nat} (m : Nat) (s : State) (hi : i < 64) :
    ∃ t, exec (.semaphoreRead m i) s = .next t ∧ t.pending = s.pending ∧ t.sems = (s.busRead m (Reg.SYS_SEM i)).2.sems ∧
      t.blk.like (s.busRead m (Reg.SYS_SEM i)).2.blk ∧ .read (regBase + Reg.SYS_SEM i) 4 (s.busRead m (Reg.SYS_SEM i)).1 ∈ t.blk.out := by
  obtain ⟨t, ht, hpend, hsems, hlike, hout⟩ := onAll_emit (fun x => (x.busRead m (Reg.SYS_SEM (i % 64))).2)
    (fun x => .read (regBase + Reg.SYS_SEM (i % 64)) 4 (x.busRead m (Reg.SYS_SEM (i % 64))).1) s
  simp only [Nat.mod_eq_of_lt hi] at hsems hlike hout
  exact ⟨t, ht, hpend, hsems, hlike, hout⟩

/-- SEMAPHORE_RELEASE, where the master may write the register, is a write of the semaphore. -/
theorem exec_semaphoreRelease {m i v : Nat} {s : State} (hi : i < 64) (hv : v < 2 ^ 32) (h : CanWrite m (Reg.SYS_SEM i) s.blk) :
    ∃ t, exec (.semaphoreRelease m i v) s = .next t ∧ t.pending = s.pending ∧ t.sems = (s.semWrite m i v).sems ∧
      t.blk = (s.semWrite m i v).blk.settle := by
  obtain ⟨t, ht, hpend, hsems, hblk⟩ := onAll_next (State.busWrite m (Reg.SYS_SEM (i % 64)) v) s
  rw [Nat.mod_eq_of_lt hi, State.busWrite_sem v h (semAt_sys_sem hi), Nat.mod_eq_of_lt hv] at hsems hblk
  exact ⟨t, ht, hpend, hsems, hblk⟩

/-- SYS_SEM_HELD shows a bit for each held semaphore (R448). -/
theorem State.testBit_semHeld (s : State) (k i : Nat) (h : i < 32) :
    (s.semHeld k % 256 ^ 4).testBit i = decide (tget 0 s.sems (32 * k + i) ≠ 0) := by
  rw [show 256 ^ 4 = 2 ^ 32 from rfl, Nat.testBit_mod_two_pow, decide_eq_true h, Bool.true_and, State.semHeld, testBit_bitsOf _ _ _ h,
    Bool.eq_iff_iff, bne_iff_ne, decide_eq_true_iff]

/-- A read of SYS_SEM_HELD_LO (`k` = 0) or HI that changes no semaphore shows which are held. -/
theorem exec_rcRead_semHeld {m a k : Nat} {s : State} (ha : a % 4 = 0) (hread : s.busRead m a = (s.semHeld k, s)) :
    ∃ t, exec (.rcRead m a 4) s = .next t ∧ t.pending = s.pending ∧ t.sems = s.sems ∧ ∃ v,
      .read (regBase + a) 4 v ∈ t.blk.out ∧ ∀ i, i < 32 → v.testBit i = decide (tget 0 s.sems (32 * k + i) ≠ 0) := by
  obtain ⟨t, ht, hpend, hsems, -, hout⟩ := exec_rcRead_within (k := 0) (n := 4) m s ha (by decide) (by decide)
  rw [hread, Nat.pow_zero, Nat.div_one] at hout
  exact ⟨t, ht, hpend, by rw [hsems, hread], _, hout, s.testBit_semHeld k⟩

/-- Settles O48: an access that R421 and R445 permit reaches the semaphore, whose reads and writes are `semRead` and `semWrite`; RC_READ
takes its bytes from the semaphore's word, and MTX records every other write. -/
theorem semaphores : Obligations.Semaphores := by
  unfold Obligations.Semaphores
  refine ⟨fun s m i k n hi hn hk hr => ?reads, fun s m i v hi hv hw => ⟨fun ⟨hzero, hholder⟩ => ?release, fun hother => ?refused⟩,
    fun s m hr => ?heldLo, fun s m hr => ?heldHi⟩
  case reads =>
    have hafter : ∀ t : State, t.sems = (s.busRead m (Reg.SYS_SEM i)).2.sems → t.blk.like (s.busRead m (Reg.SYS_SEM i)).2.blk →
        (∀ j, tget 0 t.sems j = if j = i ∧ tget 0 s.sems i = 0 then m + 1 else tget 0 s.sems j) ∧ t.blk.like s.blk :=
      fun t hsems hlike => by
        rw [State.busRead_sem hi hr] at hsems hlike
        exact ⟨fun j => hsems ▸ s.tget_semRead m i j, s.semRead_blk m i ▸ hlike⟩
    have hvalue := s.semRead_value m i
    rw [← State.busRead_sem hi hr] at hvalue
    dsimp only
    rw [← hvalue]
    constructor
    · obtain ⟨t, ht, hpend, hsems, hlike, hout⟩ := exec_semaphoreRead m s hi
      exact ⟨t, ht, hpend, hafter t hsems hlike, hout⟩
    · intro _
      have haligned : Reg.SYS_SEM i % 4 = 0 := by rw [Reg.SYS_SEM]; omega
      obtain ⟨t, ht, hpend, hsems, hlike, hout⟩ := exec_rcRead_within m s haligned hn hk
      exact ⟨t, ht, hpend, hafter t hsems hlike, hout⟩
  case release =>
    subst hzero
    obtain ⟨t, ht, hpend, hsems, hblk⟩ := exec_semaphoreRelease hi hv hw
    rw [State.semWrite_release hholder] at hsems hblk
    refine ⟨t, ht, hpend, fun j => ?_, ?_⟩
    · rw [hsems, tget_tput]
    · rw [hblk]; exact Block.like_settle _ _ s.blk.like_refl
  case refused =>
    obtain ⟨t, ht, hpend, hsems, hblk⟩ := exec_semaphoreRelease hi hv hw
    rw [State.semWrite_refused hother, State.mapBlk_sems] at hsems
    rw [State.semWrite_refused hother, State.mapBlk_blk] at hblk
    exact ⟨t, ht, hpend, hsems, hblk ▸ s.blk.mtxRecorded_mtxFault mtxSEM m _ true (by decide)⟩
  case heldLo =>
    have hread : s.busRead m Reg.SYS_SEM_HELD_LO = (s.semHeld 0, s) := State.busRead_of_canRead hr
    simpa using exec_rcRead_semHeld rfl hread
  case heldHi =>
    have hread : s.busRead m Reg.SYS_SEM_HELD_HI = (s.semHeld 1, s) := State.busRead_of_canRead hr
    exact exec_rcRead_semHeld rfl hread

end Sys2Proof.Machine
end

section
/-! PROOFS. Fault records (spec/19_faults.md, R487 and R488): the record that an error opens, the records into which it is merged, and what ACK
leaves of a record. -/

namespace Sys2Proof.Machine

theorem satN_eq_min (top x : Nat) : satN top x = min top x := by
  unfold satN
  split <;> omega

/-! ## What an error leaves (R487, R488) -/

section
variable (b : Block) (k code cls spec unit : Nat)

/-- An error acts on the record of its own source only (R488). -/
theorem Block.frec_raise_ne {j : Nat} (h : j ≠ k) : (b.raise k code cls spec unit).frec j = b.frec j := tget_tput_ne _ _ _ _ _ _ h

/-- An error that finds no record pending opens one (R487). -/
theorem Block.frec_raise_opens (h : (b.frec k).pend = false) :
    (b.raise k code cls spec unit).frec k =
      { pend := true, code := code, cls := cls, spec := spec, merge := 0, blk := b.blk % 2 ^ 32, timer := true,
        grace := b.reg (graceReg k) % 2 ^ 16, at' := b.pclk, held := [⟨code, unit⟩] } := by
  rw [Block.frec_raise, h, Bool.and_false]
  simp [recAfter, h]

/-- An error that opens a record is noted among those of its cycle (R488). -/
theorem Block.cycle_raise_opens (h : (b.frec k).pend = false) : (b.raise k code cls spec unit).cycle = b.cycle.map (k :: ·) := by
  simp [Block.raise, h]

/-- An error of a later cycle is merged: CODE and the block-specific field stay (R487, R488). -/
theorem Block.frec_raise_later (h : (b.frec k).pend = true) (hc : k ∉ b.cycle.getD []) :
    (b.raise k code cls spec unit).frec k =
      { b.frec k with merge := min 255 ((b.frec k).merge + 1), cls := max (b.frec k).cls cls, held := (b.frec k).held ++ [⟨code, unit⟩] } := by
  have hlater : ((b.cycle.getD []).contains k && (b.frec k).pend) = false := by simp [hc]
  rw [Block.frec_raise, hlater, ← satN_eq_min]
  simp [recAfter, h]

/-- An error of the cycle in which the record opened competes for its CODE (R488). -/
theorem Block.frec_raise_sameCycle (h : (b.frec k).pend = true) (hc : k ∈ b.cycle.getD []) :
    (b.raise k code cls spec unit).frec k = recSame (b.frec k) code cls spec unit := by
  have hsame : ((b.cycle.getD []).contains k && (b.frec k).pend) = true := by simp [hc, h]
  rw [Block.frec_raise, if_pos hsame]

/-- An error that finds a record pending is merged into it, and CODE and the block-specific field keep the first error's values unless a lower code
arises in one cycle with it (R487, R488). -/
theorem Block.frec_raise_merges (h : (b.frec k).pend = true) :
    let r := b.frec k
    let q := (b.raise k code cls spec unit).frec k
    q.pend = true ∧ q.merge = min 255 (r.merge + 1) ∧ q.blk = r.blk ∧ q.cls = max r.cls cls ∧ q.timer = r.timer ∧ q.grace = r.grace ∧
      (k ∉ b.cycle.getD [] ∨ r.code ≤ code → q.code = r.code ∧ q.spec = r.spec) := by
  dsimp only
  by_cases hc : k ∈ b.cycle.getD []
  · rw [Block.frec_raise_sameCycle b k code cls spec unit h hc]
    refine ⟨h, satN_eq_min _ _, rfl, rfl, rfl, rfl, fun hkeep => ?_⟩
    have hle : (b.frec k).code ≤ code := hkeep.resolve_left (not_not_intro hc)
    exact ⟨Nat.min_eq_right hle, if_neg (Nat.not_lt.2 hle)⟩
  · rw [Block.frec_raise_later b k code cls spec unit h hc]
    exact ⟨h, rfl, rfl, rfl, rfl, rfl, fun _ => ⟨rfl, rfl⟩⟩

/-- Of two errors of one cycle that find no record pending, the one with the lower code opens it, though it came second (R488). -/
theorem Block.frec_raise_raise_lower (code' spec' : Nat) (hcycle : b.cycle = some []) (h : (b.frec k).pend = false) (hlt : code' < code) :
    let z := ((b.raise k code cls spec unit).raise k code' cls spec' unit).frec k
    z.pend = true ∧ z.code = code' ∧ z.spec = spec' ∧ z.merge = 1 := by
  have hnoted : k ∈ (b.raise k code cls spec unit).cycle.getD [] := by simp [b.cycle_raise_opens k code cls spec unit h, hcycle]
  dsimp only
  rw [Block.frec_raise_sameCycle _ k _ _ _ _ (b.pend_raise k code cls spec unit) hnoted, b.frec_raise_opens k code cls spec unit h]
  exact ⟨rfl, Nat.min_eq_left (Nat.le_of_lt hlt), if_pos hlt, rfl⟩

end

/-! ## ACK (R487) -/

theorem Block.frec_settle (b : Block) (k : Nat) : b.settle.frec k = b.frec k := Block.settle_keeps (·.frec k) (fun _ => rfl) b

theorem Block.frec_ack_same (b : Block) (k : Nat) : (b.ack k).frec k = recAck (b.frec k) := tget_tput_same _ _ _ _

theorem Block.frec_ack_ne (b : Block) {k j : Nat} (h : j ≠ k) : (b.ack k).frec j = b.frec j := tget_tput_ne _ _ _ _ _ _ h

/-- ACK changes the fault records and what waits for the next block tick (R491), and nothing else. -/
theorem Block.like_settle_ack (b : Block) (k : Nat) :
    (b.ack k).settle.like { b with flt := (b.ack k).settle.flt, escAcked := (b.ack k).settle.escAcked } := by
  have hflt : (b.ack k).settle.flt = (b.ack k).flt := Block.settle_keeps (·.flt) (fun _ => rfl) _
  have hesc : (b.ack k).settle.escAcked = (b.ack k).escAcked := Block.settle_keeps (·.escAcked) (fun _ => rfl) _
  rw [hflt, hesc]
  exact Block.like_settle _ _ rfl

/-- ACK of a source whose register can be reached completes; source 20, FWD, keeps no record (R487). -/
theorem exec_ack {k : Nat} {s : State} (hk : k < 32) (hfwd : k ≠ 20) (hisland : s.blk.islandOff (fltReg k) = false) :
    ∃ t, exec (.ack k) s = .next t ∧ t.pending = s.pending ∧ t.sems = s.sems ∧ t.blk = (s.blk.ack k).settle := by
  obtain ⟨t, ht, hpend, hsems, hblk⟩ := onRegBy_next 13 (fltReg k) true (fun b => if k < 32 ∧ k ≠ 20 then b.ack k else b) s hisland
  exact ⟨t, ht, hpend, hsems, hblk.trans (by rw [if_pos ⟨hk, hfwd⟩])⟩

/-- Settles O51: an error opens its source's record or is merged into it, by what it finds pending and by the cycle in which it arises, and ACK
leaves `recAck` of the record. -/
theorem faultRecords : Obligations.FaultRecords := by
  unfold Obligations.FaultRecords
  refine ⟨fun b k code cls spec unit => ⟨fun hfree => ?opens, fun hpend => ?merges, fun code' spec' => ?coincide, fun j => ?others⟩,
    fun s k hk hfwd hisland => ?ack⟩
  case opens =>
    rw [b.frec_raise_opens k code cls spec unit hfree]
    exact ⟨rfl, rfl, rfl, rfl, rfl, rfl, rfl, rfl⟩
  case merges =>
    obtain ⟨hp, hmerge, hblk, hcls, htimer, hgrace, hkeep⟩ := b.frec_raise_merges k code cls spec unit hpend
    exact ⟨hp, hmerge, hblk, hcls, htimer, hgrace, fun hlate => hkeep (hlate.imp_left fun hnone => by simp [hnone])⟩
  case coincide => exact b.frec_raise_raise_lower k code cls spec unit code' spec'
  case others => exact b.frec_raise_ne k code cls spec unit
  case ack =>
    obtain ⟨t, ht, hpend, hsems, hblk⟩ := exec_ack hk hfwd hisland
    refine ⟨t, ht, hpend, hsems, ?_⟩
    simp only [hblk, Block.frec_settle, Block.frec_ack_same]
    exact ⟨rfl, rfl, rfl, rfl, rfl, rfl, fun j hj => s.blk.frec_ack_ne hj, s.blk.like_settle_ack k⟩

end Sys2Proof.Machine
end
